-- ==== Sys2Proof/Word.lean ====
section
/-! DEFINITION. The word types of the SX8 and their plainest arithmetic (R5: bit 0 is the least
significant bit, multi-byte values are little-endian). -/

namespace Sys2Proof

/-- A 64-bit word: a scalar register, an instruction word, a quad of memory. -/
abbrev W64 := BitVec 64
/-- One byte. -/
abbrev Byte := BitVec 8
/-- A vector register: 2,048 bits, 64 lanes of 32 bits (R8, R48). -/
abbrev Vec := BitVec 2048

/-- The value of bit `b` as a 0/1 word of width `n`. -/
abbrev boolBV (n : Nat) (b : Bool) : BitVec n := if b then 1#n else 0#n

end Sys2Proof
end

