-- ==== Sys2Proof/Config.lean ====
section
/-! DEFINITION. What an implementation fixes and the spec leaves open: constants without a value, of which nothing can be
proved. Those applied to a number are free values: the number counts the draws. -/

namespace Sys2Proof

/-- The result of a self-test (R407): 0 for a pass.
Log 11: DESIGN CHOICE, safe. -/
opaque Config.testOutcome : Nat → Nat

/-- The correction count within one second above which firmware tests a unit (R407).
Log 81: DESIGN CHOICE, safe. -/
opaque Config.correctionLimit : Nat

/-- The area that firmware names in a pre-emption of its own (R10, R403): the number of a block of 4 MiB of far memory.
Log 80: DESIGN CHOICE, unsafe. -/
opaque Config.firmwareArea : Nat → BitVec 15

/-- The wavelength that a failed test of a link retires (R407).
Log 11: DESIGN CHOICE, safe. -/
opaque Config.failedWave : Nat → Nat

/-- The row of an array that a failed test of its matrix engine has found (R407).
Log 11: DESIGN CHOICE, safe. -/
opaque Config.failedRow : Nat → Nat

/-- A member of its group that a fabric reconfiguration has found reset (R366).
Log 56: DESIGN CHOICE, safe. -/
opaque Config.resetPeer : Nat → Nat → Bool

/-- The last stamp of the old group of a peer, as the manager of a reconfiguration hears it (R370).
Log 56: DESIGN CHOICE, safe. -/
opaque Config.peerStamp : Nat → Nat → Nat

/-- The spare rows of near memory (R407).
Log 12: DESIGN CHOICE, safe. -/
opaque Config.nearSpares : Nat

/-- The flits of a link's receive buffer for each receive-queue class (R362).
Log 12: DESIGN CHOICE, safe. -/
opaque Config.linkBuffer : Nat

/-- The key that an SPDM secured message carries in the session of a TDI; none when it does not authenticate (R411,
R413).
Log 13: PRESUMED, unsafe. -/
opaque Config.secureMessage : Nat → List Byte → Option (BitVec 256)

/-- The identifier of an LMS tree of the part (R419).
Log 13: PRESUMED, unsafe. -/
opaque Config.lmsId : Nat → BitVec 128

/-- The start of a chain of a one-time key of such a tree.
Log 13: PRESUMED, unsafe. -/
opaque Config.lmsSecret : Nat → Nat → Nat → BitVec 256

/-- The randomiser of a signature under a one-time key.
Log 13: PRESUMED, unsafe. -/
opaque Config.lmsRandom : Nat → Nat → BitVec 256

/-- The public key under which firmware images are verified (R419).
Log 13: PRESUMED, unsafe. -/
opaque Config.imageKey : List Byte

/-- The firmware image in flash, or with `true` the previous one, and its signature (R408, R419).
Log 13: PRESUMED, unsafe. -/
opaque Config.firmwareImage : Bool → List Byte × List Byte

/-- The SHA-256 of each firmware stage, of the image or with `true` of the previous one (R420).
Log 13: PRESUMED, unsafe. -/
opaque Config.firmwareStages : Bool → List (BitVec 256)

/-- The nonce of the part's own in a measurement response (R420).
Log 82: PRESUMED, unsafe. -/
opaque Config.reportNonce : Nat → BitVec 256

/-- The memory device, a home agent's, that a failed training has found (R408).
Log 11: DESIGN CHOICE, safe. -/
opaque Config.failedDevice : Nat → Nat

/-- The manager of the old group of a peer that is in another group than this chip, as firmware hears it (R413).
Log 56: DESIGN CHOICE, safe. -/
opaque Config.peerManager : Nat → Nat → Option Nat

/-- The key that seals the save areas of a context (R389).
Log 14: DESIGN CHOICE, safe. -/
opaque Config.sealKey : Nat → BitVec 256

/-- The bits [39:3] of the address of the frame list of an entry of a context at a generation, in the pool that firmware
lays out (R168).
Log 23: DESIGN CHOICE, safe. -/
opaque Config.frameListAt : Nat → Nat → Nat → BitVec 37

/-- The bits [39:13] of the address of the sub-list of a chunk of such an entry (R168).
Log 23: DESIGN CHOICE, safe. -/
opaque Config.subListAt : Nat → Nat → Nat → Nat → BitVec 27

/-- The code that a launch entry which a reset rung refuses takes, above 0x10 (R417, R77).
Log 15: DESIGN CHOICE, safe. -/
opaque Config.refusedCode : Nat → Nat

end Sys2Proof
end

