-- ==== Sys2Proof/Syntax.lean ====
section
/-! DEFINITION. The instructions and events of the SX8: one constructor for every row of the
opcode table. An instruction carries the raw fields of its format (R115, R123 to R129); an event
of another agent of the module carries what selects the event. -/

namespace Sys2Proof

/-- The three streams of a core (R7). -/
inductive Stream where
  | c
  | a
  | x
  deriving DecidableEq, Repr, Inhabited

/-- The guard of an instruction word, bits [55:44] (R115, R116). -/
structure Guard where
  gs : Bool
  gr : BitVec 5
  gb : BitVec 6
  deriving DecidableEq, Repr, Inhabited

/-- Format F3 (R123). -/
structure F3 where
  g : Guard
  d : BitVec 7
  s1 : BitVec 7
  s2 : BitVec 7
  fmt : BitVec 4
  rnd : BitVec 2
  fzi : Bool
  fzo : Bool
  sat : Bool
  mask : BitVec 3
  fn : BitVec 4
  res : BitVec 7
  deriving DecidableEq, Repr, Inhabited

/-- Format FI (R124). -/
structure FI where
  g : Guard
  d : BitVec 7
  s1 : BitVec 7
  imm : BitVec 30
  deriving DecidableEq, Repr, Inhabited

/-- Format FL (R125). -/
structure FL where
  g : Guard
  d : BitVec 7
  imm : BitVec 37
  deriving DecidableEq, Repr, Inhabited

/-- Format FB (R126). -/
structure FB where
  g : Guard
  d : BitVec 7
  s1 : BitVec 7
  ind : Bool
  slot : BitVec 3
  off : BitVec 26
  deriving DecidableEq, Repr, Inhabited

/-- Format FM (R127). -/
structure FM where
  g : Guard
  d : BitVec 7
  s1 : BitVec 7
  s2 : BitVec 7
  off : BitVec 12
  cls : BitVec 4
  scope : BitVec 2
  hint : BitVec 2
  sgn : Bool
  sz : BitVec 2
  deriving DecidableEq, Repr, Inhabited

/-- The indexed layout of format FM (R128). -/
structure FX where
  g : Guard
  d : BitVec 7
  s1 : BitVec 7
  s2 : BitVec 7
  x : BitVec 7
  off : BitVec 5
  cls : BitVec 4
  scope : BitVec 2
  hint : BitVec 2
  sgn : Bool
  sz : BitVec 2
  deriving DecidableEq, Repr, Inhabited

/-- Format FJ (R129). -/
structure FJ where
  g : Guard
  d : BitVec 7
  s1 : BitVec 7
  s2 : BitVec 7
  k : BitVec 4
  cls : BitVec 4
  res : BitVec 15
  deriving DecidableEq, Repr, Inhabited

/-- The address of a queue or a host-readable structure: host memory, or a physical address of
the module (R72, R414). -/
structure QAddr where
  host : Bool
  addr : Nat
  deriving DecidableEq, Repr, Inhabited

/-- A fabric packet: the fields of its header and its body (R357 to R359). `kind` numbers the
operation and `body` holds what the operation carries beside its sectors; the codes are listed
with the packet operations.
Log 52: DESIGN CHOICE, unsafe. -/
structure Packet where
  kind : Nat
  dst : Nat
  src : Nat
  sdie : Nat
  score : Nat
  sstr : Nat
  cls : Nat
  rq : Nat
  id : Nat
  line : Nat
  sect : Nat
  hops : Nat
  op : Nat
  mask : BitVec 128
  data : BitVec 1024
  body : List W64
  deriving DecidableEq, Repr, Inhabited

/-- Names a group of one launch: the launch (its die and launch number) and the group's index in
the group table (R108, R110). -/
structure GroupKey where
  die : Nat
  launch : Nat
  group : Nat
  deriving DecidableEq, Repr, Inhabited

/-- One contribution of a REDUCE job to a destination line (R251, R272): its record's key, slot and count, its
type and flags (R252), the bundle it writes as (R324), the job it comes from, and its elements; an empty one
stands for a source that failed (R253). -/
structure Contribution where
  ctx : Nat
  line : Nat
  epoch : Nat
  slot : Nat
  n : Nat
  fmt : Nat
  fzi : Bool
  fzo : Bool
  sat : Bool
  bpage : Bool
  bundle : Option Nat
  peer : Nat
  core : Nat
  job : Nat
  empty : Bool
  mask : BitVec 128
  data : BitVec 1024
  deriving DecidableEq, Repr, Inhabited

/-- One write of an MCAST job into one member's typed buffer (R273), at most an ABUF slot: the destination, its bytes,
those that are poisoned, the tag of the ABUF slot that the bytes are (R257, R258), and the job it comes from. -/
structure McastWrite where
  buf : Nat
  off : Nat
  count : Nat
  tag : Option Nat
  data : BitVec 8192
  bad : List Nat
  src : Nat
  job : Nat
  deriving DecidableEq, Repr, Inhabited

/-- A new group of a fabric reconfiguration as this chip's manager orders it (R366, R370, R413): its identifier, its
members, its manager, its sequencer and that sequencer's first stamp, the allowance of each pair, and the members that have been
reset (R342). -/
structure RoutesPlan where
  group : Nat
  members : List Nat
  manager : Nat
  sequencer : Nat
  stamp : Nat
  allowance : Nat
  fresh : List Nat
  deriving DecidableEq, Repr, Inhabited

/-- A management command: its eight quads and where the entry stands (R412). -/
structure Cmd where
  quads : List W64
  src : QAddr
  deriving DecidableEq, Repr, Inhabited

/-- The TDISP and SPDM messages of the host about a TDI (R409, R411): the lock names the TDI's IDE stream, and a session
begins and ends. -/
inductive TdispMsg where
  | lock (stream : Nat)
  | start
  | stop
  | openSession
  | closeSession
  deriving DecidableEq, Repr, Inhabited

/-- A request of the host port to memory (R18, R409): the function that it addresses, its T bit, the IDE stream on which it
arrives, whether it is to host memory, and the access. -/
structure HostRequest where
  tdi : Nat
  tbit : Bool
  stream : Option Nat
  host : Bool
  addr : Nat
  write : Option (List Byte)
  len : Nat
  deriving DecidableEq, Repr, Inhabited

/-- The instructions and events of the SX8. The rows named after an instruction word carry its
fields; the other rows are the events of the module's own agents and of its ports, each one
indivisible step (the opcode table lists them). -/
inductive Instr where
  /-- ADD (R136). Writes the 64-bit wrapped sum of s1 and s2 to d, or the clamped sum when sat is set. -/
  | add (f : F3)
  /-- SUB (R136). Writes the 64-bit wrapped difference s1 minus s2 to d, or the clamped difference when sat is set. -/
  | sub (f : F3)
  /-- MUL (R136). Writes the low 64 bits of the product to d, or the clamped product when sat is set. -/
  | mul (f : F3)
  /-- MULH (R136). Writes bits 127:64 of the signed 128-bit product to d. -/
  | mulh (f : F3)
  /-- MULHN (R136). Writes bits 127:64 of the unsigned 128-bit product to d. -/
  | mulhn (f : F3)
  /-- DIV (R137). Signed division truncating toward zero, with defined results for a zero divisor and for overflow. -/
  | div (f : F3)
  /-- DIVN (R137). Unsigned floor division, with all ones as the result of a zero divisor. -/
  | divn (f : F3)
  /-- REM (R137). Signed remainder with the sign of the dividend, with defined borderline results. -/
  | rem (f : F3)
  /-- REMN (R137). Unsigned remainder, returning a when the divisor is zero. -/
  | remn (f : F3)
  /-- AND (R136). Writes the bitwise AND of s1 and s2 to d. -/
  | and (f : F3)
  /-- OR (R136). Writes the bitwise OR of s1 and s2 to d. -/
  | or (f : F3)
  /-- XOR (R136). Writes the bitwise XOR of s1 and s2 to d. -/
  | xor (f : F3)
  /-- ANDN (R136). Writes s1 AND NOT s2 to d. -/
  | andn (f : F3)
  /-- SHL (R136). Shifts s1 left by the low 6 bits of s2. -/
  | shl (f : F3)
  /-- SHR (R136). Shifts s1 logically right by the low 6 bits of s2. -/
  | shr (f : F3)
  /-- SRA (R136). Shifts s1 arithmetically right by the low 6 bits of s2. -/
  | sra (f : F3)
  /-- ROL (R136). Rotates s1 left by the low 6 bits of s2. -/
  | rol (f : F3)
  /-- ROR (R136). Rotates s1 right by the low 6 bits of s2. -/
  | ror (f : F3)
  /-- MIN (R136). Writes the lesser of s1 and s2 compared as signed values. -/
  | min (f : F3)
  /-- MAX (R136). Writes the greater of s1 and s2 compared as signed values. -/
  | max (f : F3)
  /-- MINN (R136). Writes the lesser of s1 and s2 compared as unsigned values. -/
  | minn (f : F3)
  /-- MAXN (R136). Writes the greater of s1 and s2 compared as unsigned values. -/
  | maxn (f : F3)
  /-- CMPEQ (R136). Writes 1 to d when s1 equals s2, and 0 otherwise. -/
  | cmpeq (f : F3)
  /-- CMPNE (R136). Writes 1 to d when s1 differs from s2, and 0 otherwise. -/
  | cmpne (f : F3)
  /-- CMPLT (R136). Writes 1 to d when s1 is less than s2 as signed values. -/
  | cmplt (f : F3)
  /-- CMPLTN (R136). Writes 1 to d when s1 is less than s2 as unsigned values. -/
  | cmpltn (f : F3)
  /-- CMPLE (R136). Writes 1 to d when s1 is at most s2 as signed values. -/
  | cmple (f : F3)
  /-- CMPLEN (R136). Writes 1 to d when s1 is at most s2 as unsigned values. -/
  | cmplen (f : F3)
  /-- CLZ (R136). Counts the leading zero bits of s1, giving 64 for zero. -/
  | clz (f : F3)
  /-- CTZ (R136). Counts the trailing zero bits of s1, giving 64 for zero. -/
  | ctz (f : F3)
  /-- POPC (R136). Counts the set bits of s1. -/
  | popc (f : F3)
  /-- ADDI (R138). Adds the sign-extended 30-bit immediate to s1. -/
  | addi (f : FI)
  /-- MULI (R138). Multiplies s1 by the sign-extended immediate. -/
  | muli (f : FI)
  /-- ANDI (R138). Writes s1 AND the sign-extended immediate to d. -/
  | andi (f : FI)
  /-- ORI (R138). Writes s1 OR the sign-extended immediate to d. -/
  | ori (f : FI)
  /-- XORI (R138). Writes s1 XOR the sign-extended immediate to d. -/
  | xori (f : FI)
  /-- SHLI (R138). Shifts s1 left by imm[5:0]. -/
  | shli (f : FI)
  /-- SHRI (R138). Shifts s1 logically right by imm[5:0]. -/
  | shri (f : FI)
  /-- SRAI (R138). Shifts s1 arithmetically right by imm[5:0]. -/
  | srai (f : FI)
  /-- CMPEQI (R138). Writes 1 to d when s1 equals the sign-extended immediate. -/
  | cmpeqi (f : FI)
  /-- CMPNEI (R138). Writes 1 to d when s1 differs from the sign-extended immediate. -/
  | cmpnei (f : FI)
  /-- CMPLTI (R138). Writes 1 to d when s1 is less than the immediate as signed values. -/
  | cmplti (f : FI)
  /-- CMPLTNI (R138). Writes 1 to d when s1 is less than the immediate as unsigned values. -/
  | cmpltni (f : FI)
  /-- EXTR (R139). Extracts an unsigned bit field of s1 given by pos and len. -/
  | extr (f : FI)
  /-- EXTRS (R139). Extracts a bit field of s1 given by pos and len and sign-extends it. -/
  | extrs (f : FI)
  /-- LIMM (R140). Writes the 64-bit literal in the next slot to d. -/
  | limm (f : FL) (lit : W64)
  /-- ULD (R142). Loads bytes of the launch's uniform snapshot into d, trapping with TOKEN_BOUNDS beyond L. -/
  | uld (f : FI)
  /-- BR (R145). Transfers control to a direct or register-held target. -/
  | br (f : FB)
  /-- CALL (R146). Writes the fall-through PC to the link register and transfers to its target. -/
  | call (f : FB)
  /-- RET (R147). Transfers to the value of s1 and marks a return for the fetch predictor. -/
  | ret (f : FB)
  /-- LOOP (R148). Decrements a non-zero count register and branches while the count stays non-zero. -/
  | loop (f : FB)
  /-- START (R149). Once the named A or X stream is idle, starts its chain at the target. -/
  | start (f : FB)
  /-- SPAWN (R153). Checks a descriptor, takes a record-pool slot and writes a new continuation record. -/
  | spawn (f : FB)
  /-- YIELD (R154). Suspends the continuation, which re-enters READY with a new t0. -/
  | yield (f : FI)
  /-- AWAIT (R346). Tests a word for equality or inequality with d, and parks the record WAITING until the condition holds. -/
  | await (f : FM)
  /-- EXIT (R155). Ends the continuation, frees its record slot, and ends the launch when it is the last continuation. -/
  | exit (f : FI)
  /-- FEED (R157). Claims one entry of a feed queue atomically at its home, polling or sleeping when the queue is empty. -/
  | feed (f : FM)
  /-- JPOST (R277). Reads a job card from SPAD, checks its signal word and enters the job into the core's Sideboard. -/
  | jpost (f : FJ)
  /-- REMQ (R278). Posts a job card into another core's Sideboard, blocking as a suspension point when that Sideboard is full. -/
  | remq (f : FJ)
  /-- WAIT (R289). Stalls the stream until its outstanding-operation counters reach the named limits, optionally finishing the chain. -/
  | wait (f : FL)
  /-- SIGWAIT (R346). Parks the record WAITING until a signal word's count reaches a target or its error bit is set. -/
  | sigwait (f : FM)
  /-- GBAR (R349). Arrives at a group barrier and stalls until every member's barrier count has reached the new value. -/
  | gbar (f : FI)
  /-- PHASE (R350). Advances the core's phase counter for a group within the lead allowance, stalling until that allowance permits. -/
  | phase (f : FI)
  /-- XLAT (R200). Translates a virtual extent into a new Cabinet entry and token with the requested rights. -/
  | xlat (f : F3)
  /-- REFRESH (R201). Re-translates the entry that a token names under a new generation. -/
  | refresh (f : F3)
  /-- TDROP (R202). Frees the Cabinet entry that a token names, draining it first when it is LIVE. -/
  | tdrop (f : F3)
  /-- TQUERY_CTL (R203). Writes the named entry's ctl word to d. -/
  | tqueryCtl (f : F3)
  /-- TQUERY_VBASE (R203). Writes the named entry's vbase to d. -/
  | tqueryVbase (f : F3)
  /-- TQUERY_LEN (R203). Writes the named entry's length word to d. -/
  | tqueryLen (f : F3)
  /-- TQUERY_CUR (R203). Writes the ctl word to d, and writes a token with the entry's current generation to k. -/
  | tqueryCur (f : F3)
  /-- TQUERY_GET (R203). Copies the value of k into d. -/
  | tqueryGet (f : F3)
  /-- TQUERY_SET (R203). Copies the value of the S register d into k without any check. -/
  | tquerySet (f : F3)
  /-- REQPG (R205). Posts a request into the context's page-request ring, asking the runtime to make pages resident. -/
  | reqpg (f : FM)
  /-- FENCE (R344). Orders the stream's events of the masked classes by kind and scope. -/
  | fence (f : FI)
  /-- SIGADD (R345). Adds to a signal word as a release in one read-modify-write, setting err and cause when the value carries them. -/
  | sigadd (f : FM)
  /-- SIGSET (R345). Writes a whole signal word as a release in one read-modify-write. -/
  | sigset (f : FM)
  /-- LDS (R206). Loads a scalar through a token, or from a local buffer with .loc, into d. -/
  | lds (f : FM)
  /-- STS (R206). Stores a scalar through a token, or to a local buffer with .loc. -/
  | sts (f : FM)
  /-- LDACQ (R206). Performs a scalar load-acquire in its class at its scope. -/
  | ldacq (f : FM)
  /-- STREL (R206). Performs a scalar store-release in its class at its scope. -/
  | strel (f : FM)
  /-- WBACK (R214). Writes a dirty cached line back to its home and keeps the line valid. -/
  | wback (f : FM)
  /-- INVAL (R214). Writes a dirty cached line back to its home, then invalidates the issuing core's copy. -/
  | inval (f : FM)
  /-- DISCARD (R215). Zeroes a line at its home and invalidates cached copies without write-back. -/
  | discard (f : FM)
  /-- PREF (R216). Prefetches a line into the core's CACHE for reading or with ownership, with no architectural effect. -/
  | pref (f : FM)
  /-- AADD (R337). Atomically adds the operand to a word and returns the old value. -/
  | aadd (f : FX)
  /-- AMIN (R337). Atomically stores the signed minimum and returns the old value. -/
  | amin (f : FX)
  /-- AMAX (R337). Atomically stores the signed maximum and returns the old value. -/
  | amax (f : FX)
  /-- AMINN (R337). Atomically stores the unsigned minimum and returns the old value. -/
  | aminn (f : FX)
  /-- AMAXN (R337). Atomically stores the unsigned maximum and returns the old value. -/
  | amaxn (f : FX)
  /-- AAND (R337). Atomically ANDs the operand into a word and returns the old value. -/
  | aand (f : FX)
  /-- AOR (R337). Atomically ORs the operand into a word and returns the old value. -/
  | aor (f : FX)
  /-- AXOR (R337). Atomically XORs the operand into a word and returns the old value. -/
  | axor (f : FX)
  /-- ASWAP (R337). Atomically swaps the operand into a word and returns the old value. -/
  | aswap (f : FX)
  /-- ACAS (R337). Atomically writes the new value when the old value equals the expected one, and returns the old value. -/
  | acas (f : FX)
  /-- BNEW (R330). Opens the lowest FREE Wardrobe record at a home peer for p participants and returns its name. -/
  | bnew (f : FI)
  /-- BJOIN (R331). Joins a bundle with an extent of B lines and binds a class to it. -/
  | bjoin (f : FM)
  /-- BSEAL (R332). Seals the bundle bound to a class once its writes have performed, possibly committing or aborting it. -/
  | bseal (f : FI)
  /-- BABORT (R333). Clears a class binding and aborts an OPEN bundle. -/
  | babort (f : FI)
  /-- BVIEW_NOW (R334). Sets sys.bview to the chip's complete-through stamp. -/
  | bviewNow (f : FI)
  /-- BVIEW_SET (R334). Sets sys.bview to a given stamp, raising VIEW when that stamp lies above the complete-through stamp. -/
  | bviewSet (f : FI)
  /-- BVIEW_CLR (R334). Clears sys.bview so that each load uses the current complete-through stamp. -/
  | bviewClr (f : FI)
  /-- BCHECK (R335). Returns the state and stamp of a named Wardrobe record. -/
  | bcheck (f : FI)
  /-- BCHECK_CLS (R335). Returns the bundle name bound to a class, or all ones when the class is unbound. -/
  | bcheckCls (f : FI)
  /-- VLD (R209). Loads a contiguous vector into a reserved load-queue slot. -/
  | vld (f : FM)
  /-- VLDS (R209). Loads a strided vector into a reserved load-queue slot. -/
  | vlds (f : FX)
  /-- VLDX (R210). Gathers the elements named by indices taken from a store queue into a load-queue slot. -/
  | vldx (f : FX)
  /-- LDB (R209). Loads one element and broadcasts it across a load-queue slot. -/
  | ldb (f : FM)
  /-- VST (R209). Stores the enabled elements of a store-queue entry contiguously. -/
  | vst (f : FM)
  /-- VSTS (R209). Stores the enabled elements of a store-queue entry with a stride. -/
  | vsts (f : FX)
  /-- VSTX (R210). Scatters enabled elements to the offsets named by indices from another store queue. -/
  | vstx (f : FX)
  /-- LLD (R212). Loads 256 bytes of a local buffer into a load-queue slot. -/
  | lld (f : FM)
  /-- LST (R212). Stores the enabled lanes of a store-queue head into 256 bytes of a local buffer. -/
  | lst (f : FM)
  /-- VLLD (R212). Loads 1,024 buffer bytes into one slot of each of the four load queues. -/
  | vlld (f : FM)
  /-- VLST (R212). Stores the heads of sq0 and sq1 into 512 buffer bytes. -/
  | vlst (f : FM)
  /-- LQPUT (R213). Fills a new load-queue slot with a scalar replicated to every element. -/
  | lqput (f : F3)
  /-- SQGET (R213). Takes a store-queue head and writes one 64-bit part of it to a scalar register. -/
  | sqget (f : F3)
  /-- TCHK (R204). Writes the result of a token check to d without making any access. -/
  | tchk (f : F3)
  /-- RPROBE (R217). Writes a bitmap of the 64 KiB pages of an extent that lie in holes. -/
  | rprobe (f : FM)
  /-- SQDROP (R213). Takes a store-queue head and discards it. -/
  | sqdrop (f : F3)
  /-- VADD (R224). Adds the elements of two vectors, rounded once. -/
  | vadd (f : F3)
  /-- VSUB (R224). Subtracts the elements of one vector from another, rounded once. -/
  | vsub (f : F3)
  /-- VMUL (R224). Multiplies the elements of two vectors, rounded once. -/
  | vmul (f : F3)
  /-- VDIV (R224). Divides the elements of one vector by another, rounded once. -/
  | vdiv (f : F3)
  /-- VSQRT (R224). Takes the square root of each element, rounded once. -/
  | vsqrt (f : F3)
  /-- VFMA (R224). Computes a × b + c for each element with a single rounding. -/
  | vfma (f : F3)
  /-- VFMS (R224). Computes a × b − c for each element with a single rounding. -/
  | vfms (f : F3)
  /-- VFNMA (R224). Computes −(a × b) − c for each element with a single rounding. -/
  | vfnma (f : F3)
  /-- VFNMS (R224). Computes −(a × b) + c for each element with a single rounding. -/
  | vfnms (f : F3)
  /-- VMIN (R225). Takes the elementwise floating-point minimum. -/
  | vmin (f : F3)
  /-- VMAX (R225). Takes the elementwise floating-point maximum. -/
  | vmax (f : F3)
  /-- VABS (R225). Clears the sign bit of each element. -/
  | vabs (f : F3)
  /-- VNEG (R225). Inverts the sign bit of each element. -/
  | vneg (f : F3)
  /-- VABD (R224). Writes the absolute difference of each pair of elements. -/
  | vabd (f : F3)
  /-- VRCP (R226). Writes a reciprocal of each element rounded to 12 significant bits. -/
  | vrcp (f : F3)
  /-- VRSQ (R226). Writes a reciprocal square root of each element rounded to 12 significant bits. -/
  | vrsq (f : F3)
  /-- VEXP2 (R226). Writes 2 to the power of each element, rounded once. -/
  | vexp2 (f : F3)
  /-- VLOG2 (R226). Writes the base-2 logarithm of each element, rounded once. -/
  | vlog2 (f : F3)
  /-- VSIN (R226). Writes sin(π·a) for each element, rounded once. -/
  | vsin (f : F3)
  /-- VCOS (R226). Writes cos(π·a) for each element, rounded once. -/
  | vcos (f : F3)
  /-- VTANH (R226). Writes tanh of each element, rounded once. -/
  | vtanh (f : F3)
  /-- VSIGM (R226). Writes the logistic sigmoid of each element, rounded once. -/
  | vsigm (f : F3)
  /-- VSCALE (R224). Multiplies each element by 2 to the power of an integer element. -/
  | vscale (f : F3)
  /-- VROUND (R225). Rounds each element to an integral value in the direction of rnd. -/
  | vround (f : F3)
  /-- VCLAMP (R225). Clamps each element between two bounds. -/
  | vclamp (f : F3)
  /-- VSGNJ (R225). Gives each element the magnitude of a and a sign derived from b. -/
  | vsgnj (f : F3)
  /-- VCLASS (R225). Writes a one-hot class code for each element. -/
  | vclass (f : F3)
  /-- VCVT (R227). Converts elements from a source type to a destination type. -/
  | vcvt (f : F3)
  /-- VDOT (R228). Accumulates the dot products of the narrow elements within each 32-bit lane into d. -/
  | vdot (f : F3)
  /-- VCMP (R229). Compares floating-point elements into a mask or a vector. -/
  | vcmp (f : F3)
  /-- VPADD (R224). Adds adjacent pairs of elements from two sources. -/
  | vpadd (f : F3)
  /-- VPACK (R233). Concatenates the low halves of two vectors. -/
  | vpack (f : F3)
  /-- VUNPACK (R233). Moves the high half of a vector to its low half and zeroes the rest. -/
  | vunpack (f : F3)
  /-- VREDSUM (R232). Reduces the active floating-point elements by a fixed pairwise tree of sums into a scalar. -/
  | vredsum (f : F3)
  /-- VREDMAX (R232). Reduces the active elements to their floating-point maximum. -/
  | vredmax (f : F3)
  /-- VREDMIN (R232). Reduces the active elements to their floating-point minimum. -/
  | vredmin (f : F3)
  /-- VREDADD (R232). Reduces the active integer elements by addition. -/
  | vredadd (f : F3)
  /-- VREDAND (R232). Reduces the active integer elements by bitwise AND. -/
  | vredand (f : F3)
  /-- VREDOR (R232). Reduces the active integer elements by bitwise OR. -/
  | vredor (f : F3)
  /-- VREDXOR (R232). Reduces the active integer elements by bitwise XOR. -/
  | vredxor (f : F3)
  /-- VIADD (R230). Adds integer elements, wrapping or saturating. -/
  | viadd (f : F3)
  /-- VISUB (R230). Subtracts integer elements, wrapping or saturating. -/
  | visub (f : F3)
  /-- VIMUL (R230). Writes the low w bits of each integer product. -/
  | vimul (f : F3)
  /-- VIMULH (R230). Writes the high w bits of each integer product. -/
  | vimulh (f : F3)
  /-- VIMAC (R230). Computes the integer multiply-accumulate c + a × b for each element. -/
  | vimac (f : F3)
  /-- VAND (R230). Takes the elementwise bitwise AND. -/
  | vand (f : F3)
  /-- VOR (R230). Takes the elementwise bitwise OR. -/
  | vor (f : F3)
  /-- VXOR (R230). Takes the elementwise bitwise XOR. -/
  | vxor (f : F3)
  /-- VANDN (R230). Takes the elementwise a AND NOT b. -/
  | vandn (f : F3)
  /-- VSHL (R230). Shifts each element left. -/
  | vshl (f : F3)
  /-- VSHR (R230). Shifts each element logically right. -/
  | vshr (f : F3)
  /-- VSRA (R230). Shifts each element arithmetically right. -/
  | vsra (f : F3)
  /-- VIMIN (R230). Takes the elementwise signed minimum. -/
  | vimin (f : F3)
  /-- VIMAX (R230). Takes the elementwise signed maximum. -/
  | vimax (f : F3)
  /-- VIMINN (R230). Takes the elementwise unsigned minimum. -/
  | viminn (f : F3)
  /-- VIMAXN (R230). Takes the elementwise unsigned maximum. -/
  | vimaxn (f : F3)
  /-- VICMP (R229). Compares integer elements into a mask or a vector. -/
  | vicmp (f : F3)
  /-- VIABS (R230). Takes the integer absolute value of each element. -/
  | viabs (f : F3)
  /-- VINEG (R230). Takes the integer negation of each element. -/
  | vineg (f : F3)
  /-- VPOPC (R230). Counts the set bits of each element. -/
  | vpopc (f : F3)
  /-- VCLZ (R230). Counts the leading zero bits of each element. -/
  | vclz (f : F3)
  /-- VSEL (R233). Selects each lane from s1 or s2 by a mask. -/
  | vsel (f : F3)
  /-- VPERM (R233). Permutes the elements of s1 by the indices in s2. -/
  | vperm (f : F3)
  /-- VSHUF (R233). Exchanges elements by XORing their index with a power of two. -/
  | vshuf (f : F3)
  /-- VBCAST (R233). Broadcasts one selected element to every element. -/
  | vbcast (f : F3)
  /-- VMOV (R233). Copies the active lanes of s1 to d. -/
  | vmov (f : F3)
  /-- VZIP (R233). Interleaves the elements of two vectors. -/
  | vzip (f : F3)
  /-- VUNZIP (R233). De-interleaves the even or odd elements of two vectors. -/
  | vunzip (f : F3)
  /-- VCOMPRESS (R233). Packs the active lanes of s1 into the low lanes of d and zeroes the rest. -/
  | vcompress (f : F3)
  /-- VEXPAND (R233). Spreads the low lanes of s1 into the active lanes of d. -/
  | vexpand (f : F3)
  /-- VIDX (R233). Writes each element's own index into that element. -/
  | vidx (f : F3)
  /-- VPOP (R235). Pops the head slot of a load queue into a vector register and a flags mask. -/
  | vpop (f : F3)
  /-- VPUSH (R236). Pushes a vector and a lane-enable word onto a store queue. -/
  | vpush (f : F3)
  /-- MAND (R237). Takes the bitwise AND of two masks. -/
  | mand (f : F3)
  /-- MOR (R237). Takes the bitwise OR of two masks. -/
  | mor (f : F3)
  /-- MXOR (R237). Takes the bitwise XOR of two masks. -/
  | mxor (f : F3)
  /-- MANDN (R237). Takes s1 AND NOT s2 of two masks. -/
  | mandn (f : F3)
  /-- MNOT (R237). Inverts a mask. -/
  | mnot (f : F3)
  /-- MMOV (R237). Copies a mask. -/
  | mmov (f : F3)
  /-- MSET (R237). Sets a mask from an e register. -/
  | mset (f : F3)
  /-- MGET (R237). Copies a mask into an e register. -/
  | mget (f : F3)
  /-- MCNT (R237). Counts the set bits of a mask. -/
  | mcnt (f : F3)
  /-- CKACC (R238). Adds an integer or floating-point checksum contribution into a checksum register when it lands. -/
  | ckacc (f : F3)
  /-- CKCHK (R239). Compares two checksum registers exactly or within a tolerance and raises CHECK on failure. -/
  | ckchk (f : F3)
  /-- CKCLR (R239). Clears a checksum register. -/
  | ckclr (f : F3)
  /-- CKGET (R239). Reads the low or high half of a checksum register into a scalar. -/
  | ckget (f : F3)
  /-- MFIRST (R237). Writes the index of a mask's lowest set bit, or 64 when there is none. -/
  | mfirst (f : F3)
  /-- VIADDI (R231). Adds a sign-extended immediate to every integer element. -/
  | viaddi (f : FI)
  /-- VSHLI (R231). Shifts every element left by an immediate. -/
  | vshli (f : FI)
  /-- VSHRI (R231). Shifts every element logically right by an immediate. -/
  | vshri (f : FI)
  /-- VSRAI (R231). Shifts every element arithmetically right by an immediate. -/
  | vsrai (f : FI)
  /-- VEXT (R234). Extracts one element into a scalar register. -/
  | vext (f : FI)
  /-- VINS (R234). Inserts a scalar into one element of a vector. -/
  | vins (f : FI)
  /-- VSLIDE (R234). Slides lanes up or down by a count and zero-fills the vacated lanes. -/
  | vslide (f : FI)
  /-- VIMM (R234). Fills every element with a sign-extended immediate. -/
  | vimm (f : FI)
  /-- VLIMM (R234). Fills every 64-bit lane pair with the literal in the next slot. -/
  | vlimm (f : FL) (lit : W64)
  /-- REVOKE (R396). Starts the revocation steps on another context's Cabinet entry and signals when they complete. -/
  | revoke (f : F3)
  /-- GRANT (R396). Copies an entry with reduced rights into another context's Cabinet and pins its frames again. -/
  | grant (f : F3)
  /-- TSWEEP (R396). Replaces saved tokens of RETIRED entries with zero and frees those entries. -/
  | tsweep (f : F3)
  /-- TCFLUSH (R396). Flushes a context's translations from every die's TLB. -/
  | tcflush (f : F3)
  /-- PGCLASS (R397). Recalls every cached copy of a page at its home and records the page's new coherence class. -/
  | pgclass (f : F3)
  /-- CKPT (R398). Closes a context's checkpoint interval and opens the next one. -/
  | ckpt (f : FI)
  /-- CKROLL (R406). Rolls a context back to the start of its interval from the undo log. -/
  | ckroll (f : FI)
  /-- ROLESET (R182). Changes the roles of selected banks, handling CACHE lines and zeroing the changed banks. -/
  | roleset (f : FI)
  /-- CSRR (R392). Reads a system register into d. -/
  | csrr (f : FL)
  /-- CSRW (R392). Writes d to a system register, subject to that register's access rights. -/
  | csrw (f : FL)
  /-- SYSCALL (R394). Raises SYSCALL with its code. -/
  | syscall (f : FI)
  /-- TRET (R394). Returns from a trap, delivering any pending trap or resuming the three streams. -/
  | tret (f : FI)
  /-- HALT (R394). Freezes the core and reports it halted to the management complex. -/
  | halt (f : FI)
  /-- CTXSAVE_KEEP (R385). Pre-empts a core's continuation into a save area and keeps its local memory resident. -/
  | ctxsaveKeep (f : F3)
  /-- CTXSAVE_DROP (R385). Pre-empts a core's continuation into a save area and releases its local memory. -/
  | ctxsaveDrop (f : F3)
  /-- CTXLOAD (R390). Checks a save area and restores its continuation onto a core. -/
  | ctxload (f : F3)
  /-- CTXLOAD_EVICT (R399). Restores a save area onto a core after discarding another SAVED record's resident local memory. -/
  | ctxloadEvict (f : F3)
  /-- STEST (R398). Runs a targeted self-test of a unit and returns its outcome. -/
  | stest (f : FI)
  /-- SHELFPUT (R399). Places a checked continuation record into a live launch as READY. -/
  | shelfput (f : F3)
  /-- LINE_FETCH (R31). A stream reads a 64-byte code line atomically and checks it before issuing from it. -/
  | lineFetch (core : Nat) (str : Stream)
  /-- LAUNCH_RECORD (R76). The front end takes a launch record whole, checks it, obtains residual code, writes the status and places the initial continuations. -/
  | launchRecord (die : Nat) (ctx : Nat) (src : QAddr)
  /-- BENCH_WAIT_END (R88). A launch that missed on a key already being specialised takes that Bench run's result when it ends. -/
  | benchWaitEnd (die : Nat)
  /-- POOL_SLOT_WAIT_END (R99). At step 7 the front end proceeds once count record-pool slots are free. -/
  | poolSlotWaitEnd (die : Nat)
  /-- FEED_APPEND (R80). The front end of the queue's home die appends c entries to a feed queue and advances tail. -/
  | feedAppend (die : Nat) (ctx : Nat) (src : QAddr)
  /-- FEED_WAKE (R158). A woken sleeping feed tests its queue again. -/
  | feedWake (core : Nat)
  /-- FABRIC_LAUNCH (R83). A die's fabric launch queue takes a launch or feed-append packet from a listed scheduler and replies with the status. -/
  | fabricLaunch (die : Nat) (p : Packet)
  /-- RESIDENCY_REQUEST (R84). A die answers a scheduler's residency request with its cache keys and resident Z entries. -/
  | residencyRequest (die : Nat) (p : Packet)
  /-- PICKUP (R101). An idle core chooses a READY record by level, age and die order and sets up its C stream. -/
  | pickup (core : Nat)
  /-- EFFECTIVE_LEVEL_RISE (R105). Every 4,096 cycles of waiting, a READY record's effective level rises by one, up to 7. -/
  | effectiveLevelRise (die : Nat)
  /-- SPAWN_READY (R153). A spawned record enters READY once the C stream's earlier loads and stores have performed. -/
  | spawnReady (die : Nat) (slot : Nat)
  /-- WAITER_WAKE (R104). A WAITING record whose signal condition has come to hold enters READY with the satisfying value. -/
  | waiterWake (die : Nat) (slot : Nat)
  /-- REMQ_UNBLOCK (R278). A BLOCKED remq record enters its job and becomes READY when a slot of the target Sideboard frees. -/
  | remqUnblock (die : Nat) (slot : Nat)
  /-- PHASE_COUNT_ARRIVAL (R111). A neighbour's new phase counter value reaches a core. -/
  | phaseCountArrival (dst : Nat) (src : Nat) (group : GroupKey) (value : BitVec 32)
  /-- BARRIER_COUNT_ARRIVAL (R349). A member's new barrier count reaches the other members of its group. -/
  | barrierCountArrival (dst : Nat) (src : Nat) (group : GroupKey) (value : BitVec 32)
  /-- JOB_DISPATCH (R275). An engine dispatches its oldest READY job after the checks at dispatch. -/
  | jobDispatch (core : Nat) (matrix : Bool)
  /-- SHARE_GRANT (R113). A freed power share goes to the longest-waiting job on its die. -/
  | shareGrant (die : Nat)
  /-- SHARE_WAIT_EXPIRY (R113). A job that has waited 65,536 cycles takes precedence for the next free share of its die. -/
  | shareWaitExpiry (core : Nat) (slot : Nat)
  /-- JOB_COMPLETION (R287). A job whose writes have performed enters DONE, releases its successors and updates its signal word. -/
  | jobCompletion (core : Nat) (slot : Nat)
  /-- SIGNAL_UPDATE_ACK (R287). The home acknowledges a job's signal update, which releases the held in-flight count and frees the slot. -/
  | signalUpdateAck (core : Nat) (slot : Nat)
  /-- SHADOW_LOAD (R243). A shadow-plane load from WBUF completes, with its format and scales. -/
  | shadowLoad (core : Nat)
  /-- PLANE_SWAP (R243). At a pass boundary the loaded shadow plane becomes the active plane. -/
  | planeSwap (core : Nat)
  /-- MATRIX_PASS (R267). A pass streams rows past the active plane and updates the accumulators in CBUF. -/
  | matrixPass (core : Nat)
  /-- RETIREMENT (R244). A complete reduction retires through post-processing and advances the cursor. -/
  | retirement (core : Nat)
  /-- COPY_LINE (R249). The copy engine checks the token again and issues one line of a job. -/
  | copyLine (core : Nat)
  /-- COPY_LINE_COMPLETE (R250). A copy line's destination write completes and its in-flight count falls. -/
  | copyLineComplete (core : Nat)
  /-- REDUCE_CONTRIBUTION (R251). A home applies reduction contributions to a line in ascending slot order under epochs. -/
  | reduceContribution (c : Contribution)
  /-- MCAST_MEMBER_WRITE (R273). A member core checks and applies an arriving MCAST write to its buffer. -/
  | mcastMemberWrite (core : Nat) (m : McastWrite)
  /-- TABLE_FREEZE (R255). A learned compression slot freezes its code lengths at the resampling interval. -/
  | tableFreeze (die : Nat) (slot : Nat) (lens : List Nat)
  /-- REQUEST_PERFORM (R172). A checked request performs: its data arrives or its acknowledgement returns, and counters and slots update. -/
  | requestPerform (core : Nat) (str : Stream)
  /-- X_RESULT_LANDING (R219). An X result lands in its register at issue plus latency. -/
  | xResultLanding (core : Nat)
  /-- TRANSLATION_COMPLETE (R167). The translation unit finishes a walk and writes its status and token. -/
  | translationComplete (core : Nat)
  /-- SHOOT_DOWN (R173). A core removes a revoked entry from its token cache and acknowledges it. -/
  | shootDown (core : Nat) (ctx : Nat) (index : Nat)
  /-- DRAIN_COMPLETE (R173). When the in-flight counts of a DRAINING entry reach zero, its frames are unpinned and the entry moves on. -/
  | drainComplete (ctx : Nat) (index : Nat)
  /-- PIN_REQUEST (R169). A home adds one to a frame's pin count for a translation. -/
  | pinRequest (p : Packet)
  /-- UNPIN_REQUEST (R169). A home removes a pin for a revocation. -/
  | unpinRequest (p : Packet)
  /-- TIER_MOVE (R178). A home moves a page between its near and far memory. -/
  | tierMove (frame : Nat) (size : Nat) (dest : Nat)
  /-- MIGRATION_LINE_COPY (R371). The copy cursor copies the next line of a migrating page. -/
  | migrationLineCopy (page : Nat) (size : Nat) (peer : Nat) (dest : Nat)
  /-- MIGRATION_RETRY (R371). A source resends a request answered with retry after 64 cycles. -/
  | migrationRetry (p : Packet)
  /-- RDS (R311). A home serves a read-shared request for an HC line. -/
  | rds (core : Nat) (line : Nat)
  /-- RDX (R311). A home serves a read-exclusive request, invalidating the other holders. -/
  | rdx (core : Nat) (line : Nat)
  /-- UPG (R311). A home upgrades a shared or owned copy to M. -/
  | upg (core : Nat) (line : Nat)
  /-- WB (R311). A home takes a written-back M or O line. -/
  | wb (core : Nat) (line : Nat)
  /-- DROP (R311). A home clears an evicted E or S copy. -/
  | drop (core : Nat) (line : Nat)
  /-- SNOOP (R311). A holding core answers a snoop or invalidation from the home. -/
  | snoop (core : Nat) (line : Nat) (inv : Bool)
  /-- READ_PACKET (R358). A home takes a read packet and replies with the requested sectors. -/
  | readPacket (p : Packet)
  /-- WRITE_PACKET (R358). A home applies a masked write packet. -/
  | writePacket (p : Packet)
  /-- ATOMIC_PACKET (R341). A home executes a numbered atomic at most once, answering duplicates from its reply cache. -/
  | atomicPacket (p : Packet)
  /-- SIGNAL_UPDATE_PACKET (R345). A home applies a numbered signal update and re-tests its parked waiters. -/
  | signalUpdatePacket (p : Packet)
  /-- REPLY_PACKET (R341). A source takes a reply, completing its request or discarding a duplicate. -/
  | replyPacket (p : Packet)
  /-- COMMIT_NOTICE (R323). A chip's Hutch records a commit notice and may raise its complete-through stamp. -/
  | commitNotice (name : BitVec 32) (stamp : Nat)
  /-- STAMP_REQUEST (R322). The sequencer issues the next commit stamp. -/
  | stampRequest (peer : Nat) (name : BitVec 32)
  /-- STAMP_RECEIVED (R321). A SEALING record receives its stamp, becomes COMMITTED and broadcasts commit notices. -/
  | stampReceived (name : BitVec 32) (stamp : Nat)
  /-- BUNDLE_RECORD_REQUEST (R321). A home serves a join, seal or abort on a Wardrobe record. -/
  | bundleRecordRequest (p : Packet)
  /-- RECORD_FREE (R321). A COMMITTED or ABORTED record returns to FREE once its lines are settled or discarded. -/
  | recordFree (index : Nat)
  /-- MANAGEMENT_PACKET (R372). A management complex takes a numbered management packet once, using its reply cache. -/
  | managementPacket (p : Packet)
  /-- DRAIN_MARKER (R367). A chip receives a drain marker on a link and class. -/
  | drainMarker (die : Nat) (link : Nat) (rq : Nat)
  /-- PACKET_FORWARD (R364). A forwarding chip routes a packet by its own route table, or hands it back undelivered. -/
  | packetForward (p : Packet)
  /-- RETRANSMISSION (R340). A source resends an unanswered numbered request when the retransmission interval expires. -/
  | retransmission (peer : Nat) (die : Nat) (id : Nat)
  /-- REQUEST_UNRESOLVED (R343). A request that exhausts the retransmission budget or loses its route raises PEER_UNREACHABLE. -/
  | requestUnresolved (peer : Nat) (die : Nat) (id : Nat)
  /-- DATA_FLIT (R353). A receiver checks a data flit and accepts it, discards it as a duplicate, or asks for replay. -/
  | dataFlit (die : Nat) (link : Nat) (flit : BitVec 512) (side : List W64)
  /-- REPLAY (R353). A sender replays unacknowledged flits from the requested sequence number. -/
  | replay (die : Nat) (link : Nat) (seq : Nat)
  /-- CONTROL_FLIT (R361). A control flit delivers slot returns and link credits. -/
  | controlFlit (die : Nat) (link : Nat) (flit : BitVec 512)
  /-- FREED_REFRESH (R361). Every 256 cycles a receiver sends its absolute freed count to sources with slots outstanding. -/
  | freedRefresh (peer : Nat) (rq : Nat)
  /-- LINK_OUT_OF_SERVICE (R354). A link leaves service and its unacknowledged flits are replayed on another link or handed back. -/
  | linkOutOfService (die : Nat) (link : Nat)
  /-- ERROR_WINDOW_END (R355). A wavelength's 65,536-cycle error window ends and may send it into LEAVING or mark it due. -/
  | errorWindowEnd (die : Nat) (link : Nat) (wave : Nat) (errs : Nat)
  /-- FLIT_BOUNDARY_SWITCH (R356). At a flit boundary a wavelength leaves the stripe deal or rejoins it. -/
  | flitBoundarySwitch (die : Nat) (link : Nat) (wave : Nat)
  /-- TRAINING_SUCCESS (R355). A retraining wavelength succeeds and enters READY. -/
  | trainingSuccess (die : Nat) (link : Nat) (wave : Nat) (far : Nat)
  /-- TRAINING_ATTEMPT_FAIL (R355). A training attempt fails or exceeds 200,000 cycles, and the third consecutive failure retires the wavelength. -/
  | trainingAttemptFail (die : Nat) (link : Nat) (wave : Nat)
  /-- RECONFIGURE_FABRIC (R366). Command 0x0E starts a reconfiguration of fabric groups on the manager's chip. -/
  | reconfigureFabric (c : Cmd)
  /-- RECONFIG_HOLD (R367). On the manager's order, a chip holds new remote requests and serves arriving ones. -/
  | reconfigHold
  /-- RECONFIG_DRAIN (R367). A chip sends absolute refreshes and drain markers on every link and class. -/
  | reconfigDrain
  /-- RECONFIG_DARK (R367). A drained chip reports and goes dark while the switch moves. -/
  | reconfigDark
  /-- RECONFIG_RELOCK (R367). A chip trains every wavelength and resets link sequence numbers and link credits. -/
  | reconfigRelock
  /-- RELOCK_TIMEOUT (R367). After 1,250,000 cycles RELOCK ends and links that did not come up stay out of service. -/
  | relockTimeout
  /-- RECONFIG_ROUTES (R433). A chip forms and installs its new route table, group identifier and sequencer. -/
  | reconfigRoutes (plan : RoutesPlan)
  /-- RECONFIG_RUN (R368). A chip resumes traffic and issues held requests under the new table. -/
  | reconfigRun
  /-- TRAP_DELIVERY (R373). A trap freezes the three streams, writes the trap registers and starts the handler, or escalates. -/
  | trapDelivery (core : Nat)
  /-- PREEMPTION (R385). Firmware's pre-emption request freezes a core's continuation and saves it. -/
  | preemption (core : Nat) (pa : Nat) (release : Bool)
  /-- SELF_TEST (R407). The management complex tests a unit after an error, a retirement or excess corrections, and spares or retires it. -/
  | selfTest (kind : Nat) (index : Nat) (outcome : Nat)
  /-- POWER_LIMIT_CHANGE (R20). Firmware resizes the per-die share pools at start-up or at a change of power limit. -/
  | powerLimitChange (sizes : List Nat)
  /-- BOOT_STEP (R408). The management complex journals and runs a start-up step, using its fallback after a failure. -/
  | bootStep (number : Nat) (ok : Bool) (stamp : BitVec 64)
  /-- HEARTBEAT (R417). Every millisecond firmware adds 1 to the heartbeat word in host memory. -/
  | heartbeat
  /-- CREATE_CONTEXT (R413). Management command 0x01 creates a context from a descriptor image. -/
  | createContext (c : Cmd)
  /-- DESTROY_CONTEXT (R413). Management command 0x02 destroys a context and drains its Cabinet. -/
  | destroyContext (c : Cmd)
  /-- INSTALL_KEY (R411). Management command 0x03 installs an AES key received in an SPDM message into a key slot. -/
  | installKey (c : Cmd) (key : Option (BitVec 256))
  /-- REMOVE_KEY (R411). Management command 0x04 empties a key slot. -/
  | removeKey (c : Cmd)
  /-- LOAD_COMPRESSION_TABLE (R255). Management command 0x05 loads a validated table image into a slot and raises its generation. -/
  | loadCompressionTable (c : Cmd)
  /-- MAP_QUEUE (R416). Management command 0x06 maps or remaps a queue. -/
  | mapQueue (c : Cmd)
  /-- PARK_QUEUE (R416). Management command 0x07 sets a queue's parked bit. -/
  | parkQueue (c : Cmd)
  /-- UNMAP_QUEUE (R416). Management command 0x08 parks a queue for unmapping. -/
  | unmapQueue (c : Cmd)
  /-- QUEUE_PARK_COMPLETE (R416). A PARKED queue becomes UNMAPPED when its thread finishes the current entry. -/
  | queueParkComplete (queue : Nat)
  /-- WRITE_ROUTE_ENTRY (R413). Management command 0x09 writes a live or staged route table entry. -/
  | writeRouteEntry (c : Cmd)
  /-- ATTESTATION_REPORT (R420). Management command 0x0A builds and signs an attestation report. -/
  | attestationReport (c : Cmd)
  /-- RESET_RUNG_QUEUE (R417). Reset rung 1 restarts threads with an entry in progress and refuses those entries. -/
  | resetRungQueue (queue : Nat)
  /-- RESET_RUNG_CONTEXT (R417). Reset rung 2 ends every continuation and job of the owning contexts. -/
  | resetRungContext (ctx : Nat)
  /-- RESET_RUNG_DIE (R417). Reset rung 3 resets a die's cores, Bench and Shelves. -/
  | resetRungDie (die : Nat)
  /-- RESET_RUNG_MODULE (R417). Reset rung 4 fully resets the module. -/
  | resetRungModule
  /-- SET_CONTEXT_REGISTER (R413). Management command 0x0C sets a context's vsel, ptbase or callow register. -/
  | setContextRegister (c : Cmd)
  /-- BIND_SIGNAL_WORD (R413). Management command 0x0D binds a signal word to a queue's pending bit. -/
  | bindSignalWord (c : Cmd)
  /-- REGISTER_NOTICE_WORD (R430). Management command 0x0F registers or clears a reconfiguration notice word. -/
  | registerNoticeWord (c : Cmd)
  /-- WAKE_REGISTER_WRITE (R415). A host write to a queue's wake register sets its pending bit. -/
  | wakeRegisterWrite (queue : Nat)
  /-- THREAD_WAKE (R415). A firmware thread wakes on its pending bit and serves its queue's entries. -/
  | threadWake (queue : Nat)
  /-- DEVICE_REGISTER_WRITE (R413). A write to a device register that has no row of its own, such as the queue 0 base and size. -/
  | deviceRegisterWrite (addr : Nat) (value : BitVec 64)
  /-- TDI_CONFIG_WRITE (R409). A configuration write to a locked TDI sends it to ERROR and parks its queues. -/
  | tdiConfigWrite (tdi : Nat)
  /-- UNASSIGNED_OPCODE (R132). A slot whose word carries opcode 0x00 or 0xE1-0xFF, or a literal slot reached by branch or fall-through, issues and raises ILLEGAL. -/
  | unassignedOpcode (order : Nat)
  /-- CORE_RELEASE (R394). The management complex releases a halted core, and C resumes at the slot after halt. -/
  | coreRelease (core : Nat)
  /-- TDISP_REQUEST (R409). A TDISP or SPDM message from the host moves a TDI between CONFIG_UNLOCKED, CONFIG_LOCKED and RUN, including the return from ERROR. -/
  | tdispRequest (tdi : Nat) (msg : TdispMsg)
  /-- HOST_PORT_REQUEST (R409). A host request to a TDI's queues or memory arrives at the endpoint and is dropped and counted unless it comes on the TDI's IDE stream with the T bit set. -/
  | hostPortRequest (r : HostRequest)
  /-- RESAMPLING_INTERVAL (R255). At the firmware-set resampling interval, a learned compression slot leaves its frozen state and begins a new learning phase. -/
  | resamplingInterval (die : Nat) (slot : Nat)
  deriving DecidableEq, Repr

end Sys2Proof
end

