-- ==== Sys2Proof/WellFormed.lean ====
section
/-! DEFINITION. Which instruction words are legal encodings: check 4 of R118 (register classes of
R120, reserved bits, R119, and the values that R123 to R129 and each form declare illegal). An event
row has no encoding, so none is well formed. -/

namespace Sys2Proof

/-- Class S of R120. -/
def sReg (r : BitVec 7) : Bool := r.toNat < 32
/-- Class K of R120. -/
def kReg (r : BitVec 7) : Bool := r.toNat < 16
/-- Class V of R120. -/
def vReg (r : BitVec 7) : Bool := r.toNat < 64
/-- Class VB of R120. -/
def vbReg (r : BitVec 7) : Bool := r.toNat < 96
/-- Class M of R120. -/
def mReg (r : BitVec 7) : Bool := r.toNat < 8
/-- Class CK of R120. -/
def ckReg (r : BitVec 7) : Bool := r.toNat < 4
/-- Class LQ of R120. -/
def lqReg (r : BitVec 7) : Bool := r.toNat < 4
/-- Class SQ of R120. -/
def sqReg (r : BitVec 7) : Bool := r.toNat < 2
/-- Class BUF of R120. -/
def bufReg (r : BitVec 7) : Bool := 1 ≤ r.toNat && r.toNat ≤ 4
/-- A register field that the form does not name (R119). -/
def zReg (r : BitVec 7) : Bool := r == 0
/-- The destination of `await` and `sigwait`: x1 to x4 (R103, R347). -/
def waitReg (r : BitVec 7) : Bool := 1 ≤ r.toNat && r.toNat ≤ 4

/-- Bits `n` and above of an immediate are zero. -/
def hiZero {w : Nat} (imm : BitVec w) (n : Nat) : Bool := imm.toNat < 2 ^ n
/-- A shift count of the immediate shifts (R138). -/
def immSh (imm : BitVec 30) : Bool := imm.toNat < 64
/-- The position and length of `extr` and `extrs` (R139). -/
def immExtr (imm : BitVec 30) : Bool :=
  hiZero imm 12 && imm.toNat % 64 + (imm.toNat / 64 % 64 + 1) ≤ 64
/-- The target fields of a transfer (R126). -/
def fbTarget (f : FB) : Bool :=
  if f.ind then f.slot == 0 && f.off == 0 && sReg f.s1 else f.s1 == 0 && f.slot != 7
/-- The bounds of `wait` (R288, R289). -/
def waitImm (imm : BitVec 37) : Bool :=
  hiZero imm 26 && imm.toNat % 128 ≤ 64 && imm.toNat / 128 % 64 ≤ 32 &&
    imm.toNat / 2 ^ 13 % 64 ≤ 32 && imm.toNat / 2 ^ 19 % 64 ≤ 32
/-- The kind of a fence (R337). -/
def fenceKind (imm : BitVec 30) : Bool := imm.toNat / 2 ^ 16 % 4 ≠ 3
/-- The floating-point formats of the vector forms: f32, bf16, f16 (R47, R224). -/
def fltFmt (t : BitVec 4) : Bool := t.toNat ≤ 2
/-- The integer formats (R47, R230). -/
def intFmt (t : BitVec 4) : Bool := 8 ≤ t.toNat
/-- The width in bits of an element type; 0 for the reserved code (R47). -/
def typeWidth (t : Nat) : Nat :=
  if t = 0 then 32
  else if t = 1 ∨ t = 2 then 16
  else if t < 7 then 8
  else if t = 7 then 0
  else 8 * 2 ^ (t % 4)
/-- The formats of `vdot` (R228). -/
def dotFmt (t fn : BitVec 4) : Bool :=
  if fn == 0 then [1, 2, 3, 4, 8, 9, 12, 13].contains t.toNat
  else fn == 1 && (t == 3 || t == 4)

/-- A comparison that writes a vector names a vector, otherwise a mask (R229). -/
def vecDest (fn : BitVec 4) : Bool := fn.getLsbD 3
/-- The destination of `vcmp` and `vicmp` (R229). -/
def cmpDest (f : F3) : Bool := if vecDest f.fn then vReg f.d else mReg f.d
/-- The condition and destination kind of `vicmp` (R229). -/
def icmpFn (t fn : BitVec 4) : Bool :=
  decide (fn.toNat % 8 ≤ 5) && (vecDest fn || decide (32 ≤ typeWidth t.toNat))
/-- The distance of `vshuf` (R233). -/
def shufFn (t fn : BitVec 4) : Bool :=
  t != 7 && decide (2 ^ fn.toNat * typeWidth t.toNat < 2048)
/-- The function and format of `ckacc` (R238). -/
def ckaccFn (t fn : BitVec 4) : Bool :=
  if fn == 0 then t != 7 else fn == 1 && fltFmt t
/-- An integer type code in imm[29:26] (R231). -/
def immIntFmt (imm : BitVec 30) : Bool := 8 ≤ imm.toNat / 2 ^ 26
/-- The type and count of the vector immediate shifts (R231). -/
def immVShift (imm : BitVec 30) : Bool :=
  immIntFmt imm && imm.toNat % 2 ^ 26 < typeWidth (imm.toNat / 2 ^ 26)
/-- The type and element index of `vext` and `vins` (R234). -/
def immElem (imm : BitVec 30) : Bool :=
  hiZero imm 12 && imm.toNat / 256 != 7 &&
    decide (imm.toNat % 256 * typeWidth (imm.toNat / 256) < 2048)
/-- The count of `vslide` (R234). -/
def immSlide (imm : BitVec 30) : Bool := hiZero imm 8 && imm.toNat % 128 ≤ 64
/-- The type of `vimm` (R234). -/
def immFmt (imm : BitVec 30) : Bool := imm.toNat / 2 ^ 26 != 7
/-- The numbers of the system registers (R392). -/
def csrNumbers : List Nat :=
  [0x000, 0x001, 0x002, 0x010, 0x011, 0x012, 0x013, 0x014, 0x015, 0x016, 0x017, 0x018, 0x019, 0x01A,
   0x020, 0x021, 0x022, 0x023, 0x024, 0x025, 0x026, 0x027, 0x028, 0x030, 0x031, 0x032]
/-- The register number of `csrr` and `csrw`, with imm[36:12] reserved (R392).
Log 17: DEDUCED, unsafe. -/
def csrNum (imm : BitVec 37) : Bool := csrNumbers.contains imm.toNat
/-- The role of `roleset` (R395). -/
def roleImm (imm : BitVec 30) : Bool := imm.toNat % 8 ≤ 4
/-- The unit kind and index of `stest` (R398). -/
def stestImm (imm : BitVec 30) : Bool :=
  hiZero imm 16 && decide (imm.toNat % 4096 < [128, 128, 4096, 512, 12].getD (imm.toNat / 4096) 0)

/-- The well-formed instructions. -/
def Instr.wf : Instr → Bool
  | .add f => sReg f.d && sReg f.s1 && sReg f.s2 && f.fmt == 0 && f.rnd == 0 && !f.fzi && !f.fzo && f.mask == 0 && f.fn == 0 && f.res == 0
  | .sub f => sReg f.d && sReg f.s1 && sReg f.s2 && f.fmt == 0 && f.rnd == 0 && !f.fzi && !f.fzo && f.mask == 0 && f.fn == 0 && f.res == 0
  | .mul f => sReg f.d && sReg f.s1 && sReg f.s2 && f.fmt == 0 && f.rnd == 0 && !f.fzi && !f.fzo && f.mask == 0 && f.fn == 0 && f.res == 0
  | .mulh f => sReg f.d && sReg f.s1 && sReg f.s2 && f.fmt == 0 && f.rnd == 0 && !f.fzi && !f.fzo && !f.sat && f.mask == 0 && f.fn == 0 && f.res == 0
  | .mulhn f => sReg f.d && sReg f.s1 && sReg f.s2 && f.fmt == 0 && f.rnd == 0 && !f.fzi && !f.fzo && !f.sat && f.mask == 0 && f.fn == 0 && f.res == 0
  | .div f => sReg f.d && sReg f.s1 && sReg f.s2 && f.fmt == 0 && f.rnd == 0 && !f.fzi && !f.fzo && !f.sat && f.mask == 0 && f.fn == 0 && f.res == 0
  | .divn f => sReg f.d && sReg f.s1 && sReg f.s2 && f.fmt == 0 && f.rnd == 0 && !f.fzi && !f.fzo && !f.sat && f.mask == 0 && f.fn == 0 && f.res == 0
  | .rem f => sReg f.d && sReg f.s1 && sReg f.s2 && f.fmt == 0 && f.rnd == 0 && !f.fzi && !f.fzo && !f.sat && f.mask == 0 && f.fn == 0 && f.res == 0
  | .remn f => sReg f.d && sReg f.s1 && sReg f.s2 && f.fmt == 0 && f.rnd == 0 && !f.fzi && !f.fzo && !f.sat && f.mask == 0 && f.fn == 0 && f.res == 0
  | .and f => sReg f.d && sReg f.s1 && sReg f.s2 && f.fmt == 0 && f.rnd == 0 && !f.fzi && !f.fzo && !f.sat && f.mask == 0 && f.fn == 0 && f.res == 0
  | .or f => sReg f.d && sReg f.s1 && sReg f.s2 && f.fmt == 0 && f.rnd == 0 && !f.fzi && !f.fzo && !f.sat && f.mask == 0 && f.fn == 0 && f.res == 0
  | .xor f => sReg f.d && sReg f.s1 && sReg f.s2 && f.fmt == 0 && f.rnd == 0 && !f.fzi && !f.fzo && !f.sat && f.mask == 0 && f.fn == 0 && f.res == 0
  | .andn f => sReg f.d && sReg f.s1 && sReg f.s2 && f.fmt == 0 && f.rnd == 0 && !f.fzi && !f.fzo && !f.sat && f.mask == 0 && f.fn == 0 && f.res == 0
  | .shl f => sReg f.d && sReg f.s1 && sReg f.s2 && f.fmt == 0 && f.rnd == 0 && !f.fzi && !f.fzo && !f.sat && f.mask == 0 && f.fn == 0 && f.res == 0
  | .shr f => sReg f.d && sReg f.s1 && sReg f.s2 && f.fmt == 0 && f.rnd == 0 && !f.fzi && !f.fzo && !f.sat && f.mask == 0 && f.fn == 0 && f.res == 0
  | .sra f => sReg f.d && sReg f.s1 && sReg f.s2 && f.fmt == 0 && f.rnd == 0 && !f.fzi && !f.fzo && !f.sat && f.mask == 0 && f.fn == 0 && f.res == 0
  | .rol f => sReg f.d && sReg f.s1 && sReg f.s2 && f.fmt == 0 && f.rnd == 0 && !f.fzi && !f.fzo && !f.sat && f.mask == 0 && f.fn == 0 && f.res == 0
  | .ror f => sReg f.d && sReg f.s1 && sReg f.s2 && f.fmt == 0 && f.rnd == 0 && !f.fzi && !f.fzo && !f.sat && f.mask == 0 && f.fn == 0 && f.res == 0
  | .min f => sReg f.d && sReg f.s1 && sReg f.s2 && f.fmt == 0 && f.rnd == 0 && !f.fzi && !f.fzo && !f.sat && f.mask == 0 && f.fn == 0 && f.res == 0
  | .max f => sReg f.d && sReg f.s1 && sReg f.s2 && f.fmt == 0 && f.rnd == 0 && !f.fzi && !f.fzo && !f.sat && f.mask == 0 && f.fn == 0 && f.res == 0
  | .minn f => sReg f.d && sReg f.s1 && sReg f.s2 && f.fmt == 0 && f.rnd == 0 && !f.fzi && !f.fzo && !f.sat && f.mask == 0 && f.fn == 0 && f.res == 0
  | .maxn f => sReg f.d && sReg f.s1 && sReg f.s2 && f.fmt == 0 && f.rnd == 0 && !f.fzi && !f.fzo && !f.sat && f.mask == 0 && f.fn == 0 && f.res == 0
  | .cmpeq f => sReg f.d && sReg f.s1 && sReg f.s2 && f.fmt == 0 && f.rnd == 0 && !f.fzi && !f.fzo && !f.sat && f.mask == 0 && f.fn == 0 && f.res == 0
  | .cmpne f => sReg f.d && sReg f.s1 && sReg f.s2 && f.fmt == 0 && f.rnd == 0 && !f.fzi && !f.fzo && !f.sat && f.mask == 0 && f.fn == 0 && f.res == 0
  | .cmplt f => sReg f.d && sReg f.s1 && sReg f.s2 && f.fmt == 0 && f.rnd == 0 && !f.fzi && !f.fzo && !f.sat && f.mask == 0 && f.fn == 0 && f.res == 0
  | .cmpltn f => sReg f.d && sReg f.s1 && sReg f.s2 && f.fmt == 0 && f.rnd == 0 && !f.fzi && !f.fzo && !f.sat && f.mask == 0 && f.fn == 0 && f.res == 0
  | .cmple f => sReg f.d && sReg f.s1 && sReg f.s2 && f.fmt == 0 && f.rnd == 0 && !f.fzi && !f.fzo && !f.sat && f.mask == 0 && f.fn == 0 && f.res == 0
  | .cmplen f => sReg f.d && sReg f.s1 && sReg f.s2 && f.fmt == 0 && f.rnd == 0 && !f.fzi && !f.fzo && !f.sat && f.mask == 0 && f.fn == 0 && f.res == 0
  | .clz f => sReg f.d && sReg f.s1 && zReg f.s2 && f.fmt == 0 && f.rnd == 0 && !f.fzi && !f.fzo && !f.sat && f.mask == 0 && f.fn == 0 && f.res == 0
  | .ctz f => sReg f.d && sReg f.s1 && zReg f.s2 && f.fmt == 0 && f.rnd == 0 && !f.fzi && !f.fzo && !f.sat && f.mask == 0 && f.fn == 0 && f.res == 0
  | .popc f => sReg f.d && sReg f.s1 && zReg f.s2 && f.fmt == 0 && f.rnd == 0 && !f.fzi && !f.fzo && !f.sat && f.mask == 0 && f.fn == 0 && f.res == 0
  | .addi f => sReg f.d && sReg f.s1
  | .muli f => sReg f.d && sReg f.s1
  | .andi f => sReg f.d && sReg f.s1
  | .ori f => sReg f.d && sReg f.s1
  | .xori f => sReg f.d && sReg f.s1
  | .shli f => sReg f.d && sReg f.s1 && immSh f.imm
  | .shri f => sReg f.d && sReg f.s1 && immSh f.imm
  | .srai f => sReg f.d && sReg f.s1 && immSh f.imm
  | .cmpeqi f => sReg f.d && sReg f.s1
  | .cmpnei f => sReg f.d && sReg f.s1
  | .cmplti f => sReg f.d && sReg f.s1
  | .cmpltni f => sReg f.d && sReg f.s1
  | .extr f => sReg f.d && sReg f.s1 && immExtr f.imm
  | .extrs f => sReg f.d && sReg f.s1 && immExtr f.imm
  | .limm f _ => sReg f.d && f.imm == 0
  | .uld f => sReg f.d && sReg f.s1 && hiZero f.imm 13
  | .br f => zReg f.d && fbTarget f
  | .call f => sReg f.d && fbTarget f
  | .ret f => zReg f.d && f.ind && fbTarget f
  | .loop f => sReg f.d && !f.ind && fbTarget f
  | .start f => (f.d == 1 || f.d == 2) && fbTarget f
  | .spawn f => sReg f.d && fbTarget f
  | .yield f => zReg f.d && zReg f.s1 && f.imm == 0
  | .await f => waitReg f.d && kReg f.s1 && sReg f.s2 && f.scope == 0 && !f.sgn && f.sz == 3 && f.hint.toNat ≤ 1
  | .exit f => zReg f.d && zReg f.s1 && f.imm == 0
  | .feed f => sReg f.d && kReg f.s1 && sReg f.s2 && f.scope == 0 && !f.sgn && f.sz == 0 && f.hint.toNat ≤ 1
  | .jpost f => zReg f.d && sReg f.s1 && sReg f.s2 && f.res == 0
  | .remq f => sReg f.d && sReg f.s1 && sReg f.s2 && f.res == 0
  | .wait f => zReg f.d && waitImm f.imm
  | .sigwait f => waitReg f.d && kReg f.s1 && sReg f.s2 && f.scope == 0 && !f.sgn && f.sz == 3 && f.hint == 0
  | .gbar f => sReg f.d && zReg f.s1 && hiZero f.imm 8
  | .phase f => sReg f.d && zReg f.s1 && hiZero f.imm 8
  | .xlat f => sReg f.d && sReg f.s1 && sReg f.s2 && f.rnd == 0 && !f.fzi && !f.fzo && !f.sat && f.mask == 0 && f.res == 0
  | .refresh f => sReg f.d && zReg f.s1 && zReg f.s2 && f.rnd == 0 && !f.fzi && !f.fzo && !f.sat && f.mask == 0 && f.res == 0 && f.fn == 0
  | .tdrop f => sReg f.d && zReg f.s1 && zReg f.s2 && f.rnd == 0 && !f.fzi && !f.fzo && !f.sat && f.mask == 0 && f.res == 0 && f.fn == 0
  | .tqueryCtl f => sReg f.d && zReg f.s1 && zReg f.s2 && f.rnd == 0 && !f.fzi && !f.fzo && !f.sat && f.mask == 0 && f.res == 0 && f.fn == 1
  | .tqueryVbase f => sReg f.d && zReg f.s1 && zReg f.s2 && f.rnd == 0 && !f.fzi && !f.fzo && !f.sat && f.mask == 0 && f.res == 0 && f.fn == 2
  | .tqueryLen f => sReg f.d && zReg f.s1 && zReg f.s2 && f.rnd == 0 && !f.fzi && !f.fzo && !f.sat && f.mask == 0 && f.res == 0 && f.fn == 3
  | .tqueryCur f => sReg f.d && zReg f.s1 && zReg f.s2 && f.rnd == 0 && !f.fzi && !f.fzo && !f.sat && f.mask == 0 && f.res == 0 && f.fn == 4
  | .tqueryGet f => sReg f.d && zReg f.s1 && zReg f.s2 && f.rnd == 0 && !f.fzi && !f.fzo && !f.sat && f.mask == 0 && f.res == 0 && f.fn == 5
  | .tquerySet f => sReg f.d && zReg f.s1 && zReg f.s2 && f.rnd == 0 && !f.fzi && !f.fzo && !f.sat && f.mask == 0 && f.res == 0 && f.fn == 6
  | .reqpg f => sReg f.d && kReg f.s1 && sReg f.s2 && f.cls == 0 && f.scope == 0 && f.hint == 0 && !f.sgn && f.sz == 0
  | .fence f => zReg f.d && zReg f.s1 && hiZero f.imm 20 && fenceKind f.imm
  | .sigadd f => sReg f.d && kReg f.s1 && sReg f.s2 && f.hint == 0 && !f.sgn && f.sz == 3
  | .sigset f => sReg f.d && kReg f.s1 && sReg f.s2 && f.hint == 0 && !f.sgn && f.sz == 3
  | .lds f => sReg f.d && sReg f.s2 && (if f.hint == 3 then bufReg f.s1 else kReg f.s1) && f.hint != 2 && f.scope == 0
  | .sts f => sReg f.d && sReg f.s2 && (if f.hint == 3 then bufReg f.s1 else kReg f.s1) && f.hint != 2 && f.scope == 0 && !f.sgn
  | .ldacq f => sReg f.d && kReg f.s1 && sReg f.s2 && f.hint == 0
  | .strel f => sReg f.d && kReg f.s1 && sReg f.s2 && f.hint == 0 && !f.sgn
  | .wback f => zReg f.d && kReg f.s1 && sReg f.s2 && f.scope == 0 && f.hint == 0 && !f.sgn && f.sz == 0
  | .inval f => zReg f.d && kReg f.s1 && sReg f.s2 && f.scope == 0 && f.hint == 0 && !f.sgn && f.sz == 0
  | .discard f => zReg f.d && kReg f.s1 && sReg f.s2 && f.scope == 0 && f.hint == 0 && !f.sgn && f.sz == 0
  | .pref f => zReg f.d && kReg f.s1 && sReg f.s2 && f.scope == 0 && !f.sgn && f.sz == 0 && f.hint.toNat ≤ 1
  | .aadd f => sReg f.d && kReg f.s1 && sReg f.s2 && sReg f.x && 2 ≤ f.sz.toNat && (f.hint != 0 || f.scope == 0)
  | .amin f => sReg f.d && kReg f.s1 && sReg f.s2 && sReg f.x && 2 ≤ f.sz.toNat && (f.hint != 0 || f.scope == 0)
  | .amax f => sReg f.d && kReg f.s1 && sReg f.s2 && sReg f.x && 2 ≤ f.sz.toNat && (f.hint != 0 || f.scope == 0)
  | .aminn f => sReg f.d && kReg f.s1 && sReg f.s2 && sReg f.x && 2 ≤ f.sz.toNat && (f.hint != 0 || f.scope == 0)
  | .amaxn f => sReg f.d && kReg f.s1 && sReg f.s2 && sReg f.x && 2 ≤ f.sz.toNat && (f.hint != 0 || f.scope == 0)
  | .aand f => sReg f.d && kReg f.s1 && sReg f.s2 && sReg f.x && 2 ≤ f.sz.toNat && (f.hint != 0 || f.scope == 0)
  | .aor f => sReg f.d && kReg f.s1 && sReg f.s2 && sReg f.x && 2 ≤ f.sz.toNat && (f.hint != 0 || f.scope == 0)
  | .axor f => sReg f.d && kReg f.s1 && sReg f.s2 && sReg f.x && 2 ≤ f.sz.toNat && (f.hint != 0 || f.scope == 0)
  | .aswap f => sReg f.d && kReg f.s1 && sReg f.s2 && sReg f.x && 2 ≤ f.sz.toNat && (f.hint != 0 || f.scope == 0)
  | .acas f => sReg f.d && kReg f.s1 && sReg f.s2 && sReg f.x && 2 ≤ f.sz.toNat && (f.hint != 0 || f.scope == 0)
  | .bnew f => sReg f.d && sReg f.s1 && 1 ≤ f.imm.toNat && f.imm.toNat ≤ 64
  | .bjoin f => sReg f.d && kReg f.s1 && sReg f.s2 && f.scope == 0 && f.hint == 0 && !f.sgn && f.sz == 0
  | .bseal f => sReg f.d && zReg f.s1 && hiZero f.imm 4
  | .babort f => zReg f.d && zReg f.s1 && hiZero f.imm 4
  | .bviewNow f => sReg f.d && sReg f.s1 && f.imm == 0
  | .bviewSet f => sReg f.d && sReg f.s1 && f.imm == 1
  | .bviewClr f => sReg f.d && sReg f.s1 && f.imm == 2
  | .bcheck f => sReg f.d && sReg f.s1 && f.imm == 0
  | .bcheckCls f => sReg f.d && zReg f.s1 && 16 ≤ f.imm.toNat && f.imm.toNat < 32
  | .vld f => lqReg f.d && kReg f.s1 && sReg f.s2 && f.scope == 0 && !f.sgn && f.hint.toNat ≤ 1
  | .vlds f => lqReg f.d && kReg f.s1 && sReg f.s2 && sReg f.x && f.scope == 0 && !f.sgn && f.hint.toNat ≤ 1
  | .vldx f => lqReg f.d && kReg f.s1 && sReg f.s2 && sqReg f.x && f.scope == 0 && !f.sgn && f.hint.toNat ≤ 1 && 2 ≤ f.sz.toNat
  | .ldb f => lqReg f.d && kReg f.s1 && sReg f.s2 && f.scope == 0 && !f.sgn && f.hint.toNat ≤ 1
  | .vst f => sqReg f.d && kReg f.s1 && sReg f.s2 && f.scope == 0 && !f.sgn && f.hint.toNat ≤ 1
  | .vsts f => sqReg f.d && kReg f.s1 && sReg f.s2 && sReg f.x && f.scope == 0 && !f.sgn && f.hint.toNat ≤ 1
  | .vstx f => sqReg f.d && kReg f.s1 && sReg f.s2 && sqReg f.x && f.scope == 0 && !f.sgn && f.hint.toNat ≤ 1 && 2 ≤ f.sz.toNat && f.d != f.x
  | .lld f => lqReg f.d && bufReg f.s1 && sReg f.s2 && f.scope == 0 && f.hint == 0 && !f.sgn && f.sz == 0
  | .lst f => sqReg f.d && bufReg f.s1 && sReg f.s2 && f.scope == 0 && f.hint == 0 && !f.sgn && f.sz == 0
  | .vlld f => zReg f.d && bufReg f.s1 && sReg f.s2 && f.scope == 0 && f.hint == 0 && !f.sgn && f.sz == 0
  | .vlst f => zReg f.d && bufReg f.s1 && sReg f.s2 && f.scope == 0 && f.hint == 0 && !f.sgn && f.sz == 0
  | .lqput f => lqReg f.d && sReg f.s1 && zReg f.s2 && f.rnd == 0 && !f.fzi && !f.fzo && !f.sat && f.mask == 0 && f.fn == 0 && f.res == 0 && f.fmt != 7
  | .sqget f => sReg f.d && sqReg f.s1 && sReg f.s2 && f.fmt == 0 && f.rnd == 0 && !f.fzi && !f.fzo && !f.sat && f.mask == 0 && f.fn == 0 && f.res == 0
  | .tchk f => sReg f.d && sReg f.s1 && sReg f.s2 && f.rnd == 0 && !f.fzi && !f.fzo && !f.sat && f.mask == 0 && f.res == 0
  | .rprobe f => sReg f.d && kReg f.s1 && sReg f.s2 && f.scope == 0 && f.hint == 0 && !f.sgn && f.sz == 0
  | .sqdrop f => zReg f.d && sqReg f.s1 && zReg f.s2 && f.fmt == 0 && f.rnd == 0 && !f.fzi && !f.fzo && !f.sat && f.mask == 0 && f.fn == 0 && f.res == 0
  | .vadd f => vReg f.d && vbReg f.s1 && vbReg f.s2 && f.fn == 0 && f.res == 0 && fltFmt f.fmt
  | .vsub f => vReg f.d && vbReg f.s1 && vbReg f.s2 && f.fn == 0 && f.res == 0 && fltFmt f.fmt
  | .vmul f => vReg f.d && vbReg f.s1 && vbReg f.s2 && f.fn == 0 && f.res == 0 && fltFmt f.fmt
  | .vdiv f => vReg f.d && vbReg f.s1 && vbReg f.s2 && f.fn == 0 && f.res == 0 && fltFmt f.fmt
  | .vsqrt f => vReg f.d && vReg f.s1 && zReg f.s2 && f.fn == 0 && f.res == 0 && fltFmt f.fmt
  | .vfma f => vReg f.d && vbReg f.s1 && vbReg f.s2 && f.fn == 0 && f.res == 0 && fltFmt f.fmt
  | .vfms f => vReg f.d && vbReg f.s1 && vbReg f.s2 && f.fn == 0 && f.res == 0 && fltFmt f.fmt
  | .vfnma f => vReg f.d && vbReg f.s1 && vbReg f.s2 && f.fn == 0 && f.res == 0 && fltFmt f.fmt
  | .vfnms f => vReg f.d && vbReg f.s1 && vbReg f.s2 && f.fn == 0 && f.res == 0 && fltFmt f.fmt
  | .vmin f => vReg f.d && vbReg f.s1 && vbReg f.s2 && f.rnd == 0 && !f.fzo && !f.sat && f.fn == 0 && f.res == 0 && fltFmt f.fmt
  | .vmax f => vReg f.d && vbReg f.s1 && vbReg f.s2 && f.rnd == 0 && !f.fzo && !f.sat && f.fn == 0 && f.res == 0 && fltFmt f.fmt
  | .vabs f => vReg f.d && vReg f.s1 && zReg f.s2 && f.rnd == 0 && !f.fzo && !f.sat && f.fn == 0 && f.res == 0 && fltFmt f.fmt
  | .vneg f => vReg f.d && vReg f.s1 && zReg f.s2 && f.rnd == 0 && !f.fzo && !f.sat && f.fn == 0 && f.res == 0 && fltFmt f.fmt
  | .vabd f => vReg f.d && vbReg f.s1 && vbReg f.s2 && f.fn == 0 && f.res == 0 && fltFmt f.fmt
  | .vrcp f => vReg f.d && vReg f.s1 && zReg f.s2 && f.fn == 0 && f.res == 0 && fltFmt f.fmt
  | .vrsq f => vReg f.d && vReg f.s1 && zReg f.s2 && f.fn == 0 && f.res == 0 && fltFmt f.fmt
  | .vexp2 f => vReg f.d && vReg f.s1 && zReg f.s2 && f.fn == 0 && f.res == 0 && fltFmt f.fmt
  | .vlog2 f => vReg f.d && vReg f.s1 && zReg f.s2 && f.fn == 0 && f.res == 0 && fltFmt f.fmt
  | .vsin f => vReg f.d && vReg f.s1 && zReg f.s2 && f.fn == 0 && f.res == 0 && fltFmt f.fmt
  | .vcos f => vReg f.d && vReg f.s1 && zReg f.s2 && f.fn == 0 && f.res == 0 && fltFmt f.fmt
  | .vtanh f => vReg f.d && vReg f.s1 && zReg f.s2 && f.fn == 0 && f.res == 0 && fltFmt f.fmt
  | .vsigm f => vReg f.d && vReg f.s1 && zReg f.s2 && f.fn == 0 && f.res == 0 && fltFmt f.fmt
  | .vscale f => vReg f.d && vbReg f.s1 && vbReg f.s2 && f.fn == 0 && f.res == 0 && fltFmt f.fmt
  | .vround f => vReg f.d && vReg f.s1 && zReg f.s2 && !f.fzo && !f.sat && f.fn == 0 && f.res == 0 && fltFmt f.fmt
  | .vclamp f => vReg f.d && vbReg f.s1 && vbReg f.s2 && f.rnd == 0 && !f.fzo && !f.sat && f.fn == 0 && f.res == 0 && fltFmt f.fmt
  | .vsgnj f => vReg f.d && vReg f.s1 && vReg f.s2 && f.rnd == 0 && !f.fzo && !f.sat && f.res == 0 && fltFmt f.fmt && f.fn.toNat ≤ 2
  | .vclass f => vReg f.d && vReg f.s1 && zReg f.s2 && f.rnd == 0 && !f.fzo && !f.sat && f.fn == 0 && f.res == 0 && fltFmt f.fmt
  | .vcvt f => vReg f.d && vReg f.s1 && zReg f.s2 && f.res == 0 && f.fmt != 7 && f.fn != 7
  | .vdot f => vReg f.d && vbReg f.s1 && vbReg f.s2 && f.res == 0 && dotFmt f.fmt f.fn
  | .vcmp f => cmpDest f && vbReg f.s1 && vbReg f.s2 && f.rnd == 0 && !f.fzo && !f.sat && f.res == 0 && fltFmt f.fmt && (vecDest f.fn || f.fmt == 0)
  | .vpadd f => vReg f.d && vReg f.s1 && vReg f.s2 && f.fn == 0 && f.res == 0 && fltFmt f.fmt
  | .vpack f => vReg f.d && vReg f.s1 && vReg f.s2 && f.rnd == 0 && !f.fzi && !f.fzo && !f.sat && f.fn == 0 && f.res == 0 && f.fmt != 7
  | .vunpack f => vReg f.d && vReg f.s1 && zReg f.s2 && f.rnd == 0 && !f.fzi && !f.fzo && !f.sat && f.fn == 0 && f.res == 0 && f.fmt != 7
  | .vredsum f => sReg f.d && vReg f.s1 && zReg f.s2 && f.fn == 0 && f.res == 0 && fltFmt f.fmt
  | .vredmax f => sReg f.d && vReg f.s1 && zReg f.s2 && f.rnd == 0 && !f.fzi && !f.fzo && !f.sat && f.fn == 0 && f.res == 0 && fltFmt f.fmt
  | .vredmin f => sReg f.d && vReg f.s1 && zReg f.s2 && f.rnd == 0 && !f.fzi && !f.fzo && !f.sat && f.fn == 0 && f.res == 0 && fltFmt f.fmt
  | .vredadd f => sReg f.d && vReg f.s1 && zReg f.s2 && f.rnd == 0 && !f.fzi && !f.fzo && f.fn == 0 && f.res == 0 && intFmt f.fmt
  | .vredand f => sReg f.d && vReg f.s1 && zReg f.s2 && f.rnd == 0 && !f.fzi && !f.fzo && !f.sat && f.fn == 0 && f.res == 0 && intFmt f.fmt
  | .vredor f => sReg f.d && vReg f.s1 && zReg f.s2 && f.rnd == 0 && !f.fzi && !f.fzo && !f.sat && f.fn == 0 && f.res == 0 && intFmt f.fmt
  | .vredxor f => sReg f.d && vReg f.s1 && zReg f.s2 && f.rnd == 0 && !f.fzi && !f.fzo && !f.sat && f.fn == 0 && f.res == 0 && intFmt f.fmt
  | .viadd f => vReg f.d && vbReg f.s1 && vbReg f.s2 && f.rnd == 0 && !f.fzi && !f.fzo && f.fn == 0 && f.res == 0 && intFmt f.fmt
  | .visub f => vReg f.d && vbReg f.s1 && vbReg f.s2 && f.rnd == 0 && !f.fzi && !f.fzo && f.fn == 0 && f.res == 0 && intFmt f.fmt
  | .vimul f => vReg f.d && vbReg f.s1 && vbReg f.s2 && f.rnd == 0 && !f.fzi && !f.fzo && f.fn == 0 && f.res == 0 && intFmt f.fmt
  | .vimulh f => vReg f.d && vbReg f.s1 && vbReg f.s2 && f.rnd == 0 && !f.fzi && !f.fzo && !f.sat && f.fn == 0 && f.res == 0 && intFmt f.fmt
  | .vimac f => vReg f.d && vbReg f.s1 && vbReg f.s2 && f.rnd == 0 && !f.fzi && !f.fzo && f.fn == 0 && f.res == 0 && intFmt f.fmt
  | .vand f => vReg f.d && vbReg f.s1 && vbReg f.s2 && f.rnd == 0 && !f.fzi && !f.fzo && !f.sat && f.fn == 0 && f.res == 0 && intFmt f.fmt
  | .vor f => vReg f.d && vbReg f.s1 && vbReg f.s2 && f.rnd == 0 && !f.fzi && !f.fzo && !f.sat && f.fn == 0 && f.res == 0 && intFmt f.fmt
  | .vxor f => vReg f.d && vbReg f.s1 && vbReg f.s2 && f.rnd == 0 && !f.fzi && !f.fzo && !f.sat && f.fn == 0 && f.res == 0 && intFmt f.fmt
  | .vandn f => vReg f.d && vbReg f.s1 && vbReg f.s2 && f.rnd == 0 && !f.fzi && !f.fzo && !f.sat && f.fn == 0 && f.res == 0 && intFmt f.fmt
  | .vshl f => vReg f.d && vReg f.s1 && vbReg f.s2 && f.rnd == 0 && !f.fzi && !f.fzo && !f.sat && f.fn == 0 && f.res == 0 && intFmt f.fmt
  | .vshr f => vReg f.d && vReg f.s1 && vbReg f.s2 && f.rnd == 0 && !f.fzi && !f.fzo && !f.sat && f.fn == 0 && f.res == 0 && intFmt f.fmt
  | .vsra f => vReg f.d && vReg f.s1 && vbReg f.s2 && f.rnd == 0 && !f.fzi && !f.fzo && !f.sat && f.fn == 0 && f.res == 0 && intFmt f.fmt
  | .vimin f => vReg f.d && vbReg f.s1 && vbReg f.s2 && f.rnd == 0 && !f.fzi && !f.fzo && !f.sat && f.fn == 0 && f.res == 0 && intFmt f.fmt
  | .vimax f => vReg f.d && vbReg f.s1 && vbReg f.s2 && f.rnd == 0 && !f.fzi && !f.fzo && !f.sat && f.fn == 0 && f.res == 0 && intFmt f.fmt
  | .viminn f => vReg f.d && vbReg f.s1 && vbReg f.s2 && f.rnd == 0 && !f.fzi && !f.fzo && !f.sat && f.fn == 0 && f.res == 0 && intFmt f.fmt
  | .vimaxn f => vReg f.d && vbReg f.s1 && vbReg f.s2 && f.rnd == 0 && !f.fzi && !f.fzo && !f.sat && f.fn == 0 && f.res == 0 && intFmt f.fmt
  | .vicmp f => cmpDest f && vbReg f.s1 && vbReg f.s2 && f.rnd == 0 && !f.fzi && !f.fzo && !f.sat && f.res == 0 && intFmt f.fmt && icmpFn f.fmt f.fn
  | .viabs f => vReg f.d && vReg f.s1 && zReg f.s2 && f.rnd == 0 && !f.fzi && !f.fzo && f.fn == 0 && f.res == 0 && intFmt f.fmt
  | .vineg f => vReg f.d && vReg f.s1 && zReg f.s2 && f.rnd == 0 && !f.fzi && !f.fzo && f.fn == 0 && f.res == 0 && intFmt f.fmt
  | .vpopc f => vReg f.d && vReg f.s1 && zReg f.s2 && f.rnd == 0 && !f.fzi && !f.fzo && !f.sat && f.fn == 0 && f.res == 0 && intFmt f.fmt
  | .vclz f => vReg f.d && vReg f.s1 && zReg f.s2 && f.rnd == 0 && !f.fzi && !f.fzo && !f.sat && f.fn == 0 && f.res == 0 && intFmt f.fmt
  | .vsel f => vReg f.d && vReg f.s1 && vReg f.s2 && f.fmt == 0 && f.rnd == 0 && !f.fzi && !f.fzo && !f.sat && f.fn == 0 && f.res == 0
  | .vperm f => vReg f.d && vReg f.s1 && vReg f.s2 && f.rnd == 0 && !f.fzi && !f.fzo && !f.sat && f.fn == 0 && f.res == 0 && f.fmt != 7
  | .vshuf f => vReg f.d && vReg f.s1 && zReg f.s2 && f.rnd == 0 && !f.fzi && !f.fzo && !f.sat && f.res == 0 && shufFn f.fmt f.fn
  | .vbcast f => vReg f.d && vReg f.s1 && sReg f.s2 && f.rnd == 0 && !f.fzi && !f.fzo && !f.sat && f.fn == 0 && f.res == 0 && f.fmt != 7
  | .vmov f => vReg f.d && vReg f.s1 && zReg f.s2 && f.fmt == 0 && f.rnd == 0 && !f.fzi && !f.fzo && !f.sat && f.fn == 0 && f.res == 0
  | .vzip f => vReg f.d && vReg f.s1 && vReg f.s2 && f.rnd == 0 && !f.fzi && !f.fzo && !f.sat && f.fn == 0 && f.res == 0 && f.fmt != 7
  | .vunzip f => vReg f.d && vReg f.s1 && vReg f.s2 && f.rnd == 0 && !f.fzi && !f.fzo && !f.sat && f.res == 0 && f.fmt != 7 && f.fn.toNat ≤ 1
  | .vcompress f => vReg f.d && vReg f.s1 && zReg f.s2 && f.fmt == 0 && f.rnd == 0 && !f.fzi && !f.fzo && !f.sat && f.fn == 0 && f.res == 0
  | .vexpand f => vReg f.d && vReg f.s1 && zReg f.s2 && f.fmt == 0 && f.rnd == 0 && !f.fzi && !f.fzo && !f.sat && f.fn == 0 && f.res == 0
  | .vidx f => vReg f.d && zReg f.s1 && zReg f.s2 && f.rnd == 0 && !f.fzi && !f.fzo && !f.sat && f.fn == 0 && f.res == 0 && intFmt f.fmt
  | .vpop f => vReg f.d && lqReg f.s1 && zReg f.s2 && f.fmt == 0 && f.rnd == 0 && !f.fzi && !f.fzo && !f.sat && f.res == 0 && f.fn.toNat ≤ 2
  | .vpush f => sqReg f.d && vReg f.s1 && zReg f.s2 && f.fmt == 0 && f.rnd == 0 && !f.fzi && !f.fzo && !f.sat && f.fn == 0 && f.res == 0
  | .mand f => mReg f.d && mReg f.s1 && mReg f.s2 && f.fmt == 0 && f.rnd == 0 && !f.fzi && !f.fzo && !f.sat && f.mask == 0 && f.fn == 0 && f.res == 0
  | .mor f => mReg f.d && mReg f.s1 && mReg f.s2 && f.fmt == 0 && f.rnd == 0 && !f.fzi && !f.fzo && !f.sat && f.mask == 0 && f.fn == 0 && f.res == 0
  | .mxor f => mReg f.d && mReg f.s1 && mReg f.s2 && f.fmt == 0 && f.rnd == 0 && !f.fzi && !f.fzo && !f.sat && f.mask == 0 && f.fn == 0 && f.res == 0
  | .mandn f => mReg f.d && mReg f.s1 && mReg f.s2 && f.fmt == 0 && f.rnd == 0 && !f.fzi && !f.fzo && !f.sat && f.mask == 0 && f.fn == 0 && f.res == 0
  | .mnot f => mReg f.d && mReg f.s1 && zReg f.s2 && f.fmt == 0 && f.rnd == 0 && !f.fzi && !f.fzo && !f.sat && f.mask == 0 && f.fn == 0 && f.res == 0
  | .mmov f => mReg f.d && mReg f.s1 && zReg f.s2 && f.fmt == 0 && f.rnd == 0 && !f.fzi && !f.fzo && !f.sat && f.mask == 0 && f.fn == 0 && f.res == 0
  | .mset f => mReg f.d && sReg f.s1 && zReg f.s2 && f.fmt == 0 && f.rnd == 0 && !f.fzi && !f.fzo && !f.sat && f.mask == 0 && f.fn == 0 && f.res == 0
  | .mget f => sReg f.d && mReg f.s1 && zReg f.s2 && f.fmt == 0 && f.rnd == 0 && !f.fzi && !f.fzo && !f.sat && f.mask == 0 && f.fn == 0 && f.res == 0
  | .mcnt f => sReg f.d && mReg f.s1 && zReg f.s2 && f.fmt == 0 && f.rnd == 0 && !f.fzi && !f.fzo && !f.sat && f.mask == 0 && f.fn == 0 && f.res == 0
  | .ckacc f => ckReg f.d && vReg f.s1 && zReg f.s2 && f.rnd == 0 && !f.fzo && !f.sat && f.res == 0 && ckaccFn f.fmt f.fn
  | .ckchk f => zReg f.d && ckReg f.s1 && ckReg f.s2 && f.fmt == 0 && f.rnd == 0 && !f.fzi && !f.fzo && !f.sat && f.mask == 0 && f.res == 0
  | .ckclr f => ckReg f.d && zReg f.s1 && zReg f.s2 && f.fmt == 0 && f.rnd == 0 && !f.fzi && !f.fzo && !f.sat && f.mask == 0 && f.fn == 0 && f.res == 0
  | .ckget f => sReg f.d && ckReg f.s1 && zReg f.s2 && f.fmt == 0 && f.rnd == 0 && !f.fzi && !f.fzo && !f.sat && f.mask == 0 && f.res == 0 && f.fn.toNat ≤ 1
  | .mfirst f => sReg f.d && mReg f.s1 && zReg f.s2 && f.fmt == 0 && f.rnd == 0 && !f.fzi && !f.fzo && !f.sat && f.mask == 0 && f.fn == 0 && f.res == 0
  | .viaddi f => vReg f.d && vReg f.s1 && immIntFmt f.imm
  | .vshli f => vReg f.d && vReg f.s1 && immVShift f.imm
  | .vshri f => vReg f.d && vReg f.s1 && immVShift f.imm
  | .vsrai f => vReg f.d && vReg f.s1 && immVShift f.imm
  | .vext f => sReg f.d && vReg f.s1 && immElem f.imm
  | .vins f => vReg f.d && sReg f.s1 && immElem f.imm
  | .vslide f => vReg f.d && vReg f.s1 && immSlide f.imm
  | .vimm f => vReg f.d && zReg f.s1 && immFmt f.imm
  | .vlimm f _ => vReg f.d && f.imm == 0
  | .revoke f => sReg f.d && sReg f.s1 && kReg f.s2 && f.fmt == 0 && f.rnd == 0 && !f.fzi && !f.fzo && !f.sat && f.mask == 0 && f.fn == 0 && f.res == 0
  | .grant f => sReg f.d && sReg f.s1 && kReg f.s2 && f.fmt == 0 && f.rnd == 0 && !f.fzi && !f.fzo && !f.sat && f.mask == 0 && f.fn == 0 && f.res == 0
  | .tsweep f => sReg f.d && sReg f.s1 && zReg f.s2 && f.fmt == 0 && f.rnd == 0 && !f.fzi && !f.fzo && !f.sat && f.mask == 0 && f.fn == 0 && f.res == 0
  | .tcflush f => zReg f.d && sReg f.s1 && zReg f.s2 && f.fmt == 0 && f.rnd == 0 && !f.fzi && !f.fzo && !f.sat && f.mask == 0 && f.fn == 0 && f.res == 0
  | .pgclass f => sReg f.d && sReg f.s1 && zReg f.s2 && f.fmt == 0 && f.rnd == 0 && !f.fzi && !f.fzo && !f.sat && f.mask == 0 && f.res == 0 && f.fn.toNat ≤ 2
  | .ckpt f => sReg f.d && sReg f.s1 && f.imm == 0
  | .ckroll f => sReg f.d && sReg f.s1 && f.imm == 0
  | .roleset f => zReg f.d && sReg f.s1 && hiZero f.imm 4 && roleImm f.imm
  | .csrr f => sReg f.d && csrNum f.imm
  | .csrw f => sReg f.d && csrNum f.imm
  | .syscall f => zReg f.d && zReg f.s1 && hiZero f.imm 16
  | .tret f => zReg f.d && zReg f.s1 && f.imm == 0
  | .halt f => zReg f.d && zReg f.s1 && f.imm == 0
  | .ctxsaveKeep f => sReg f.d && sReg f.s1 && kReg f.s2 && f.fmt == 0 && f.rnd == 0 && !f.fzi && !f.fzo && !f.sat && f.mask == 0 && f.res == 0 && f.fn == 0
  | .ctxsaveDrop f => sReg f.d && sReg f.s1 && kReg f.s2 && f.fmt == 0 && f.rnd == 0 && !f.fzi && !f.fzo && !f.sat && f.mask == 0 && f.res == 0 && f.fn == 1
  | .ctxload f => sReg f.d && sReg f.s1 && kReg f.s2 && f.fmt == 0 && f.rnd == 0 && !f.fzi && !f.fzo && !f.sat && f.mask == 0 && f.res == 0 && f.fn == 0
  | .ctxloadEvict f => sReg f.d && sReg f.s1 && kReg f.s2 && f.fmt == 0 && f.rnd == 0 && !f.fzi && !f.fzo && !f.sat && f.mask == 0 && f.res == 0 && f.fn == 1
  | .stest f => sReg f.d && zReg f.s1 && stestImm f.imm
  | .shelfput f => sReg f.d && sReg f.s1 && kReg f.s2 && f.fmt == 0 && f.rnd == 0 && !f.fzi && !f.fzo && !f.sat && f.mask == 0 && f.fn == 0 && f.res == 0
  | .lineFetch _ _ => false
  | .launchRecord _ _ _ => false
  | .benchWaitEnd _ => false
  | .poolSlotWaitEnd _ => false
  | .feedAppend _ _ _ => false
  | .feedWake _ => false
  | .fabricLaunch _ _ => false
  | .residencyRequest _ _ => false
  | .pickup _ => false
  | .effectiveLevelRise _ => false
  | .spawnReady _ _ => false
  | .waiterWake _ _ => false
  | .remqUnblock _ _ => false
  | .phaseCountArrival _ _ _ _ => false
  | .barrierCountArrival _ _ _ _ => false
  | .jobDispatch _ _ => false
  | .shareGrant _ => false
  | .shareWaitExpiry _ _ => false
  | .jobCompletion _ _ => false
  | .signalUpdateAck _ _ => false
  | .shadowLoad _ => false
  | .planeSwap _ => false
  | .matrixPass _ => false
  | .retirement _ => false
  | .copyLine _ => false
  | .copyLineComplete _ => false
  | .reduceContribution _ => false
  | .mcastMemberWrite _ _ => false
  | .tableFreeze _ _ _ => false
  | .requestPerform _ _ => false
  | .xResultLanding _ => false
  | .translationComplete _ => false
  | .shootDown _ _ _ => false
  | .drainComplete _ _ => false
  | .pinRequest _ => false
  | .unpinRequest _ => false
  | .tierMove _ _ _ => false
  | .migrationLineCopy _ _ _ _ => false
  | .migrationRetry _ => false
  | .rds _ _ => false
  | .rdx _ _ => false
  | .upg _ _ => false
  | .wb _ _ => false
  | .drop _ _ => false
  | .snoop _ _ _ => false
  | .readPacket _ => false
  | .writePacket _ => false
  | .atomicPacket _ => false
  | .signalUpdatePacket _ => false
  | .replyPacket _ => false
  | .commitNotice _ _ => false
  | .stampRequest _ _ => false
  | .stampReceived _ _ => false
  | .bundleRecordRequest _ => false
  | .recordFree _ => false
  | .managementPacket _ => false
  | .drainMarker _ _ _ => false
  | .packetForward _ => false
  | .retransmission _ _ _ => false
  | .requestUnresolved _ _ _ => false
  | .dataFlit _ _ _ _ => false
  | .replay _ _ _ => false
  | .controlFlit _ _ _ => false
  | .freedRefresh _ _ => false
  | .linkOutOfService _ _ => false
  | .errorWindowEnd _ _ _ _ => false
  | .flitBoundarySwitch _ _ _ => false
  | .trainingSuccess _ _ _ _ => false
  | .trainingAttemptFail _ _ _ => false
  | .reconfigureFabric _ => false
  | .reconfigHold => false
  | .reconfigDrain => false
  | .reconfigDark => false
  | .reconfigRelock => false
  | .relockTimeout => false
  | .reconfigRoutes _ => false
  | .reconfigRun => false
  | .trapDelivery _ => false
  | .preemption _ _ _ => false
  | .selfTest _ _ _ => false
  | .powerLimitChange _ => false
  | .bootStep _ _ _ => false
  | .heartbeat => false
  | .createContext _ => false
  | .destroyContext _ => false
  | .installKey _ _ => false
  | .removeKey _ => false
  | .loadCompressionTable _ => false
  | .mapQueue _ => false
  | .parkQueue _ => false
  | .unmapQueue _ => false
  | .queueParkComplete _ => false
  | .writeRouteEntry _ => false
  | .attestationReport _ => false
  | .resetRungQueue _ => false
  | .resetRungContext _ => false
  | .resetRungDie _ => false
  | .resetRungModule => false
  | .setContextRegister _ => false
  | .bindSignalWord _ => false
  | .registerNoticeWord _ => false
  | .wakeRegisterWrite _ => false
  | .threadWake _ => false
  | .deviceRegisterWrite _ _ => false
  | .tdiConfigWrite _ => false
  | .unassignedOpcode _ => false
  | .coreRelease _ => false
  | .tdispRequest _ _ => false
  | .hostPortRequest _ => false
  | .resamplingInterval _ _ => false

end Sys2Proof
end

