-- ==== Sys2Proof/Machine/Num.lean ====
section
/-! DEFINITION. Exact values and their single rounding: the formats of R47 to R50, rounding,
flushing, saturation and flags of R51 to R57, the conversions of R55 and R60 to R63. Flags are the
five bits of sys.fpstat [4:0]: nv 16, dz 8, of 4, uf 2, nx 1 (R56). -/

namespace Sys2Proof.Machine

/-- An exact value: NaN, an infinity, a signed zero, or the dyadic number (-1)^neg * m * 2^e with
m > 0. -/
inductive Num where
  | nan
  | inf (neg : Bool)
  | zero (neg : Bool)
  | fin (neg : Bool) (m : Nat) (e : Int)
  deriving DecidableEq, Repr, Inhabited

/-- The flags of a floating-point operation, laid out as sys.fpstat [4:0] (R56). -/
abbrev FpFlags := BitVec 5

/-- Fraction bits of a floating-point type (R49). -/
def fracBits (t : Nat) : Nat :=
  if t = 0 then 23 else if t = 1 then 10 else if t = 2 then 7 else if t = 3 then 3 else 2
/-- Exponent bits of a floating-point type (R49). -/
def expBits (t : Nat) : Nat :=
  if t = 0 then 8 else if t = 1 then 5 else if t = 2 then 8 else if t = 3 then 4 else 5
/-- The exponent bias (R49). -/
def expBias (t : Nat) : Nat := 2 ^ (expBits t - 1) - 1
/-- The exponent of the smallest normal value (R49). -/
def minExp (t : Nat) : Int := 1 - (expBias t : Int)
/-- The largest finite value as significand and exponent of its unit (R49): 448 in f8e4, otherwise
all-ones significand at the largest exponent below the special one. -/
def maxFinite (t : Nat) : Nat × Int :=
  if t = 3 then (14, 5)
  else (2 ^ (fracBits t + 1) - 1, (expBias t : Int) - (fracBits t : Int))
/-- The canonical NaN (R50). -/
def canonicalNaN (t : Nat) : Nat :=
  if t = 0 then 0x7FC00000 else if t = 1 then 0x7E00 else if t = 2 then 0x7FC0
  else if t = 3 then 0x7F else 0x7E
/-- The sign bit of a type, set or clear. -/
def signBit (t : Nat) (neg : Bool) : Nat := if neg then 2 ^ (fracBits t + expBits t) else 0
/-- The pattern of an infinity; f8e4 has none (R50). -/
def infPattern (t : Nat) (neg : Bool) : Nat :=
  signBit t neg + (2 ^ expBits t - 1) * 2 ^ fracBits t
/-- The pattern of the largest finite value. -/
def maxPattern (t : Nat) (neg : Bool) : Nat :=
  signBit t neg + (if t = 3 then 0x7E else (2 ^ expBits t - 1) * 2 ^ fracBits t - 1)

/-- The value of a floating-point pattern (R49, R50). -/
def decodeFloat (t : Nat) (b : Nat) : Num :=
  let f := b % 2 ^ fracBits t
  let x := b / 2 ^ fracBits t % 2 ^ expBits t
  let neg := b / 2 ^ (fracBits t + expBits t) % 2 == 1
  if x = 2 ^ expBits t - 1 ∧ (t ≠ 3 ∨ f = 7) then
    if f = 0 then .inf neg else .nan
  else if x = 0 then
    if f = 0 then .zero neg else .fin neg f (minExp t - fracBits t)
  else .fin neg (2 ^ fracBits t + f) ((x : Int) - expBias t - fracBits t)

/-- A subnormal operand pattern (R52). -/
def isSubnormal (t : Nat) (b : Nat) : Bool :=
  b / 2 ^ fracBits t % 2 ^ expBits t == 0 && b % 2 ^ fracBits t != 0

/-- FlushIn of R52: the value of an operand, a subnormal flushed under fzi. -/
def flushIn (t : Nat) (b : Nat) (fzi : Bool) : Num :=
  if fzi && isSubnormal t b then .zero (b / 2 ^ (fracBits t + expBits t) % 2 == 1)
  else decodeFloat t b

/-- The pattern of the value r * 2^q, r > 0, which the format holds exactly. -/
def encodeExact (t : Nat) (neg : Bool) (r : Nat) (q : Int) : Nat :=
  let p := fracBits t
  let e : Int := (Nat.log2 r : Int) + q
  if e < minExp t then signBit t neg + r * 2 ^ (q - (minExp t - p)).toNat
  else
    let sh := q - (e - p)
    let mant := if 0 ≤ sh then r * 2 ^ sh.toNat else r / 2 ^ (-sh).toNat
    signBit t neg + (e + expBias t).toNat * 2 ^ p + (mant - 2 ^ p)

/-- Rounds the quotient a / b (b > 0) to an integer in the direction `rnd` for a value of sign `neg`
(R51). -/
def roundQuot (a b : Nat) (rnd : Nat) (neg : Bool) : Nat :=
  let k := a / b
  let r := a % b
  if rnd = 0 then
    if 2 * r < b then k else if b < 2 * r then k + 1 else if k % 2 = 0 then k else k + 1
  else if rnd = 1 then k
  else if r ≠ 0 ∧ ((rnd = 2 ∧ neg) ∨ (rnd = 3 ∧ !neg)) then k + 1
  else k

/-- The result of an overflow (R54). -/
def overflowResult (t : Nat) (neg : Bool) (rnd : Nat) (sat : Bool) : Nat :=
  let toInf := rnd = 0 ∨ (rnd = 2 ∧ neg) ∨ (rnd = 3 ∧ !neg)
  if toInf ∧ !sat then (if t = 3 then canonicalNaN t else infPattern t neg) else maxPattern t neg

/-- x * 2^k as a quotient, k of either sign. -/
def scaleQuot (num den : Nat) (k : Int) : Nat × Nat :=
  if 0 ≤ k then (num * 2 ^ k.toNat, den) else (num, den * 2 ^ (-k).toNat)

/-- floor(log2 (num / den)) for num, den > 0. -/
def log2Quot (num den : Nat) : Int :=
  let k : Int := (Nat.log2 num : Int) - Nat.log2 den
  let (a, b) := scaleQuot num den (-k)
  if b ≤ a then k else k - 1

/-- Rounds (-1)^neg * (num / den) * 2^e, not zero, to the values of type `t` with at most `sig`
significant bits: one rounding, then overflow, flush and flags (R51, R53, R54, R56, R57). -/
def roundFrac (t sig : Nat) (neg : Bool) (num den : Nat) (e : Int) (rnd : Nat) (sat fzo : Bool) :
    Nat × FpFlags :=
  let p := fracBits t + 1
  let s := min sig p
  let ex := log2Quot num den + e
  let q := max (ex - (s - 1 : Nat)) (minExp t - (p - 1 : Nat))
  let (a, b) := scaleQuot num den (e - q)
  let r := roundQuot a b rnd neg
  let inexact := a % b ≠ 0
  let tiny := ex < minExp t
  let (mx, mq) := maxFinite t
  let mx := mx / 2 ^ (p - s) * 2 ^ (p - s)
  let (ra, rb) := scaleQuot r 1 (q - mq)
  if mx * rb < ra then
    let pat := overflowResult t neg rnd sat
    -- the largest value of a narrower set replaces M (R226)
    let pat := if pat = maxPattern t neg ∧ s < p then encodeExact t neg mx mq else pat
    (pat, 4#5 ||| 1#5)
  else if r = 0 then (signBit t neg, if fzo ∧ inexact then 3#5 else if inexact then 3#5 else 0#5)
  else
    let subn := (Nat.log2 r : Int) + q < minExp t
    if fzo ∧ subn then (signBit t neg, 3#5)
    else (encodeExact t neg r q,
      (if tiny ∧ inexact then 2#5 else 0#5) ||| (if inexact then 1#5 else 0#5))

/-- RoundTo of R51 to R54 on an exact value. -/
def roundTo (t : Nat) (x : Num) (rnd : Nat) (sat fzo : Bool) : Nat × FpFlags :=
  match x with
  | .nan => (canonicalNaN t, 0#5)
  | .inf neg =>
    (if t = 3 then (if sat then maxPattern t neg else canonicalNaN t) else infPattern t neg, 0#5)
  | .zero neg => (signBit t neg, 0#5)
  | .fin neg m e => if m = 0 then (signBit t neg, 0#5) else roundFrac t 64 neg m 1 e rnd sat fzo

/-- The sign of an exact value. -/
def Num.isNeg : Num → Bool
  | .nan => false
  | .inf n => n
  | .zero n => n
  | .fin n _ _ => n

/-- The value with its sign inverted; NaN stays NaN. -/
def Num.negate : Num → Num
  | .nan => .nan
  | .inf n => .inf (!n)
  | .zero n => .zero (!n)
  | .fin n m e => .fin (!n) m e

/-- The magnitude; NaN stays NaN. -/
def Num.abs : Num → Num
  | .nan => .nan
  | .inf _ => .inf false
  | .zero _ => .zero false
  | .fin _ m e => .fin false m e

/-- The signed integer of a finite value in units of 2^u, u at most its exponent. -/
def Num.inUnits : Num → Int → Int
  | .fin n m e, u => let v : Int := m * 2 ^ (e - u).toNat; if n then -v else v
  | _, _ => 0

/-- The exponent of a value's unit; zeros have none. -/
def Num.unit : Num → Option Int
  | .fin _ _ e => some e
  | _ => none

/-- An integer in units of 2^u; zero takes the sign `nz`. -/
def Num.ofUnits (v : Int) (u : Int) (nz : Bool) : Num :=
  if v = 0 then .zero nz else .fin (v < 0) v.natAbs u

/-- The exact sum, with NV for opposite infinities. A zero sum of opposite signs takes the sign
that the mode gives (R51). -/
def Num.add (rnd : Nat) : Num → Num → Num × FpFlags
  | .nan, _ => (.nan, 0#5)
  | _, .nan => (.nan, 0#5)
  | .inf a, .inf b => if a == b then (.inf a, 0#5) else (.nan, 16#5)
  | .inf a, _ => (.inf a, 0#5)
  | _, .inf b => (.inf b, 0#5)
  | .zero a, .zero b => (.zero (if a == b then a else rnd == 2), 0#5)
  | .zero _, y => (y, 0#5)
  | x, .zero _ => (x, 0#5)
  | .fin na ma ea, .fin nb mb eb =>
    let u := min ea eb
    (Num.ofUnits (Num.inUnits (.fin na ma ea) u + Num.inUnits (.fin nb mb eb) u) u (rnd == 2), 0#5)

/-- The exact product, with NV for zero times infinity. -/
def Num.mul : Num → Num → Num × FpFlags
  | .nan, _ => (.nan, 0#5)
  | _, .nan => (.nan, 0#5)
  | .inf a, .inf b => (.inf (a != b), 0#5)
  | .inf _, .zero _ => (.nan, 16#5)
  | .zero _, .inf _ => (.nan, 16#5)
  | .inf a, .fin b _ _ => (.inf (a != b), 0#5)
  | .fin a _ _, .inf b => (.inf (a != b), 0#5)
  | .zero a, .zero b => (.zero (a != b), 0#5)
  | .zero a, .fin b _ _ => (.zero (a != b), 0#5)
  | .fin a _ _, .zero b => (.zero (a != b), 0#5)
  | .fin a m e, .fin b n f => (.fin (a != b) (m * n) (e + f), 0#5)

/-- a < b for values that are not NaN. -/
def Num.lt (a b : Num) : Bool :=
  let rank : Num → Int := fun x =>
    match x with
    | .inf true => -2 | .fin true _ _ => -1 | .fin false _ _ => 1 | .inf false => 2 | _ => 0
  match a, b with
  | .fin na ma ea, .fin nb mb eb =>
    let u := min ea eb
    Num.inUnits (.fin na ma ea) u < Num.inUnits (.fin nb mb eb) u
  | a, b => rank a < rank b

/-- a = b for values that are not NaN; the two zeros are equal. -/
def Num.eqv (a b : Num) : Bool := !Num.lt a b && !Num.lt b a

/-! Integers (R59). -/

/-- The type is a signed integer type (R47). -/
def isSigned (t : Nat) : Bool := 8 ≤ t && t < 12
/-- The type is an integer type (R47). -/
def isIntType (t : Nat) : Bool := 8 ≤ t
/-- The type is one of the five floating-point types (R49). -/
def isFloatType (t : Nat) : Bool := t ≤ 4

/-- The integer that a pattern of type `t` stands for. -/
def intOf (t : Nat) (b : Nat) : Int :=
  let w := typeWidth t
  if isSigned t ∧ 2 ^ (w - 1) ≤ b then (b : Int) - 2 ^ w else b

/-- The least value of an integer type. -/
def intMin (t : Nat) : Int := if isSigned t then -(2 ^ (typeWidth t - 1) : Nat) else 0
/-- The greatest value of an integer type. -/
def intMax (t : Nat) : Int :=
  if isSigned t then (2 ^ (typeWidth t - 1) : Nat) - 1 else (2 ^ typeWidth t : Nat) - 1

/-- The pattern of an exact integer result: wrapped, or clamped when `sat` (R59). -/
def intResult (t : Nat) (sat : Bool) (x : Int) : Nat :=
  let x := if sat then max (intMin t) (min (intMax t) x) else x
  (x % (2 ^ typeWidth t : Nat)).toNat

/-! Dyad weights and block scales (R60 to R63). -/

/-- A term of a dy8 byte in units of 2^-6. -/
def dyTerm (x : Nat) : Int :=
  if x % 8 = 7 then 0 else (if 8 ≤ x then -1 else 1) * (2 ^ (6 - x % 8) : Nat)

/-- DecodeDy8 of R60 in units of 2^-6. -/
def dyUnits (b : Nat) : Int := dyTerm (b / 16 % 16) + dyTerm (b % 16)

/-- The value of a dy8 byte; zero is +0 (R60). -/
def decodeDy8 (b : Nat) : Num := Num.ofUnits (dyUnits b) (-6) false

/-- The number of non-zero terms of a byte. -/
def dyTerms (b : Nat) : Nat :=
  (if b / 16 % 8 = 7 then 0 else 1) + (if b % 8 = 7 then 0 else 1)

/-- The rank of a byte under the four rules of R61: less is better. -/
def dyRank (b : Nat) : Nat :=
  let h := b / 16 % 16
  let l := b % 16
  let sameSign := h / 8 = l / 8
  let order := h % 8 ≤ l % 8
  let zeros := (h % 8 ≠ 7 ∨ h = 7) ∧ (l % 8 ≠ 7 ∨ l = 7)
  dyTerms b * 8 + (if dyTerms b = 2 ∧ ¬ sameSign then 4 else 0) + (if order then 0 else 2) +
    (if zeros then 0 else 1)

/-- The canonical byte of a value in units of 2^-6 (R61): the best of its encodings. -/
def canonicalDy8 (u : Int) : Nat :=
  (List.range 256).foldl (fun best b =>
    if dyUnits b = u ∧ (dyUnits best ≠ u ∨ dyRank b < dyRank best) then b else best) 0x77

/-- The values of dy8 in units of 2^-6, with their canonical bytes. -/
def dyValues : List (Int × Nat) :=
  (List.range 257).filterMap fun (i : Nat) =>
    let u : Int := Int.ofNat i - 128
    let b := canonicalDy8 u
    if dyUnits b = u then some (u, b) else none

/-- Conversion into dy8 of an exact value (R62).
Log 35: DEDUCED, unsafe. -/
def toDy8 (x : Num) (rnd : Nat) : Nat × FpFlags :=
  match x with
  | .nan => (0x77, 16#5)
  | .inf n => (if n then 0x88 else 0x00, 16#5)
  | .zero _ => (0x77, 0#5)
  | .fin n m e =>
    -- compare m * 2^(e+6) with unit values
    let (a, b) := scaleQuot m 1 (e + 6)
    let v : Int := if n then -(a : Int) else a
    if 128 * (b : Int) < v then (0x00, 5#5)
    else if v < -128 * (b : Int) then (0x88, 5#5)
    else
      let below := (dyValues.filter fun p => p.1 * b ≤ v).getLastD (-128, 0x88)
      let above := (dyValues.filter fun p => v ≤ p.1 * b).headD (128, 0x00)
      if below.1 = above.1 then (below.2, 0#5)
      else
        let dl := v - below.1 * b
        let dh := above.1 * b - v
        let pick :=
          if rnd = 2 then below
          else if rnd = 3 then above
          else if rnd = 1 then (if n then above else below)
          else if dl < dh then below
          else if dh < dl then above
          else if dyTerms below.2 < dyTerms above.2 then below
          else if dyTerms above.2 < dyTerms below.2 then above
          else if below.1.natAbs ≤ above.1.natAbs then below else above
        (pick.2, 1#5)

/-- The exponent that an sc8 byte stands for; none marks a NaN block (R63). -/
def sc8Exp (b : Nat) : Option Int :=
  if b = 0x80 then none else some (if 128 ≤ b then (b : Int) - 256 else b)

/-- The exact value of an sc8 byte (R55, R63). -/
def decodeSc8 (b : Nat) : Num :=
  match sc8Exp b with
  | none => .nan
  | some e => .fin false 1 e

/-- Conversion into sc8 (R55).
Log 35: DEDUCED, unsafe. -/
def toSc8 (x : Num) : Nat :=
  match x with
  | .nan => 0x80
  | .inf _ => 0x80
  | .zero _ => 0x81
  | .fin _ m e =>
    let k := max (-127) (min 127 ((Nat.log2 m : Int) + e))
    (k % 256).toNat

/-! Conversions between element types (R55, R62). -/

/-- The exact value of an element of any type; an integer zero is +0. -/
def elemValue (t : Nat) (b : Nat) (fzi : Bool) : Num :=
  if isFloatType t then flushIn t b fzi
  else if t = 5 then decodeDy8 b
  else if t = 6 then decodeSc8 b
  else Num.ofUnits (intOf t b) 0 false

/-- Float to integer (R55): rounded, clamped with NV, NX when inexact.
Log 34: DEDUCED, unsafe. -/
def toInt (t : Nat) (x : Num) (rnd : Nat) : Nat × FpFlags :=
  match x with
  | .nan => (0, 16#5)
  | .inf n => (intResult t false (if n then intMin t else intMax t), 16#5)
  | .zero _ => (0, 0#5)
  | .fin n m e =>
    let (a, b) := scaleQuot m 1 e
    let r := roundQuot a b rnd n
    let v : Int := if n then -(r : Int) else r
    if v < intMin t then (intResult t false (intMin t), 16#5)
    else if intMax t < v then (intResult t false (intMax t), 16#5)
    else (intResult t false v, if a % b ≠ 0 then 1#5 else 0#5)

/-- Converts one element from type `ts` to type `td` (R55, R62).
Log 35: DEDUCED, unsafe. -/
def convert (td ts : Nat) (b : Nat) (rnd : Nat) (fzi fzo sat : Bool) : Nat × FpFlags :=
  if td = 7 ∨ ts = 7 then (0, 0#5)
  else if isIntType ts ∧ isIntType td then (intResult td sat (intOf ts b), 0#5)
  else
    let x := elemValue ts b fzi
    if td = 5 then toDy8 x rnd
    else if td = 6 then (toSc8 x, 0#5)
    else if isIntType td then toInt td x rnd
    else roundTo td x rnd sat fzo

/-- max(|x|, |y|) * 2^-k bounds |x - y| (R239). -/
def withinTol (x y : Num) (k : Nat) : Bool :=
  match x, y with
  | .nan, _ => false
  | _, .nan => false
  | .inf a, .inf b => a == b
  | .inf _, _ => false
  | _, .inf _ => false
  | x, y =>
    let d := (Num.add 0 x y.negate).1.abs
    let big := if x.abs.lt y.abs then y.abs else x.abs
    let bound := (Num.mul big (.fin false 1 (-(k : Int)))).1
    !bound.lt d

end Sys2Proof.Machine
end

