-- ==== Sys2Proof/Machine/Event.lean ====
section
/-! DEFINITION. The events of the module's own agents and of its ports, as the data of the state that
says which are due. Each constructor but the last two names the event row of `Instr` of the same name, with what selects the event;
those two are the errors of the hardware's storage (R401), which the opcode table does not list. -/

namespace Sys2Proof.Machine

/-- An event that is due. -/
inductive Event where
  | lineFetch (core : Nat) (str : Stream)
  | launchRecord (die : Nat) (ctx : Nat) (src : QAddr)
  | benchWaitEnd (die : Nat)
  | poolSlotWaitEnd (die : Nat)
  | feedAppend (die : Nat) (ctx : Nat) (src : QAddr)
  | feedWake (core : Nat)
  | fabricLaunch (die : Nat) (p : Packet)
  | residencyRequest (die : Nat) (p : Packet)
  | pickup (core : Nat)
  | effectiveLevelRise (die : Nat)
  | spawnReady (die : Nat) (slot : Nat)
  | waiterWake (die : Nat) (slot : Nat)
  | remqUnblock (die : Nat) (slot : Nat)
  | phaseCountArrival (dst : Nat) (src : Nat) (group : GroupKey) (value : BitVec 32)
  | barrierCountArrival (dst : Nat) (src : Nat) (group : GroupKey) (value : BitVec 32)
  | jobDispatch (core : Nat) (matrix : Bool)
  | shareGrant (die : Nat)
  | shareWaitExpiry (core : Nat) (slot : Nat)
  | jobCompletion (core : Nat) (slot : Nat)
  | signalUpdateAck (core : Nat) (slot : Nat)
  | shadowLoad (core : Nat)
  | planeSwap (core : Nat)
  | matrixPass (core : Nat)
  | retirement (core : Nat)
  | copyLine (core : Nat)
  | copyLineComplete (core : Nat)
  | reduceContribution (c : Contribution)
  | mcastMemberWrite (core : Nat) (m : McastWrite)
  | tableFreeze (die : Nat) (slot : Nat) (lens : List Nat)
  | requestPerform (core : Nat) (str : Stream)
  | xResultLanding (core : Nat)
  | translationComplete (core : Nat)
  | shootDown (core : Nat) (ctx : Nat) (index : Nat)
  | drainComplete (ctx : Nat) (index : Nat)
  | pinRequest (p : Packet)
  | unpinRequest (p : Packet)
  | tierMove (frame : Nat) (size : Nat) (dest : Nat)
  | migrationLineCopy (page : Nat) (size : Nat) (peer : Nat) (dest : Nat)
  | migrationRetry (p : Packet)
  | rds (core : Nat) (line : Nat)
  | rdx (core : Nat) (line : Nat)
  | upg (core : Nat) (line : Nat)
  | wb (core : Nat) (line : Nat)
  | drop (core : Nat) (line : Nat)
  | snoop (core : Nat) (line : Nat) (inv : Bool)
  | readPacket (p : Packet)
  | writePacket (p : Packet)
  | atomicPacket (p : Packet)
  | signalUpdatePacket (p : Packet)
  | replyPacket (p : Packet)
  | commitNotice (name : BitVec 32) (stamp : Nat)
  | stampRequest (peer : Nat) (name : BitVec 32)
  | stampReceived (name : BitVec 32) (stamp : Nat)
  | bundleRecordRequest (p : Packet)
  | recordFree (index : Nat)
  | managementPacket (p : Packet)
  | drainMarker (die : Nat) (link : Nat) (rq : Nat)
  | packetForward (p : Packet)
  | retransmission (peer : Nat) (die : Nat) (id : Nat)
  | requestUnresolved (peer : Nat) (die : Nat) (id : Nat)
  | dataFlit (die : Nat) (link : Nat) (flit : BitVec 512) (side : List W64)
  | replay (die : Nat) (link : Nat) (seq : Nat)
  | controlFlit (die : Nat) (link : Nat) (flit : BitVec 512)
  | freedRefresh (peer : Nat) (rq : Nat)
  | linkOutOfService (die : Nat) (link : Nat)
  | errorWindowEnd (die : Nat) (link : Nat) (wave : Nat) (errs : Nat)
  | flitBoundarySwitch (die : Nat) (link : Nat) (wave : Nat)
  | trainingSuccess (die : Nat) (link : Nat) (wave : Nat) (far : Nat)
  | trainingAttemptFail (die : Nat) (link : Nat) (wave : Nat)
  | reconfigureFabric (c : Cmd)
  | reconfigHold
  | reconfigDrain
  | reconfigDark
  | reconfigRelock
  | relockTimeout
  | reconfigRoutes (plan : RoutesPlan)
  | reconfigRun
  | trapDelivery (core : Nat)
  | preemption (core : Nat) (pa : Nat) (release : Bool)
  | selfTest (kind : Nat) (index : Nat) (outcome : Nat)
  | powerLimitChange (sizes : List Nat)
  | bootStep (number : Nat) (ok : Bool) (stamp : BitVec 64)
  | heartbeat
  | createContext (c : Cmd)
  | destroyContext (c : Cmd)
  | installKey (c : Cmd) (key : Option (BitVec 256))
  | removeKey (c : Cmd)
  | loadCompressionTable (c : Cmd)
  | mapQueue (c : Cmd)
  | parkQueue (c : Cmd)
  | unmapQueue (c : Cmd)
  | queueParkComplete (queue : Nat)
  | writeRouteEntry (c : Cmd)
  | attestationReport (c : Cmd)
  | resetRungQueue (queue : Nat)
  | resetRungContext (ctx : Nat)
  | resetRungDie (die : Nat)
  | resetRungModule
  | setContextRegister (c : Cmd)
  | bindSignalWord (c : Cmd)
  | registerNoticeWord (c : Cmd)
  | wakeRegisterWrite (queue : Nat)
  | threadWake (queue : Nat)
  | deviceRegisterWrite (addr : Nat) (value : BitVec 64)
  | tdiConfigWrite (tdi : Nat)
  | unassignedOpcode (order : Nat)
  | coreRelease (core : Nat)
  | tdispRequest (tdi : Nat) (msg : TdispMsg)
  | hostPortRequest (r : HostRequest)
  | resamplingInterval (die : Nat) (slot : Nat)
  | correction (kind : Nat) (index : Nat)
  | uncorrectable (kind : Nat) (index : Nat) (grain : Nat)
  deriving DecidableEq, Repr

/-- The row of the opcode table that an event is. -/
def Event.names : Event → Instr → Bool
  | .lineFetch core₁ str₁, .lineFetch core₂ str₂ => core₁ == core₂ && str₁ == str₂
  | .launchRecord die₁ ctx₁ src₁, .launchRecord die₂ ctx₂ src₂ => die₁ == die₂ && ctx₁ == ctx₂ && src₁ == src₂
  | .benchWaitEnd die₁, .benchWaitEnd die₂ => die₁ == die₂
  | .poolSlotWaitEnd die₁, .poolSlotWaitEnd die₂ => die₁ == die₂
  | .feedAppend die₁ ctx₁ src₁, .feedAppend die₂ ctx₂ src₂ => die₁ == die₂ && ctx₁ == ctx₂ && src₁ == src₂
  | .feedWake core₁, .feedWake core₂ => core₁ == core₂
  | .fabricLaunch die₁ p₁, .fabricLaunch die₂ p₂ => die₁ == die₂ && p₁ == p₂
  | .residencyRequest die₁ p₁, .residencyRequest die₂ p₂ => die₁ == die₂ && p₁ == p₂
  | .pickup core₁, .pickup core₂ => core₁ == core₂
  | .effectiveLevelRise die₁, .effectiveLevelRise die₂ => die₁ == die₂
  | .spawnReady die₁ slot₁, .spawnReady die₂ slot₂ => die₁ == die₂ && slot₁ == slot₂
  | .waiterWake die₁ slot₁, .waiterWake die₂ slot₂ => die₁ == die₂ && slot₁ == slot₂
  | .remqUnblock die₁ slot₁, .remqUnblock die₂ slot₂ => die₁ == die₂ && slot₁ == slot₂
  | .phaseCountArrival dst₁ src₁ group₁ value₁, .phaseCountArrival dst₂ src₂ group₂ value₂ => dst₁ == dst₂ && src₁ == src₂ && group₁ == group₂ && value₁ == value₂
  | .barrierCountArrival dst₁ src₁ group₁ value₁, .barrierCountArrival dst₂ src₂ group₂ value₂ => dst₁ == dst₂ && src₁ == src₂ && group₁ == group₂ && value₁ == value₂
  | .jobDispatch core₁ matrix₁, .jobDispatch core₂ matrix₂ => core₁ == core₂ && matrix₁ == matrix₂
  | .shareGrant die₁, .shareGrant die₂ => die₁ == die₂
  | .shareWaitExpiry core₁ slot₁, .shareWaitExpiry core₂ slot₂ => core₁ == core₂ && slot₁ == slot₂
  | .jobCompletion core₁ slot₁, .jobCompletion core₂ slot₂ => core₁ == core₂ && slot₁ == slot₂
  | .signalUpdateAck core₁ slot₁, .signalUpdateAck core₂ slot₂ => core₁ == core₂ && slot₁ == slot₂
  | .shadowLoad core₁, .shadowLoad core₂ => core₁ == core₂
  | .planeSwap core₁, .planeSwap core₂ => core₁ == core₂
  | .matrixPass core₁, .matrixPass core₂ => core₁ == core₂
  | .retirement core₁, .retirement core₂ => core₁ == core₂
  | .copyLine core₁, .copyLine core₂ => core₁ == core₂
  | .copyLineComplete core₁, .copyLineComplete core₂ => core₁ == core₂
  | .reduceContribution c₁, .reduceContribution c₂ => c₁ == c₂
  | .mcastMemberWrite core₁ m₁, .mcastMemberWrite core₂ m₂ => core₁ == core₂ && m₁ == m₂
  | .tableFreeze die₁ slot₁ lens₁, .tableFreeze die₂ slot₂ lens₂ => die₁ == die₂ && slot₁ == slot₂ && lens₁ == lens₂
  | .requestPerform core₁ str₁, .requestPerform core₂ str₂ => core₁ == core₂ && str₁ == str₂
  | .xResultLanding core₁, .xResultLanding core₂ => core₁ == core₂
  | .translationComplete core₁, .translationComplete core₂ => core₁ == core₂
  | .shootDown core₁ ctx₁ index₁, .shootDown core₂ ctx₂ index₂ => core₁ == core₂ && ctx₁ == ctx₂ && index₁ == index₂
  | .drainComplete ctx₁ index₁, .drainComplete ctx₂ index₂ => ctx₁ == ctx₂ && index₁ == index₂
  | .pinRequest p₁, .pinRequest p₂ => p₁ == p₂
  | .unpinRequest p₁, .unpinRequest p₂ => p₁ == p₂
  | .tierMove frame₁ size₁ dest₁, .tierMove frame₂ size₂ dest₂ => frame₁ == frame₂ && size₁ == size₂ && dest₁ == dest₂
  | .migrationLineCopy page₁ size₁ peer₁ dest₁, .migrationLineCopy page₂ size₂ peer₂ dest₂ => page₁ == page₂ && size₁ == size₂ && peer₁ == peer₂ && dest₁ == dest₂
  | .migrationRetry p₁, .migrationRetry p₂ => p₁ == p₂
  | .rds core₁ line₁, .rds core₂ line₂ => core₁ == core₂ && line₁ == line₂
  | .rdx core₁ line₁, .rdx core₂ line₂ => core₁ == core₂ && line₁ == line₂
  | .upg core₁ line₁, .upg core₂ line₂ => core₁ == core₂ && line₁ == line₂
  | .wb core₁ line₁, .wb core₂ line₂ => core₁ == core₂ && line₁ == line₂
  | .drop core₁ line₁, .drop core₂ line₂ => core₁ == core₂ && line₁ == line₂
  | .snoop core₁ line₁ inv₁, .snoop core₂ line₂ inv₂ => core₁ == core₂ && line₁ == line₂ && inv₁ == inv₂
  | .readPacket p₁, .readPacket p₂ => p₁ == p₂
  | .writePacket p₁, .writePacket p₂ => p₁ == p₂
  | .atomicPacket p₁, .atomicPacket p₂ => p₁ == p₂
  | .signalUpdatePacket p₁, .signalUpdatePacket p₂ => p₁ == p₂
  | .replyPacket p₁, .replyPacket p₂ => p₁ == p₂
  | .commitNotice name₁ stamp₁, .commitNotice name₂ stamp₂ => name₁ == name₂ && stamp₁ == stamp₂
  | .stampRequest peer₁ name₁, .stampRequest peer₂ name₂ => peer₁ == peer₂ && name₁ == name₂
  | .stampReceived name₁ stamp₁, .stampReceived name₂ stamp₂ => name₁ == name₂ && stamp₁ == stamp₂
  | .bundleRecordRequest p₁, .bundleRecordRequest p₂ => p₁ == p₂
  | .recordFree index₁, .recordFree index₂ => index₁ == index₂
  | .managementPacket p₁, .managementPacket p₂ => p₁ == p₂
  | .drainMarker die₁ link₁ rq₁, .drainMarker die₂ link₂ rq₂ => die₁ == die₂ && link₁ == link₂ && rq₁ == rq₂
  | .packetForward p₁, .packetForward p₂ => p₁ == p₂
  | .retransmission peer₁ die₁ id₁, .retransmission peer₂ die₂ id₂ => peer₁ == peer₂ && die₁ == die₂ && id₁ == id₂
  | .requestUnresolved peer₁ die₁ id₁, .requestUnresolved peer₂ die₂ id₂ => peer₁ == peer₂ && die₁ == die₂ && id₁ == id₂
  | .dataFlit die₁ link₁ flit₁ side₁, .dataFlit die₂ link₂ flit₂ side₂ => die₁ == die₂ && link₁ == link₂ && flit₁ == flit₂ && side₁ == side₂
  | .replay die₁ link₁ seq₁, .replay die₂ link₂ seq₂ => die₁ == die₂ && link₁ == link₂ && seq₁ == seq₂
  | .controlFlit die₁ link₁ flit₁, .controlFlit die₂ link₂ flit₂ => die₁ == die₂ && link₁ == link₂ && flit₁ == flit₂
  | .freedRefresh peer₁ rq₁, .freedRefresh peer₂ rq₂ => peer₁ == peer₂ && rq₁ == rq₂
  | .linkOutOfService die₁ link₁, .linkOutOfService die₂ link₂ => die₁ == die₂ && link₁ == link₂
  | .errorWindowEnd die₁ link₁ wave₁ errs₁, .errorWindowEnd die₂ link₂ wave₂ errs₂ => die₁ == die₂ && link₁ == link₂ && wave₁ == wave₂ && errs₁ == errs₂
  | .flitBoundarySwitch die₁ link₁ wave₁, .flitBoundarySwitch die₂ link₂ wave₂ => die₁ == die₂ && link₁ == link₂ && wave₁ == wave₂
  | .trainingSuccess die₁ link₁ wave₁ far₁, .trainingSuccess die₂ link₂ wave₂ far₂ => die₁ == die₂ && link₁ == link₂ && wave₁ == wave₂ && far₁ == far₂
  | .trainingAttemptFail die₁ link₁ wave₁, .trainingAttemptFail die₂ link₂ wave₂ => die₁ == die₂ && link₁ == link₂ && wave₁ == wave₂
  | .reconfigureFabric c₁, .reconfigureFabric c₂ => c₁ == c₂
  | .reconfigHold, .reconfigHold => true
  | .reconfigDrain, .reconfigDrain => true
  | .reconfigDark, .reconfigDark => true
  | .reconfigRelock, .reconfigRelock => true
  | .relockTimeout, .relockTimeout => true
  | .reconfigRoutes plan₁, .reconfigRoutes plan₂ => plan₁ == plan₂
  | .reconfigRun, .reconfigRun => true
  | .trapDelivery core₁, .trapDelivery core₂ => core₁ == core₂
  | .preemption core₁ pa₁ release₁, .preemption core₂ pa₂ release₂ => core₁ == core₂ && pa₁ == pa₂ && release₁ == release₂
  | .selfTest kind₁ index₁ outcome₁, .selfTest kind₂ index₂ outcome₂ => kind₁ == kind₂ && index₁ == index₂ && outcome₁ == outcome₂
  | .powerLimitChange sizes₁, .powerLimitChange sizes₂ => sizes₁ == sizes₂
  | .bootStep number₁ ok₁ stamp₁, .bootStep number₂ ok₂ stamp₂ => number₁ == number₂ && ok₁ == ok₂ && stamp₁ == stamp₂
  | .heartbeat, .heartbeat => true
  | .createContext c₁, .createContext c₂ => c₁ == c₂
  | .destroyContext c₁, .destroyContext c₂ => c₁ == c₂
  | .installKey c₁ key₁, .installKey c₂ key₂ => c₁ == c₂ && key₁ == key₂
  | .removeKey c₁, .removeKey c₂ => c₁ == c₂
  | .loadCompressionTable c₁, .loadCompressionTable c₂ => c₁ == c₂
  | .mapQueue c₁, .mapQueue c₂ => c₁ == c₂
  | .parkQueue c₁, .parkQueue c₂ => c₁ == c₂
  | .unmapQueue c₁, .unmapQueue c₂ => c₁ == c₂
  | .queueParkComplete queue₁, .queueParkComplete queue₂ => queue₁ == queue₂
  | .writeRouteEntry c₁, .writeRouteEntry c₂ => c₁ == c₂
  | .attestationReport c₁, .attestationReport c₂ => c₁ == c₂
  | .resetRungQueue queue₁, .resetRungQueue queue₂ => queue₁ == queue₂
  | .resetRungContext ctx₁, .resetRungContext ctx₂ => ctx₁ == ctx₂
  | .resetRungDie die₁, .resetRungDie die₂ => die₁ == die₂
  | .resetRungModule, .resetRungModule => true
  | .setContextRegister c₁, .setContextRegister c₂ => c₁ == c₂
  | .bindSignalWord c₁, .bindSignalWord c₂ => c₁ == c₂
  | .registerNoticeWord c₁, .registerNoticeWord c₂ => c₁ == c₂
  | .wakeRegisterWrite queue₁, .wakeRegisterWrite queue₂ => queue₁ == queue₂
  | .threadWake queue₁, .threadWake queue₂ => queue₁ == queue₂
  | .deviceRegisterWrite addr₁ value₁, .deviceRegisterWrite addr₂ value₂ => addr₁ == addr₂ && value₁ == value₂
  | .tdiConfigWrite tdi₁, .tdiConfigWrite tdi₂ => tdi₁ == tdi₂
  | .unassignedOpcode order₁, .unassignedOpcode order₂ => order₁ == order₂
  | .coreRelease core₁, .coreRelease core₂ => core₁ == core₂
  | .tdispRequest tdi₁ msg₁, .tdispRequest tdi₂ msg₂ => tdi₁ == tdi₂ && msg₁ == msg₂
  | .hostPortRequest r₁, .hostPortRequest r₂ => r₁ == r₂
  | .resamplingInterval die₁ slot₁, .resamplingInterval die₂ slot₂ => die₁ == die₂ && slot₁ == slot₂
  | _, _ => false

end Sys2Proof.Machine
end

