-- ==== Sys2Proof/Machine/State.lean ====
section
/-! DEFINITION. The state of one SX8-M128 module as plain data: what the spec gives its cores, dies,
contexts, memory, fabric port and management complex; the reasons a step can stop; and the state
after reset. Tables that are sparse are lists of (key, value) pairs in ascending key; a key that is
not listed holds the table's reset value. -/

namespace Sys2Proof.Machine

/-- A sparse table: (key, value) pairs in ascending key. -/
abbrev SMap (α : Type) := List (Nat × α)

/-- The spec's cause codes that traps, stops and jobs report (R377). -/
abbrev CauseCode := Nat

/-! ### One core -/

/-- One frame of an extent (R168): the page's leaf fields, its virtual base and its size as a power
of two; a hole has no frame. -/
structure Frame where
  vpage : Nat
  bits : Nat
  hole : Bool
  mode : Nat
  cls : Nat
  bundle : Bool
  zpage : Bool
  peer : Nat
  addr : Nat
  deriving DecidableEq, Repr, Inhabited

/-- A part of a memory access that lies in one 128-byte line of one page: the element it belongs to,
its position and length in the element, and the frame and physical address of its first byte. -/
structure Seg where
  elem : Nat
  pos : Nat
  len : Nat
  frame : Frame
  addr : Nat
  deriving DecidableEq, Repr, Inhabited

/-- A line that a remote home has sent: the peer, the line's number there, its data, the poison marks of its four
sectors in bits [3:0], and in bit 4 that the view of the load had expired there (R327). -/
abbrev GotLine := Nat × Nat × BitVec 1024 × BitVec 5

/-- The fetch of a line that lies on other chips, wholly or in part (R30): its address in the image, the Cabinet index of the
image, its parts, the remote lines that it awaits and those that have arrived. -/
structure Fetch where
  pc : W64
  tokIndex : Nat
  segs : List Seg
  await : List (Nat × Nat)
  got : List GotLine
  deriving DecidableEq, Repr, Inhabited

/-- One stream of a core: whether its chain is started and finished (R150), whether it runs residual
code (R93), the PC of the next slot to issue (R25), the copy of its current line (R30), and whether it
fell through the end of its chain (R32). `copies` and `tile` are its job counters (R190); `awaiting` is
the line that a remote home is to send. -/
structure StreamState where
  started : Bool
  finished : Bool
  residual : Bool
  pc : W64
  lineAt : W64
  line : Option (BitVec 512)
  fell : Bool
  copies : Nat
  tile : Nat
  awaiting : Option Fetch
  deriving DecidableEq, Repr, Inhabited

/-- Where an X result lands (R383). -/
inductive Dest where
  | e (n : Nat)
  | v (n : Nat)
  | m (n : Nat)
  | ck (n : Nat)
  deriving DecidableEq, Repr, Inhabited

/-- What an in-flight entry does at landing (R221, R383). The sum of `ckFsum` is in units of 2^-149. -/
inductive LandOp where
  | write
  | ckIsum (sum : BitVec 128)
  | ckFsum (sum : Int) (nan pinf ninf : Bool) (count : Nat)
  | check
  deriving DecidableEq, Repr, Inhabited

/-- An X result in flight (R218, R221, R383); `wmask` has a bit set for each bit of the destination
that it writes. -/
structure InFlight where
  dest : Dest
  wmask : Vec
  value : Vec
  remaining : Nat
  op : LandOp
  flags : FpFlags
  pc : W64
  poison : Bool
  deriving DecidableEq, Repr, Inhabited

/-- An entry of a load queue (R187, R188): reserved, filled when its request performs. -/
structure LqEntry where
  filled : Bool
  data : Vec
  resid : W64
  view : W64
  poison : Bool
  deriving DecidableEq, Repr, Inhabited

/-- An entry of a store queue (R187). -/
structure SqEntry where
  data : Vec
  enable : W64
  poison : Bool
  deriving DecidableEq, Repr, Inhabited

/-- Why a request stopped at its queue head (R191): the cause, and the peer for PEER_UNREACHABLE. -/
structure StopInfo where
  code : CauseCode
  peer : Nat
  deriving DecidableEq, Repr, Inhabited

/-- A memory request that has issued and not performed (R191, R192, R387): the instruction and its
PC, the base (and the stride or operand) that it read at issue, the queue slot it fills (the position
among the slots of its queue that are not popped), the entries it took; once its check has passed, the
Cabinet index and the parts it touches, the remote lines it has received and those it awaits, and the
ID, peer and result of a numbered request; and the stop it met. `num` tells the requests of a core apart; `tok` is
the token that it read at issue, or reads afresh when it is issued again; `past` marks a request of C that C has
issued past (R194), `before` one issued before the trap was delivered whose handler runs (R380), `rewritten` lists the
registers that later slots of its stream have written, `view` is the view register at its issue (R326), `idDie` the
die of its ID. A `fence` that orders later events after events that have not performed stands in the list as
well (R294, R344). -/
structure Req where
  num : Nat
  instr : Instr
  pc : W64
  str : Stream
  tok : W64
  past : Bool
  queue : Nat
  slot : Nat
  base : W64
  xval : W64
  data : SqEntry
  index : SqEntry
  checked : Bool
  sent : Bool
  tokIndex : Nat
  segs : List Seg
  got : List GotLine
  await : List (Nat × Nat)
  id : Option Nat
  peer : Nat
  result : Option W64
  status : Nat
  stop : Option StopInfo
  before : Bool
  rewritten : List Nat
  view : W64
  idDie : Nat
  deriving DecidableEq, Repr

/-- What the C stream waits for when an instruction that has started completes only later: an answer
of a translation unit, a home, the management complex or a remote peer. While it waits, C does not
issue; the result is written to register `d` (R199, R331, R395 to R399). A translation keeps its operands,
whether it is an `xlat`, the pin requests that peers have not answered (by peer and line), the tag that its pin requests
carry, and whether one was handed back; a drain of kind 1 is
a `tdrop`'s, of kind 2 a `refresh`'s; one of kind 3 is of either while it waits for the operations before it (R175). `what` tells waits for the management complex apart: 0 a `ctxsave`, 1 a
`pgclass`, and 2 more than a unit's number a `stest`. -/
inductive CWait where
  | none
  | request
  | translation (d : Nat) (k : Nat) (index : Nat) (vb len : W64) (want : BitVec 4) (fresh : Bool)
      (left : List (Nat × Nat)) (tag : Nat) (failed : Bool)
  | drain (d : Nat) (k : Nat) (index : Nat) (kind : Nat)
  | bundle (d : Nat) (cls : Nat) (name : Nat) (form : Nat)
  | management (d : Nat) (what : Nat)
  deriving DecidableEq, Repr, Inhabited

/-- A stall in which C froze when a trap was delivered (R373): where C stands, what it waits for, the number of the request
that it waits at, and that C may still return to it. -/
structure Frozen where
  sc : StreamState
  wait : CWait
  num : Nat
  here : Bool
  deriving DecidableEq, Repr, Inhabited

/-- A pending trap of one stream (R379): its cause word and the values of sys.epc and sys.opc. -/
structure PendingTrap where
  cause : W64
  epc : W64
  opc : W64
  deriving DecidableEq, Repr, Inhabited

/-- The continuation registers of R393, apart from the binding table. -/
structure ContRegs where
  fpstat : W64
  ldstat : W64
  tvec : W64
  bview : W64
  ssave : W64
  tmpa : W64
  tmpb : W64
  cause : W64
  epc : W64
  opc : W64
  cpc : W64
  apc : W64
  xpc : W64
  aretry : W64
  th : Bool
  res : Bool
  deriving DecidableEq, Repr, Inhabited

/-- The states of a Sideboard job (R284). -/
inductive JobState where
  | free
  | pending
  | ready
  | running
  | parked
  | done
  deriving DecidableEq, Repr, Inhabited

/-- A Sideboard slot (R259, R284, R387). `card` is the 128-byte card; `poster` numbers the continuation whose
counters count the job, plus one, and is 0 once the job is detached (R279); `preds` are the slots it waits
for and `order` its age (R280, R281); `bound` and `view` are its copies of R324 and R326; `die` and `launch`
name the launch whose share limit and groups it uses; `cursor` is the next block of an MPRD, or the bytes of
its nest that a copy-engine job has issued; `waiting`, `since` and `expired` are a wait for a power share
(R113), `share` that it holds one; `vbase` and `frames` are where a REDUCE that runs contributes (R253);
`key` is what a CRYPT read at its dispatch (R411), `tagBad` that a part of its tag has not matched (R274). -/
structure Job where
  state : JobState
  card : BitVec 1024
  sigTok : W64
  sigOff : W64
  cls : Nat
  ctx : Nat
  die : Nat
  launch : Nat
  poster : Nat
  preds : BitVec 32
  order : Nat
  bound : Option Nat
  view : W64
  cursor : Nat
  checksum0 : BitVec 128
  checksum1 : BitVec 128
  err : Bool
  cause : CauseCode
  waiting : Bool
  since : Nat
  expired : Bool
  share : Bool
  vbase : Nat
  frames : List Frame
  key : BitVec 256
  tagBad : Bool
  deriving DecidableEq, Repr, Inhabited

/-- A plane of the array (R242, R243, R264): the bytes of its weight image as a number, little-endian, its
format, the WBUF start it was loaded from, and the 8-byte words of the image that are poisoned. -/
structure Plane where
  image : Nat
  fmt : Nat
  src : Nat
  bad : List Nat
  deriving DecidableEq, Repr, Inhabited

/-- The matrix engine of a core (R241 to R245, R269, R285): its planes, whether the shadow plane is ready, the
MPRD that runs and the WLD that loads, the passes of the running MPRD that have been loaded and done, counted
over the whole nest, and that a restore could not load the shadow plane again. -/
structure Matrix where
  active : Plane
  shadow : Plane
  shadowReady : Bool
  running : Option Nat
  loading : Option Nat
  loaded : Nat
  pass : Nat
  refused : Bool
  deriving DecidableEq, Repr, Inhabited

/-- The line that the copy engine has issued and not completed (R249, R250): its job, its position in the
job's nest and its length, the Cabinet index and parts of its memory side, the remote lines it has received
and those it awaits, that its writes have been sent, its bytes, and the positions of poisoned ones. -/
structure Piece where
  job : Nat
  pos : Nat
  len : Nat
  buf : Nat
  tokIndex : Nat
  segs : List Seg
  got : List GotLine
  await : List (Nat × Nat)
  sent : Bool
  bytes : List Byte
  bad : List Nat
  deriving DecidableEq, Repr, Inhabited

/-- The states of a line in the CACHE banks (R186, R309). -/
inductive LineState where
  | m
  | o
  | e
  | s
  deriving DecidableEq, Repr, Inhabited

/-- A 128-byte line held in the CACHE banks; `dirty` marks the bytes that the core has stored. -/
structure CLine where
  state : LineState
  data : BitVec 1024
  dirty : BitVec 128
  cls : Nat
  poison : BitVec 4
  deriving DecidableEq, Repr, Inhabited

/-- The states of a Cabinet entry (R165). -/
inductive CabState where
  | free
  | busy
  | live
  | draining
  | stale
  | retired
  deriving DecidableEq, Repr, Inhabited

/-- What an entry does when its drain completes (R165, R166, R173, R175). -/
inductive DrainKind where
  | revoke
  | drop
  | refresh
  deriving DecidableEq, Repr, Inhabited

/-- A signal word that an event updates when it completes: token, offset, class and context. -/
structure SigRef where
  ctx : Nat
  tok : W64
  off : W64
  cls : Nat
  deriving DecidableEq, Repr, Inhabited

/-- An operation that waits for the one under way on an entry (R175): a revocation with its signal word, or a `tdrop` or a
`refresh` of a core with its status register, its K register and its token. -/
inductive LaterOp where
  | revoke (sig : SigRef)
  | tdrop (core d k : Nat) (tok : W64)
  | refresh (core d k : Nat) (tok : W64)
  deriving DecidableEq, Repr, Inhabited

/-- A Cabinet entry (R163). `flist` and `nchunk` name its top frame list, `frames` is what the list holds, `units` the pool units it holds, `drain` what
a drain under way ends in, `retire` that the generation could not rise (R166), `waiters` the signal
words that revocations add 1 to, `inflight` its in-flight counts (R172), `later` the operations that wait for
the one under way to end, in arrival order (R175). -/
structure CabEntry where
  vbase : W64
  length : W64
  state : CabState
  gen : Nat
  rights : BitVec 4
  holes : Bool
  flist : W64
  nchunk : Nat
  frames : List Frame
  units : Nat
  drain : DrainKind
  retire : Bool
  waiters : List SigRef
  inflight : Nat
  later : List LaterOp
  deriving DecidableEq, Repr, Inhabited

/-- What runs on a core (R100, R107, R385, R394), or that the core is retired (R407). -/
inductive CoreMode where
  | idle
  | running
  | saved
  | halted
  | retired
  deriving DecidableEq, Repr, Inhabited

/-- Where a save area lies: the virtual address of its first byte and the pages that hold it; an area that
firmware names by its physical address lies in one page that maps every address to itself. -/
structure AreaAt where
  va : Nat
  frames : List Frame
  deriving DecidableEq, Repr, Inhabited

/-- A pre-emption under way (R385): the context and Cabinet index whose in-flight count a `ctxsave` holds, where
the area lies, the form, the sys.cause word of an escalation, and the core and register that receive the status
of a `ctxsave`. -/
structure SaveCmd where
  owner : Option (Nat × Nat)
  area : AreaAt
  drop : Bool
  cause : Option W64
  reply : Option (Nat × Nat)
  serial : Option Nat
  deriving DecidableEq, Repr, Inhabited

/-- One core (R11). `rec` names the record of its continuation (die and slot); `resident` is the context
whose local memory it holds (R434); the binding table maps a class to a bundle (R324); `localMem` holds
the banks byte by byte, bank * 98,304 + byte. `phases` and `bars` are its phase counters and barrier
counts (R110, R349), `heardPhases` and `heardBars` the values it has received from other cores, and
`arrived` the count of a `gbar` that has arrived and waits, `outer` that of one that a trap has interrupted. `frozen` holds
the stalls in which C has frozen, `inside` one of them while its answer acts, with the stream and the wait of the handler
(R373). `tcache` holds copies of Cabinet entries, by context and
index, most recent first (R171). `saving` is a pre-emption under way (R385): its
streams are frozen. `stopping` asks its engines to park for a rollback (R406), `testing` is the kind of its unit that is
under test (R407): 0 the core, 1 its matrix engine, 2 a bank. -/
structure Core where
  mode : CoreMode
  recDie : Nat
  recSlot : Nat
  ctx : Nat
  launchDie : Nat
  launch : Nat
  group : Nat
  x : SMap W64
  a : SMap W64
  e : SMap W64
  k : SMap W64
  v : SMap Vec
  m : SMap W64
  ck : SMap (BitVec 128)
  sc : StreamState
  sa : StreamState
  sx : StreamState
  lq : SMap (List LqEntry)
  sq : SMap (List SqEntry)
  reqs : List Req
  cwait : CWait
  inflight : List InFlight
  cont : ContRegs
  pendC : Option PendingTrap
  pendA : Option PendingTrap
  pendX : Option PendingTrap
  binds : SMap Nat
  aview : W64
  bankrole0 : W64
  bankrole1 : W64
  localMem : List Host.Cell
  localPoison : List Nat
  regPoison : List Nat
  resident : Option Nat
  lines : SMap CLine
  tcache : List ((Nat × Nat) × CabEntry)
  abufTags : SMap Nat
  jobs : SMap Job
  jobOrder : Nat
  matrix : Matrix
  piece : Option Piece
  unresolved : Option Req
  saving : Option SaveCmd
  stopping : Bool
  testing : Option Nat
  phases : List (GroupKey × BitVec 32)
  bars : List (GroupKey × BitVec 32)
  heardPhases : List ((GroupKey × Nat) × BitVec 32)
  heardBars : List ((GroupKey × Nat) × BitVec 32)
  arrived : Option (GroupKey × BitVec 32)
  outer : Option (GroupKey × BitVec 32)
  frozen : List Frozen
  inside : Option (Frozen × StreamState × CWait)
  deriving DecidableEq, Repr

/-! ### Contexts, launches and dies -/

/-- A group of a launch (R108): its members, bit c for core c, and its lead allowance. -/
structure Group where
  members : BitVec 128
  lead : Nat
  deriving DecidableEq, Repr, Inhabited

/-- Residual code of one specialisation: its lines from index 0, the origin PC of each slot, and
the map from origin chain heads to residual PCs (R89 to R96).
Log 29: DEDUCED, unsafe. -/
structure Residual where
  lines : List (BitVec 512)
  origin : SMap Nat
  heads : SMap Nat
  mats : List Nat
  pads : List Nat
  deriving DecidableEq, Repr, Inhabited

/-- A live launch of a die (R78). -/
structure Launch where
  ctx : Nat
  image : W64
  snapshot : List Byte
  len : Nat
  groups : SMap Group
  shares : Nat
  sig : SigRef
  live : Nat
  residual : Option Residual
  benchKey : Option (BitVec 256 × Nat)
  variant : Nat
  ended : Bool
  deriving DecidableEq, Repr, Inhabited

/-- The states of a continuation record (R100). -/
inductive RecState where
  | free
  | ready
  | running
  | waiting
  | blocked
  | saved
  deriving DecidableEq, Repr, Inhabited

/-- What a WAITING or BLOCKED record, or a sleeping feed, waits for (R104, R158, R347, R278). -/
inductive Waiting where
  | none
  | signal (ctx : Nat) (tokIndex : Nat) (home : Nat) (addr : Nat) (thr : W64) (op : Nat) (d : Nat) (pc : W64)
  | remq (core : Nat) (job : Job) (pc : W64)
  deriving DecidableEq, Repr, Inhabited

/-- A record of a die's pool (R97, R99). `t0` is when it became ready (R105); `serial` and `area` are
the save counter value and the save area of a SAVED record (R389), `keep` the core that still holds its local
memory (R385); `heldJobs`, `heldReqs` and `heldC` what the device keeps of its jobs and requests beside the
area: their signal words, their age, operands that the layout of R387 has no place for; `heldBinds` names the bundles
that it is bound to, `heldMasks` the exact write masks of its results in flight, `heldArrived` the count of a
`gbar` of its that has arrived and `heldOuter` that of one that a trap has interrupted, `heldAcked` the cards of its DONE jobs whose updates have been acknowledged since (R368). `uid` tells a continuation from any
other that its slot has held. -/
structure Rec where
  state : RecState
  ctx : Nat
  launchDie : Nat
  launch : Nat
  group : Nat
  prio : Nat
  pc : W64
  frameKind : Nat
  frameOff : Nat
  ftok : W64
  args : List W64
  t0 : Nat
  wait : Waiting
  homeDie : Nat
  serial : Nat
  area : AreaAt
  keep : Option Nat
  uid : Nat
  heldJobs : SMap Job
  heldReqs : List Req
  heldC : Option Req
  heldBinds : List Nat
  heldMasks : List Vec
  heldArrived : Option (GroupKey × BitVec 32)
  heldOuter : Option (GroupKey × BitVec 32)
  heldAcked : List (BitVec 1024)
  deriving DecidableEq, Repr, Inhabited

/-- A context: its descriptor (R410) and what the part keeps for it; `recSnap` and `launchSnap` are its
records and launches at the start of its checkpoint interval (R404, R406). -/
structure Ctx where
  live : Bool
  sup : Bool
  prot : Bool
  log : Bool
  tdi : Nat
  cabinetAt : Nat
  poolQuota : Nat
  poolUsed : Nat
  frameUnits : Nat
  frameUsed : Nat
  cacheDomain : Nat
  bundleDomain : Nat
  keysAt : Nat
  escal : Nat
  preq : Nat
  ptbase : W64
  callow0 : W64
  callow1 : W64
  vsel : W64
  ckpt : Nat
  cabinet : SMap CabEntry
  keys : SMap (BitVec 256)
  sealKey : BitVec 256
  saveCount : Nat
  overflow : Bool
  recSnap : List ((Nat × Nat) × Rec)
  launchSnap : List ((Nat × Nat) × Launch)
  deriving DecidableEq, Repr

/-- An entry of the last-level TLB (R162). -/
structure TlbEntry where
  ctx : Nat
  frame : Frame
  perm : BitVec 4
  present : Bool
  tier : Nat
  deriving DecidableEq, Repr, Inhabited

/-- An entry of the specialisation cache (R86 to R88). -/
structure BenchEntry where
  hash : BitVec 256
  domain : Nat
  code : Residual
  size : Nat
  pins : Nat
  used : Nat
  deriving DecidableEq, Repr, Inhabited

/-- A slot of the compression tables (R254, R255): whether it learns or was loaded, whether its code lengths
are fixed, its two generations, and how often each byte value has passed through it while it learns.
Log 66: DESIGN CHOICE, unsafe. -/
structure TableSlot where
  learned : Bool
  frozen : Bool
  gen : Nat
  lens : List Nat
  prevGen : Nat
  prevLens : List Nat
  counts : SMap Nat
  deriving DecidableEq, Repr, Inhabited

/-- A companion extent of a bundle (R320): the joining peer and context, with its token, offset and length
in lines. -/
structure Companion where
  peer : Nat
  ctx : Nat
  tok : W64
  off : Nat
  lines : Nat
  deriving DecidableEq, Repr, Inhabited

/-- A Wardrobe record: an open, sealing or decided bundle (R320, R321); a FREE record is not listed.
`joiners` names the continuations that have joined, by peer and number; `sealer` the peer and core whose
`bseal` waits for the commit. `acks` counts the chips that have yet to confirm the abort or the end of the bundle,
`ending` that its end has been announced, and `answers` are the forms that are answered once an abort is known
everywhere: peer, core and result. -/
structure Wardrobe where
  state : Nat
  domain : Nat
  parties : Nat
  joined : Nat
  sealedN : Nat
  released : Nat
  conflict : Bool
  stamp : Nat
  companions : List Companion
  joiners : List (Nat × Nat)
  sealer : Option (Nat × Nat)
  acks : Nat
  ending : Bool
  answers : List (Nat × Nat × W64)
  deriving DecidableEq, Repr, Inhabited

/-- The versions of a line of a bundle page with their tags (R316, R317): the stamp and the bundle name of each
committed version, and the name of the pending one, with the bytes that it has stored; and the poison marks of each (R402). -/
structure BLine where
  newerStamp : Nat
  newerName : Nat
  newer : BitVec 1024
  olderStamp : Nat
  olderName : Nat
  older : BitVec 1024
  hasOlder : Bool
  pending : Option (Nat × BitVec 1024 × BitVec 128 × BitVec 4)
  newerPois : BitVec 4
  olderPois : BitVec 4
  deriving DecidableEq, Repr, Inhabited

/-- A reduction record of a home (R251). -/
structure RedRecord where
  n : Nat
  next : Nat
  held : List Contribution
  deriving DecidableEq, Repr, Inhabited

/-- Where a launch or feed-append record stands: an entry of a mapped queue, or a packet of a scheduler (R72, R83).
-/
inductive LaunchSrc where
  | entry (q : QAddr)
  | packet (p : Packet)
  deriving DecidableEq, Repr, Inhabited

/-- A launch whose checks have passed and that waits for its residual code or for record slots (R76, R88, R99):
where its record stands, its context, policy, variant and shares, the image token and the lines read from it, its
uniform snapshot and key mask, its groups, its initial records, its signal word, its cache key, and the residual
code, its cache entry and the status word once they are decided. -/
structure PendingLaunch where
  src : LaunchSrc
  ctx : Nat
  policy : Nat
  variant : Nat
  shares : Nat
  image : W64
  lines : List (BitVec 512)
  snapshot : List Byte
  mask : List Byte
  groups : SMap Group
  recs : List Rec
  sig : SigRef
  key : BitVec 256
  residual : Option Residual
  entry : Option (BitVec 256 × Nat)
  status : Nat
  deriving DecidableEq, Repr, Inhabited

/-- A Bench run (R88): its cache key and domain, the launches that wait for it, the first one's own, and the reason
for which it declined once it has ended. -/
structure BenchRun where
  key : BitVec 256
  domain : Nat
  members : List PendingLaunch
  ended : Bool
  reason : Nat
  deriving DecidableEq, Repr, Inhabited

/-- A record that a launch front end has begun: the lines of other chips that have arrived for it and those that it awaits,
and for a feed append the queue header at which its turn has come or will come, and that its entries are written (R80).
-/
structure FrontRead where
  src : LaunchSrc
  ctx : Nat
  got : List GotLine
  await : List (Nat × Nat)
  queue : Option Nat
  written : Bool
  deriving DecidableEq, Repr, Inhabited

/-- One die: its record pool, Shelves, share pool, TLB, specialisation cache and compression
tables (R12). `waitingLaunches` have only to wait for record slots, `reads` are records whose lines of other chips
are on their way, `forwards` the appends that another chip performs, by peer * 65,536 + ID, and `schedulers` the peers that may
launch (R83). -/
structure Die where
  recs : SMap Rec
  nextUid : Nat
  launches : SMap Launch
  nextLaunch : Nat
  shareSize : Nat
  shareTarget : Nat
  shareUsed : Nat
  tlb : List TlbEntry
  bench : List BenchEntry
  benchUsed : Nat
  tables : SMap TableSlot
  runs : List BenchRun
  waitingLaunches : List PendingLaunch
  reads : List FrontRead
  forwards : List (Nat × LaunchSrc)
  schedulers : List Nat
  inService : Bool
  deriving DecidableEq, Repr

/-! ### Fabric -/

/-- The states of a wavelength (R351). -/
inductive WaveState where
  | active
  | leaving
  | retrain
  | ready
  | retired
  deriving DecidableEq, Repr, Inhabited

/-- A wavelength of a link: its state, whether it is due to change at the next boundary, its failed
training attempts and its error count (R351, R353). -/
structure Wave where
  state : WaveState
  due : Bool
  attempts : Nat
  errors : Nat
  deriving DecidableEq, Repr, Inhabited

/-- What a control flit carries (R352, R361, R362): the slot returns, each a source chip, the receiving chip, a
receive-queue class and a count; the link credits, each a class and a count; the cumulative acknowledgement; and the
number from which replay is asked for, if it is, with whether that counts as a failed replay (R353).
Log 52: DESIGN CHOICE, unsafe. -/
structure SlotReturn where
  slots : List (Nat × Nat × Nat × Nat)
  credits : List (Nat × Nat)
  ack : Nat
  nak : Option (Nat × Bool)
  deriving DecidableEq, Repr, Inhabited

/-- What the port puts on a link: a data flit with the words of its packet that R357 and R358 give no place, or a
control flit.
Log 52: DESIGN CHOICE, unsafe. -/
inductive FlitOut where
  | data (bits : BitVec 512) (side : List W64)
  | control (bits : BitVec 512)
  deriving DecidableEq, Repr, Inhabited

/-- A link of a die's fabric port (R351 to R356, R362): the peer that its transmit fibre reaches and the one whose fibre it
receives, which may differ (R351); its wavelengths, those of the
receive direction as 0 to 7 and those of the transmit direction as 8 to 15; the next sequence number to send and the
next one expected; the unacknowledged flits, the acknowledged flits of the packet that they begin inside, and how often the
first unacknowledged one has been replayed in succession; how far
ahead the last flit was that arrived since replay has been asked for; the flits sent, those known returned and those returned to the far end, by receive-queue
class; the payload of a packet that has not arrived whole; and the drain markers received. -/
structure Link where
  up : Bool
  far : Nat
  back : Nat
  waves : SMap Wave
  sendSeq : Nat
  recvSeq : Nat
  replay : List (Nat × BitVec 512 × List W64)
  begun : List (Nat × BitVec 512 × List W64)
  replays : Nat
  asked : Option Nat
  credSent : SMap Nat
  credBack : SMap Nat
  credGiven : SMap Nat
  rx : List Byte
  markers : List Nat
  deriving DecidableEq, Repr, Inhabited

/-- The states of a fabric reconfiguration (R367). -/
inductive ReconfState where
  | run
  | hold
  | drain
  | dark
  | relock
  | routes
  deriving DecidableEq, Repr, Inhabited

/-- A reply that a home keeps for a numbered request (R341, R372). -/
structure CachedReply where
  peer : Nat
  die : Nat
  id : Nat
  reply : Packet
  deriving DecidableEq, Repr, Inhabited

/-- A numbered request that waits for its reply (R340 to R343). `tag` says whose it is: empty for a stream's,
1, core and slot for a job's signal, 2, context and index for a launch's or firmware's. -/
structure Outstanding where
  packet : Packet
  tries : Nat
  tag : List Nat
  deriving DecidableEq, Repr, Inhabited

/-- The module's side of the optical fabric (R340 to R372). `links` are numbered die * 128 + link. For a pair of a
peer and a receive-queue class, numbered peer * 8 + class: `sent` and `freed` count the packets that this chip has sent
and those it knows returned, `taken` and `emptied` those it has received and emptied (R361). `accepted` is the newest
accepted ID of each source peer and die, numbered peer * 4 + die. `out` holds the packets that wait for slots, credits
or a link, `tx` what the port has put on its links, by link and by the link whose name it bears, `held` signal updates held
at this chip, `undelivered` packets that have been handed back and are sent again after a reconfiguration, `writing` the
lines, by core and key, whose stored bytes are on their way to a remote home without a request that awaits them, `marking`
the drain markers still to be sent, by link and class. `members` and `manager` are those of its group. `timedOut` says
that RELOCK has ended by its time limit. -/
structure Fabric where
  peerid : W64
  links : SMap Link
  routes : SMap W64
  staged : SMap W64
  sent : SMap Nat
  freed : SMap Nat
  taken : SMap Nat
  emptied : SMap Nat
  allowance : Nat
  accepted : SMap Nat
  nextId : SMap Nat
  outstanding : List Outstanding
  replies : List CachedReply
  mgmtAccepted : SMap Nat
  mgmtReplies : List CachedReply
  mgmtNextId : SMap Nat
  mgmtOut : List Outstanding
  out : List Packet
  tx : List (Nat × Nat × FlitOut)
  held : List Outstanding
  undelivered : List Packet
  writing : List (Nat × Nat)
  marking : List (Nat × Nat)
  errLimit : Nat
  budget : Nat
  reconf : ReconfState
  timedOut : Bool
  plan : Option RoutesPlan
  reconfCmd : Option Cmd
  dropped : Nat
  members : List Nat
  manager : Nat
  deriving DecidableEq, Repr

/-! ### Homes -/

/-- A parked waiter of a home (R347): who waits, on which word, for which condition; of a word of a B page, the view of
its chip (R326). -/
structure Waiter where
  addr : Nat
  recDie : Nat
  recSlot : Nat
  peer : Nat
  thr : W64
  op : Nat
  view : Option W64
  deriving DecidableEq, Repr, Inhabited

/-- An entry of the undo log (R404). -/
structure UndoEntry where
  ctx : Nat
  line : Nat
  interval : Nat
  old : BitVec 1024
  pois : BitVec 4
  deriving DecidableEq, Repr, Inhabited

/-- A page that supervisor software moves to a peer (R371): its base and size here, the peer and the base there, the
next line to copy, and that this line's copy awaits its answer. -/
structure Migration where
  base : Nat
  size : Nat
  peer : Nat
  dest : Nat
  cursor : Nat
  copying : Bool
  deriving DecidableEq, Repr, Inhabited

/-- What the module's home agents keep beside memory. `blocks` are the writes of blocks of Z pages that have not all arrived
(R258). `pageClass` lists (base, size, class) of the pages whose
class `pgclass` has set, latest first; `heard` lists stamps above `complete` whose notice has
arrived, `notices` is the Hutch, newest first (R323); `watchers` are the signal words here that are bound to queues of
other chips, by peer, address and queue (R415); `fates` is what the chip has read of the records of other chips, by
bundle name: a code and a stamp; `moved` (base, size, peer) of the pages that have migrated; `tiers`
(frame, size, tier) of the pages that a home has moved between its memories (R178). `corrections` are the correction counts
of units, by kind * 4,096 + index, and `corrTimes` when those of the last second were made (R401, R407). -/
structure Homes where
  pins : SMap Nat
  bLines : SMap BLine
  blocks : List Packet
  waiters : List Waiter
  feedSleepers : List (Nat × Nat)
  reductions : List ((Nat × Nat × Nat) × RedRecord)
  undo : List UndoEntry
  undoCap : Nat
  pageClass : List (Nat × Nat × Nat)
  moved : List (Nat × Nat × Nat)
  moving : List Migration
  tiers : List (Nat × Nat × Nat)
  migCount : SMap Nat
  migThreshold : Nat
  wardrobe : SMap Wardrobe
  sequencer : Option Nat
  nextStamp : Nat
  stamps : List Nat
  asked : Bool
  complete : Nat
  heard : List Nat
  notices : List (Nat × Nat)
  watchers : List (Nat × Nat × Nat)
  fates : SMap (Nat × Nat)
  corrections : SMap Nat
  corrTimes : SMap (List Nat)
  deriving DecidableEq, Repr

/-! ### Management complex -/

/-- The states of a TDI (R409). -/
inductive TdiState where
  | configUnlocked
  | configLocked
  | run
  | error
  deriving DecidableEq, Repr, Inhabited

/-- The states of a mapped queue (R416). -/
inductive QueueState where
  | unmapped
  | mapped
  | parked
  deriving DecidableEq, Repr, Inhabited

/-- A mapped queue (R414 to R416): its state and pending bit, that its thread is awake, its kind (0 management, 1 launch), the die of a launch
queue, its context, its ring and the number n of its entries as a power of two, head, whether its thread serves an
entry, where the signal word lies that is bound to it (its physical address, plus (peer + 1) * 2^40 when its home is another
chip), and the head and tail that a park has saved. -/
structure Queue where
  state : QueueState
  pending : Bool
  awake : Bool
  kind : Nat
  die : Nat
  ctx : Nat
  base : QAddr
  n : Nat
  head : Nat
  busy : Bool
  bound : Option Nat
  saved : Option (Nat × Nat)
  deriving DecidableEq, Repr, Inhabited

/-- A report or an event that firmware posts for the host or the supervisor.
Log 70: DESIGN CHOICE, safe. -/
structure Notice where
  kind : Nat
  a : Nat
  b : W64
  deriving DecidableEq, Repr, Inhabited

/-- The management complex (R18, R408 to R420). `journal` is the boot journal, oldest entry first, `degraded` the steps
that start-up has skipped, `linkFallback` the fallback of step 4 and `noSpares` that of step 5; `regBase`, `regCount` and
`regReset` are the device registers of queue 0 and of reset; `noticeWords` the reconfiguration notice words (R430), by
slot; `lmsIndex` the next one-time key (R419); `sparesUsed` counts the spares in use, by unit; `coreMap` gives the physical
core of a core number (R10) and `rowMap` the physical row of a logical row of an array, by core * 256 + row (R241), where it
is not its own number; `lastTest` is the last
self-test outcome of each die. `tdiStreams` is the IDE stream of each TDI and `sessions` the TDIs that have an SPDM session (R409, R411); `excluded` are the
memory devices that start-up has left out, `previousImage` that it has taken the previous firmware image, and `booting` the
steps that it has begun and not ended (R408). -/
structure Management where
  journal : List (W64 × W64)
  degraded : List Nat
  linkFallback : Nat
  noSpares : Bool
  tdis : SMap TdiState
  tdiDropped : SMap Nat
  queues : SMap Queue
  heartbeatAt : Option QAddr
  lmsIndex : Nat
  regBase : W64
  regCount : W64
  regReset : W64
  noticeWords : SMap SigRef
  posted : List Notice
  sparesUsed : SMap Nat
  coreMap : SMap Nat
  rowMap : SMap Nat
  lastTest : SMap Nat
  tdiStreams : SMap Nat
  sessions : List Nat
  excluded : List Nat
  previousImage : Bool
  booting : List Nat
  deriving DecidableEq, Repr

/-! ### The module -/

/-- The module. `events` are the events that are due, first to happen first; `turn` is the order in
which running streams issue; `core` and `str` name the stream that issues; `fresh` counts the free
values that have been drawn. `mem` holds physical memory byte by byte, `hostMem` the host's memory,
`poison` the 32-byte grains that hold an uncorrectable error (R402).
Log 2: DESIGN CHOICE, unsafe. 4: DESIGN CHOICE, unsafe. -/
structure State where
  time : Nat
  evTurn : Bool
  events : List Event
  turn : List (Nat × Stream)
  core : Nat
  str : Stream
  fresh : Nat
  mem : List Host.Cell
  hostMem : List Host.Cell
  poison : List Nat
  cores : SMap Core
  dies : SMap Die
  ctxs : SMap Ctx
  homes : Homes
  fab : Fabric
  mgmt : Management
  deriving DecidableEq, Repr

/-! ### Reset -/

/-- A stream that has never been started. -/
def StreamState.reset : StreamState := ⟨false, false, false, 0, 0, none, false, 0, 0, none⟩

/-- The continuation registers at pickup (R393): all zero. -/
def ContRegs.reset : ContRegs := ⟨0, 0, 0, 0, 0, 0, 0, 0, 0, 0, 0, 0, 0, 0, false, false⟩

/-- A plane that holds nothing. -/
def Plane.reset : Plane := ⟨0, 0, 0, []⟩

/-- An idle core whose local memory is resident for no context.
Log 5: DESIGN CHOICE, unsafe. -/
def Core.reset : Core where
  mode := .idle
  recDie := 0
  recSlot := 0
  ctx := 0
  launchDie := 0
  launch := 0
  group := 0
  x := []
  a := []
  e := []
  k := []
  v := []
  m := []
  ck := []
  sc := .reset
  sa := .reset
  sx := .reset
  lq := []
  sq := []
  reqs := []
  cwait := .none
  inflight := []
  cont := .reset
  pendC := none
  pendA := none
  pendX := none
  binds := []
  aview := 0
  bankrole0 := 0
  bankrole1 := 0
  localMem := []
  localPoison := []
  regPoison := []
  resident := none
  lines := []
  tcache := []
  abufTags := []
  jobs := []
  jobOrder := 0
  matrix := ⟨.reset, .reset, false, none, none, 0, 0, false⟩
  piece := none
  unresolved := none
  saving := none
  stopping := false
  testing := none
  phases := []
  bars := []
  heardPhases := []
  heardBars := []
  arrived := none
  outer := none
  frozen := []
  inside := none

/-- A context that has not been created.
Log 6: DESIGN CHOICE, unsafe. -/
def Ctx.reset : Ctx where
  live := false
  sup := false
  prot := false
  log := false
  tdi := 0x3FF
  cabinetAt := 0
  poolQuota := 0
  poolUsed := 0
  frameUnits := 0
  frameUsed := 0
  cacheDomain := 0
  bundleDomain := 0
  keysAt := 0
  escal := 0
  preq := 0
  ptbase := 0
  callow0 := 0
  callow1 := 0
  vsel := 0
  ckpt := 0
  cabinet := []
  keys := []
  sealKey := 0
  saveCount := 0
  overflow := false
  recSnap := []
  launchSnap := []

/-- A context number before its context is created (R87): its cache domain is the context ID. -/
def Ctx.fresh (c : Nat) : Ctx := { Ctx.reset with cacheDomain := c }

/-- A die after reset.
Log 6: DESIGN CHOICE, unsafe. 8: DESIGN CHOICE, unsafe. -/
def Die.reset : Die where
  recs := []
  nextUid := 0
  launches := []
  nextLaunch := 1
  shareSize := 0
  shareTarget := 0
  shareUsed := 0
  tlb := []
  bench := []
  benchUsed := 0
  tables := []
  runs := []
  waitingLaunches := []
  reads := []
  forwards := []
  schedulers := []
  inService := true

/-- The module right after reset: no context, no continuation, memory with nothing listed.
Log 6: DESIGN CHOICE, unsafe. 8: DESIGN CHOICE, unsafe. -/
def State.reset : State where
  time := 0
  evTurn := true
  events := []
  turn := []
  core := 0
  str := .c
  fresh := 0
  mem := []
  hostMem := []
  poison := []
  cores := []
  dies := []
  ctxs := []
  homes :=
    { pins := [], bLines := [], blocks := [], waiters := [], feedSleepers := [], reductions := [], undo := [], undoCap := 65536,
      pageClass := [], moved := [], moving := [], tiers := [], migCount := [], migThreshold := 0,
      wardrobe := [], sequencer := none, nextStamp := 1, stamps := [], asked := false, complete := 0, heard := [], notices := [], watchers := [], fates := [],
      corrections := [], corrTimes := [] }
  fab :=
    { peerid := 0, links := [], routes := [], staged := [], sent := [], freed := [], taken := [], emptied := [],
      allowance := 0, accepted := [], nextId := [], outstanding := [], replies := [], mgmtAccepted := [],
      mgmtReplies := [], mgmtNextId := [], mgmtOut := [], out := [], tx := [], held := [], undelivered := [], writing := [], marking := [], errLimit := 64, budget := 8,
      reconf := .run, timedOut := false, plan := none, reconfCmd := none, dropped := 0, members := [], manager := 0 }
  mgmt :=
    { journal := [], degraded := [], linkFallback := 0, noSpares := false, tdis := [], tdiDropped := [], queues := [],
      heartbeatAt := none, lmsIndex := 0, regBase := 0, regCount := 0, regReset := 0, noticeWords := [], posted := [],
      sparesUsed := [], coreMap := [], rowMap := [], lastTest := [], tdiStreams := [], sessions := [],
      excluded := [], previousImage := false, booting := [] }

/-! ### Why a step stops -/

/-- The reasons a step ends in a fault. Each is safe: the model stops where the spec says that
nothing exists or gives no behaviour.
Log 69: DEDUCED, safe. -/
inductive Fault where
  /-- Raised by an access of memory at a physical address that R13 gives no contents (a reserved
  range, or device register space that the model gives no register). Safe. -/
  | unmappedPhysical (addr : Nat)
  deriving DecidableEq, Repr

/-- The reasons a step is refused. -/
inductive Refusal where
  /-- Raised by an arm of `exec` whose instruction has no meaning yet. Safe. -/
  | notModelled (mnemonic : String)
  deriving DecidableEq, Repr

end Sys2Proof.Machine
end

