-- ==== Sys2Proof/Machine/Store.lean ====
section
/-! DEFINITION. Sparse tables and byte memories: reading, writing, and their canonical form. -/

namespace Sys2Proof.Machine

/-- The value that a table holds at a key: `d` where it lists none. -/
def SMap.get {α : Type} (d : α) : SMap α → Nat → α
  | [], _ => d
  | (k', v) :: t, k => if k' = k then v else SMap.get d t k

/-- The value listed at a key. -/
def SMap.find {α : Type} : SMap α → Nat → Option α
  | [], _ => none
  | (k', v) :: t, k => if k' = k then some v else SMap.find t k

/-- Writes a value at a key, keeping ascending keys. -/
def SMap.put {α : Type} : SMap α → Nat → α → SMap α
  | [], k, v => [(k, v)]
  | (k', v') :: t, k, v =>
    if k < k' then (k, v) :: (k', v') :: t
    else if k = k' then (k, v) :: t
    else (k', v') :: SMap.put t k v

/-- Removes a key. -/
def SMap.erase {α : Type} (t : SMap α) (k : Nat) : SMap α := t.filter fun p => p.1 != k

/-- Writes a value at a key of a table whose unlisted keys hold `d`: the value `d` is not listed. -/
def SMap.set {α : Type} [DecidableEq α] (d : α) (t : SMap α) (k : Nat) (v : α) : SMap α :=
  if v = d then SMap.erase t k else SMap.put t k v

/-- The keys of a table ascend strictly. -/
def SMap.sorted {α : Type} (t : SMap α) : Bool :=
  decide (t.Pairwise fun p q => p.1 < q.1)

/-- Puts an element into a sorted list, before those that it does not follow. -/
def insertBy {α : Type} (le : α → α → Bool) (a : α) : List α → List α
  | [] => [a]
  | b :: t => if le a b then a :: b :: t else b :: insertBy le a t

/-- The list in ascending order; elements that are equal in it keep their order. -/
def sortBy {α : Type} (le : α → α → Bool) (l : List α) : List α := l.foldr (insertBy le) []

/-! Byte memories. An unlisted byte reads as zero. -/

/-- A byte memory. -/
abbrev Memory := List Host.Cell

/-- What a byte of memory that nothing has written reads as.
Log 1: DESIGN CHOICE, unsafe. -/
def Memory.unwritten : Byte := 0

/-- The canonical form of a memory: addresses strictly rising, no entry equal to what an unlisted
address reads as. -/
def Memory.wf (m : Memory) : Bool :=
  SMap.sorted m && m.all fun c => c.2 != Memory.unwritten

/-- One byte of memory. -/
def Memory.read (m : Memory) (a : Nat) : Byte := SMap.get Memory.unwritten m a

/-- Writes one byte of memory. -/
def Memory.write (m : Memory) (a : Nat) (b : Byte) : Memory := SMap.set Memory.unwritten m a b

/-- `n` bytes from address `a`, as a number, little-endian (R5). -/
def Memory.readNat (m : Memory) (a : Nat) : Nat → Nat
  | 0 => 0
  | n + 1 => (Memory.read m a).toNat + 256 * Memory.readNat m (a + 1) n

/-- Writes the low `n` bytes of a number from address `a`, little-endian (R5). -/
def Memory.writeNat (m : Memory) (a : Nat) : Nat → Nat → Memory
  | 0, _ => m
  | n + 1, v => Memory.writeNat (Memory.write m a (BitVec.ofNat 8 v)) (a + 1) n (v / 256)

/-- `n` bytes from address `a`. -/
def Memory.readBytes (m : Memory) (a n : Nat) : List Byte :=
  (List.range n).map fun i => Memory.read m (a + i)

/-- Writes a list of bytes from address `a`. -/
def Memory.writeBytes (m : Memory) (a : Nat) : List Byte → Memory
  | [] => m
  | b :: t => Memory.writeBytes (Memory.write m a b) (a + 1) t

/-- The bytes of a number, little-endian. -/
def bytesOf (n : Nat) (v : Nat) : List Byte :=
  match n with
  | 0 => []
  | n + 1 => BitVec.ofNat 8 v :: bytesOf n (v / 256)

/-- The number that bytes stand for, little-endian. -/
def natOfBytes : List Byte → Nat
  | [] => 0
  | b :: t => b.toNat + 256 * natOfBytes t

/-- `n` bytes of a list of bytes from position `i`, as a number. -/
def natAt (l : List Byte) (i n : Nat) : Nat := natOfBytes ((l.drop i).take n)

/-- Bits [hi:lo] of a number. -/
def bitsOf (v hi lo : Nat) : Nat := v / 2 ^ lo % 2 ^ (hi + 1 - lo)

/-- Bit `i` of a number. -/
def bitOf (v i : Nat) : Bool := v / 2 ^ i % 2 == 1

/-- 1 for true, 0 for false. -/
def natOfBool (b : Bool) : Nat := if b then 1 else 0

/-! Accessors of the state's tables. -/

/-- Core `n`. -/
def State.coreAt (s : State) (n : Nat) : Core := SMap.get Core.reset s.cores n
/-- Puts core `n` back. -/
def State.setCore (s : State) (n : Nat) (c : Core) : State := { s with cores := SMap.put s.cores n c }
/-- Changes core `n`. -/
def State.modCore (s : State) (n : Nat) (f : Core → Core) : State := s.setCore n (f (s.coreAt n))
/-- The core that issues. -/
def State.cur (s : State) : Core := s.coreAt s.core
/-- Changes the core that issues. -/
def State.modCur (s : State) (f : Core → Core) : State := s.modCore s.core f

/-- Die `d`. -/
def State.dieAt (s : State) (d : Nat) : Die := SMap.get Die.reset s.dies d
/-- Changes die `d`. -/
def State.modDie (s : State) (d : Nat) (f : Die → Die) : State :=
  { s with dies := SMap.put s.dies d (f (s.dieAt d)) }
/-- Context `c`. -/
def State.ctxAt (s : State) (c : Nat) : Ctx := SMap.get (Ctx.fresh c) s.ctxs c
/-- Changes context `c`. -/
def State.modCtx (s : State) (c : Nat) (f : Ctx → Ctx) : State :=
  { s with ctxs := SMap.put s.ctxs c (f (s.ctxAt c)) }

/-- The die of a core (R7). -/
def dieOf (core : Nat) : Nat := core / 32

/-- Appends events that come about because of what has just happened. -/
def State.post (s : State) (l : List Event) : State := { s with events := s.events ++ l }

/-! Fields of a core by stream. -/

/-- A stream of a core. -/
def Core.stream (c : Core) : Stream → StreamState
  | .c => c.sc
  | .a => c.sa
  | .x => c.sx
/-- Puts a stream of a core back. -/
def Core.setStream (c : Core) (st : Stream) (v : StreamState) : Core :=
  match st with
  | .c => { c with sc := v }
  | .a => { c with sa := v }
  | .x => { c with sx := v }
/-- Changes a stream of a core. -/
def Core.modStream (c : Core) (st : Stream) (f : StreamState → StreamState) : Core :=
  c.setStream st (f (c.stream st))

/-- The scalar file of a stream (R115, R116). -/
def Core.file (c : Core) : Stream → SMap W64
  | .c => c.x
  | .a => c.a
  | .x => c.e
/-- Reads a scalar register; register 0 reads as zero (R121). -/
def Core.scalar (c : Core) (st : Stream) (n : Nat) : W64 :=
  if n = 0 then 0 else SMap.get 0 (c.file st) n
/-- The key of S register `n` of a stream among poisoned registers; k, vector, mask and checksum registers have the
keys from 96, 128, 192 and 200. -/
def regKey : Stream → Nat → Nat
  | .c, n => n
  | .a, n => 32 + n
  | .x, n => 64 + n
/-- A register that is written whole loses its poison (R402). -/
def cleanReg (l : List Nat) (k : Nat) : List Nat := l.filter (· ≠ k)
/-- Writes a scalar register; a write to register 0 is discarded (R121). -/
def Core.setScalar (c : Core) (st : Stream) (n : Nat) (v : W64) : Core :=
  if n = 0 then c else
  match st with
  | .c => { c with x := SMap.set 0 c.x n v, regPoison := cleanReg c.regPoison (regKey .c n) }
  | .a => { c with a := SMap.set 0 c.a n v, regPoison := cleanReg c.regPoison (regKey .a n) }
  | .x => { c with e := SMap.set 0 c.e n v, regPoison := cleanReg c.regPoison (regKey .x n) }
/-- Reads a k register. -/
def Core.tok (c : Core) (n : Nat) : W64 := SMap.get 0 c.k n
/-- Writes a k register. -/
def Core.setTok (c : Core) (n : Nat) (v : W64) : Core := 
  { c with k := SMap.set 0 c.k n v, regPoison := cleanReg c.regPoison (96 + n) }
/-- Reads a vector register. -/
def Core.vec (c : Core) (n : Nat) : Vec := SMap.get 0 c.v n
/-- Reads a mask register; m0 reads as all ones (R121). -/
def Core.maskReg (c : Core) (n : Nat) : W64 :=
  if n = 0 then 0xFFFFFFFFFFFFFFFF else SMap.get 0 c.m n
/-- Writes a mask register; a write to m0 is discarded (R121). -/
def Core.setMask (c : Core) (n : Nat) (v : W64) : Core :=
  if n = 0 then c else { c with m := SMap.set 0 c.m n v, regPoison := cleanReg c.regPoison (192 + n) }
/-- Reads a checksum register. -/
def Core.chk (c : Core) (n : Nat) : BitVec 128 := SMap.get 0 c.ck n
/-- Writes a checksum register. -/
def Core.setChk (c : Core) (n : Nat) (v : BitVec 128) : Core := 
  { c with ck := SMap.set 0 c.ck n v, regPoison := cleanReg c.regPoison (200 + n) }
/-- A load queue, oldest slot first. -/
def Core.loadQ (c : Core) (n : Nat) : List LqEntry := SMap.get [] c.lq n
/-- A store queue, oldest entry first. -/
def Core.storeQ (c : Core) (n : Nat) : List SqEntry := SMap.get [] c.sq n
/-- A Sideboard slot, if it holds a job. -/
def Core.job (c : Core) (n : Nat) : Option Job := SMap.find c.jobs n

end Sys2Proof.Machine
end

