-- ==== Sys2Proof/Machine/Landing.lean ====
section
/-! DEFINITION. What the results of X do when they land (R219, R238, R383), and the flags that they bring to sys.fpstat
(R56, R57). -/

namespace Sys2Proof.Machine

/-- All bits of a destination. -/
def allBits : Vec := BitVec.allOnes 2048

/-- sys.fpstat with the flags of a result ORed in (R56). -/
def fpstatWith (v : W64) (fl : FpFlags) : W64 := v ||| fl.setWidth 64

/-- A flag of the result has its enable set in sys.fpstat[12:8] (R57). -/
def fpTraps (v : W64) (fl : FpFlags) : Bool := (v.extractLsb' 8 5 &&& fl) ≠ 0

/-- The value of a captured float sum. -/
def ckSumValue (sum : Int) (nan pinf ninf : Bool) : Num :=
  if nan || (pinf && ninf) then .nan
  else if pinf then .inf false
  else if ninf then .inf true
  else Num.ofUnits sum (-149) false

/-- A checksum register after a contribution lands (R238).
Log 38: DEDUCED, unsafe. -/
def ckLand (d : BitVec 128) : LandOp → BitVec 128
  | .ckIsum sum => d + sum
  | .ckFsum sum nan pinf ninf count =>
    let acc := decodeFloat 0 (d.toNat % 2 ^ 32)
    let (v, _) := Num.add 0 acc (ckSumValue sum nan pinf ninf)
    let (r, _) := roundTo 0 v 0 false false
    BitVec.ofNat 128 ((d.toNat / 2 ^ 32 + count) % 2 ^ 96 * 2 ^ 32 + r)
  | _ => d

/-- The poison key of a destination; e0 and m0 hold nothing. -/
def Dest.key : Dest → Option Nat
  | .e n => if n = 0 then none else some (regKey .x n)
  | .v n => some (128 + n)
  | .m n => if n = 0 then none else some (192 + n)
  | .ck n => some (200 + n)

/-- The value of an entry enters its register (R219, R383). -/
def Core.landValue (c : Core) (f : InFlight) : Core :=
  match f.op with
  | .check => c
  | .write =>
    match f.dest with
    | .e n => c.setScalar .x n (f.value.setWidth 64)
    | .v n =>
      { c with
        v := SMap.set 0 c.v n ((c.vec n &&& ~~~f.wmask) ||| (f.value &&& f.wmask))
        regPoison := if f.wmask = allBits then cleanReg c.regPoison (128 + n) else c.regPoison }
    | .m n => c.setMask n (f.value.setWidth 64)
    | .ck n => c.setChk n (f.value.setWidth 128)
  | op =>
    match f.dest with
    | .ck n => { c.setChk n (ckLand (c.chk n) op) with regPoison := c.regPoison }
    | _ => c

/-- One entry lands in its register (R219, R383). The poison of a result travels with it into the register (R402), though
its landing has reported it (R240).
Log 21: DEDUCED, unsafe. 37: DEDUCED, unsafe. -/
def Core.land (c : Core) (f : InFlight) : Core :=
  let d := c.landValue f
  if !f.poison || f.op = .check then d
  else match f.dest.key with
    | some k => { d with regPoison := cleanReg d.regPoison k ++ [k] }
    | none => d

/-- The results that are due land in issue order, and the flags of each are ORed into sys.fpstat (R219, R384). -/
def Core.landAll (c : Core) (due : List InFlight) : Core :=
  let c' := due.foldl (fun c f =>
    let c := c.land f
    { c with cont := { c.cont with fpstat := fpstatWith c.cont.fpstat f.flags } }) c
  { c' with inflight := c.inflight.filter fun f => f.remaining ≠ 0 }

end Sys2Proof.Machine
end

