-- ==== Sys2Proof/Machine/Ops.lean ====
section
/-! DEFINITION. The shared operations of every instruction: reading and writing registers, advancing a
stream along its chain (R30, R32, R34, R144), the guard (R116, R117), taking a trap and escalating it
(R373 to R381), returning from one (R394), and the form in which an instruction's meaning runs
(R118, R132). -/

namespace Sys2Proof.Machine

open Host (Outcome)

/-! ### Cause codes (R377) -/

/-- ILLEGAL. -/
def cIllegal : CauseCode := 0x01
/-- PRIV. -/
def cPriv : CauseCode := 0x02
/-- TOKEN_STALE. -/
def cStale : CauseCode := 0x03
/-- TOKEN_BOUNDS. -/
def cBounds : CauseCode := 0x04
/-- TOKEN_RIGHTS. -/
def cRights : CauseCode := 0x05
/-- PEER_UNREACHABLE. -/
def cPeer : CauseCode := 0x06
/-- BUFFER_RIGHTS. -/
def cBuffer : CauseCode := 0x07
/-- FP. -/
def cFp : CauseCode := 0x08
/-- CHECK. -/
def cCheck : CauseCode := 0x09
/-- POISON. -/
def cPoison : CauseCode := 0x0A
/-- CHAIN_END. -/
def cChainEnd : CauseCode := 0x0B
/-- PREEMPT. -/
def cPreempt : CauseCode := 0x0C
/-- SYSCALL. -/
def cSyscall : CauseCode := 0x0D
/-- BUNDLE. -/
def cBundle : CauseCode := 0x0E
/-- VIEW. -/
def cView : CauseCode := 0x0F
/-- RESTORE_REFUSED. -/
def cRestore : CauseCode := 0x10
/-- TAG_FAIL, of a job only. -/
def cTagFail : CauseCode := 0x20
/-- HOLE, of a job only. -/
def cHole : CauseCode := 0x21
/-- NO_SHARE, of a job only. -/
def cNoShare : CauseCode := 0x22

/-! ### How a meaning runs -/

/-- A trap: cause code, info field, kind (R376), the value of sys.epc where it is not the slot of
the instruction, and that it arises from work begun before the trap was delivered whose handler runs (R380). -/
structure Trap where
  code : CauseCode
  info : Nat := 0
  kind : Nat := 0
  epc : Option W64 := none
  before : Bool := false
  deriving DecidableEq, Repr, Inhabited

/-- How a meaning ends without completing: a trap, a stall (the stream issues the slot again), or a
fault of the model. -/
inductive Stop where
  | trap (t : Trap)
  | stall
  | fault (f : Fault)
  deriving DecidableEq, Repr

/-- A step of a meaning: it reads and changes the state, or ends. -/
abbrev Act (α : Type) := State → Except Stop (α × State)

/-- Where a stream goes after an instruction: to the next slot, to a target, nowhere yet (it issues
the slot again, or an answer will move it), or away (it has left its core, or the meaning has placed
it). -/
inductive Flow where
  | fall
  | jump (t : W64)
  | stay
  | leave
  deriving DecidableEq, Repr, Inhabited

/-- Ends in a trap of kind 0 at the instruction's slot. -/
def trap {α : Type} (code : CauseCode) (info : Nat := 0) : Act α :=
  fun _ => .error (.trap { code := code, info := info })

/-- Ends in a stall. -/
def stall {α : Type} : Act α := fun _ => .error .stall

/-! ### Moving along a chain -/

/-- The target of a transfer names a slot (R25).
Log 16: DEDUCED, safe. -/
def namesSlot (t : W64) : Bool := t.toNat % 8 = 0 && t.toNat / 8 % 8 ≠ 0

/-- The address of the line that holds a PC. -/
def lineOf (pc : W64) : W64 := BitVec.ofNat 64 (pc.toNat / 64 * 64)

/-- The signed next field of a line's link word, in bytes (R26). -/
def linkNext (line : BitVec 512) : W64 := (line.extractLsb' 0 24).signExtend 64 <<< 6

/-- FallThrough of R144 and whether the chain ends there (R32); `lit` skips the literal slot. -/
def StreamState.fall (v : StreamState) (lit : Bool) : W64 × Bool :=
  let base := if lit then v.pc + 8 else v.pc
  if base.toNat / 8 % 8 < 7 then (base + 8, false)
  else
    let n := linkNext (v.line.getD 0)
    if n = 0 then (lineOf base + 64, true) else (lineOf base + n + 8, false)

/-- The stream moves to the slot after the one it has issued. -/
def StreamState.advance (v : StreamState) (lit : Bool) : StreamState :=
  let (t, e) := v.fall lit
  if lineOf t = lineOf v.pc then { v with pc := t }
  else { v with pc := t, line := none, fell := e }

/-- The stream continues at `t`; it keeps its line when `t` lies in it (R30). -/
def StreamState.jump (v : StreamState) (t : W64) : StreamState :=
  if lineOf t = v.lineAt ∧ v.line.isSome then { v with pc := t, fell := false }
  else { v with pc := t, line := none, fell := false }

/-- One cycle of X passes: every result in flight comes one cycle nearer (R218, R221).
Log 4: DESIGN CHOICE, unsafe. -/
def tick (l : List InFlight) : List InFlight :=
  l.map fun f => { f with remaining := f.remaining - 1 }

/-- A cycle of the issuing stream has passed; only X counts cycles (R134, R218). -/
def State.tickIf (s : State) : State :=
  if s.str = .x then s.modCur fun c => { c with inflight := tick c.inflight } else s

/-- The issuing stream goes on to the next slot. -/
def State.advance (s : State) (lit : Bool) : State :=
  (s.modCur fun c => c.modStream s.str fun v => v.advance lit).tickIf

/-- The issuing stream stays at its slot for a cycle. -/
def State.stalled (s : State) : State := s.tickIf

/-! ### Traps -/

/-- The stream field of sys.cause (R376). -/
def streamCode : Stream → Nat
  | .c => 0
  | .a => 1
  | .x => 2

/-- The cause word of R376. -/
def causeWord (kind : Nat) (st : Stream) (info : Nat) (code : CauseCode) : W64 :=
  BitVec.ofNat 64 (kind * 2 ^ 62 + streamCode st * 2 ^ 60 + info % 2 ^ 16 * 2 ^ 8 + code % 2 ^ 8)

/-- Bits [39:0] of a PC, as a PC register holds it (R378). -/
def pcReg (pc : W64) : W64 := BitVec.ofNat 64 (pc.toNat % 2 ^ 40)

/-- The residual code that a core's launch runs, if any. -/
def State.residualOf (s : State) (n : Nat) : Option Residual :=
  let c := s.coreAt n
  ((SMap.find (s.dieAt c.launchDie).launches c.launch).bind fun l => l.residual)

/-- The origin PC of a PC (R96): itself, except in residual code.
Log 29: DEDUCED, unsafe. -/
def State.originPc (s : State) (n : Nat) (st : Stream) (pc : W64) : W64 :=
  if ((s.coreAt n).stream st).residual then
    match s.residualOf n with
    | some r => match SMap.find r.origin pc.toNat with
      | some o => BitVec.ofNat 64 o
      | none =>
        -- the address + 64 of a residual line
        match (if pc.toNat % 64 = 0 then SMap.find r.origin (pc.toNat - 8) else none) with
        | some o => BitVec.ofNat 64 (o + 8)
        | none => pc
    | none => pc
  else pc

/-- The word of residual code at a PC. -/
def Residual.word (r : Residual) (pc : Nat) : W64 :=
  (r.lines.getD (pc / 64) 0).extractLsb' (8 * (pc % 64)) 64

/-- A stream issues the materialisation slot of its PC: it writes an immediate or a literal to a register (R91). -/
def Core.placeOne (r : Residual) (st : Stream) (c : Core) : Core :=
  let pc := (c.stream st).pc.toNat
  let w := r.word pc
  let lit := w.extractLsb' 56 8 = 0x2E#8
  let x := if lit then r.word (pc + 8) else (w.extractLsb' 0 30).signExtend 64
  let d := (w.extractLsb' 37 7).toNat
  -- an earlier request that is still to write the register does not write over the slot's value
  let c := { c.setScalar st d x with reqs := c.reqs.map fun (q : Req) => if q.str = st then { q with rewritten := d :: q.rewritten } else q }
  c.modStream st fun v => { v with line := some (r.lines.getD (pc / 64) 0) }.advance lit

/-- A stream steps over the padding slot of its PC. -/
def Core.stepPad (r : Residual) (st : Stream) (c : Core) : Core :=
  c.modStream st fun v => { v with line := some (r.lines.getD (v.pc.toNat / 64) 0) }.advance false

/-- A stream whose next slot is a materialisation slot issues the slots of that run before it stops, with the padding
that stands before one of them (R94).
Log 29: DEDUCED, unsafe. -/
def Core.materialise (r : Residual) (st : Stream) : Nat → Core → Core
  | 0, c => c
  | fuel + 1, c =>
    let mat := fun (c : Core) => (c.stream st).residual && r.mats.contains (c.stream st).pc.toNat
    if mat c then (Core.placeOne r st c).materialise r st fuel
    else if (c.stream st).residual && r.pads.contains (c.stream st).pc.toNat && mat (Core.stepPad r st c) then
      (Core.stepPad r st c).materialise r st fuel
    else c

/-- The C and A streams of a core stop at slots where every register holds its value (R94).
Log 29: DEDUCED, unsafe. -/
def State.stopPoints (s : State) (n : Nat) : State :=
  match s.residualOf n with
  | none => s
  | some r => s.modCore n fun c => (c.materialise r .c 62).materialise r .a 62

/-- A stream's pending trap (R379). -/
def Core.pend (c : Core) : Stream → Option PendingTrap
  | .c => c.pendC
  | .a => c.pendA
  | .x => c.pendX
/-- Sets a stream's pending trap. -/
def Core.setPend (c : Core) (st : Stream) (p : Option PendingTrap) : Core :=
  match st with
  | .c => { c with pendC := p }
  | .a => { c with pendA := p }
  | .x => { c with pendX := p }

/-- Step 3 of R373: the trap registers of a trap of stream `st`; for kind 0 the trapping stream
resumes at sys.epc (R378); sys.ctx.res tells whether the trapped code was residual (R374, R425). -/
def Core.writeTrapRegs (c : Core) (st : Stream) (p : PendingTrap) : Core :=
  let issue := p.cause.toNat / 2 ^ 62 = 0
  let at_ : Stream → W64 := fun t => if issue ∧ t = st then p.epc else pcReg (c.stream t).pc
  { c with cont := { c.cont with
      cause := p.cause, epc := p.epc, opc := p.opc, cpc := at_ .c, apc := at_ .a, xpc := at_ .x
      res := if c.cont.th then c.cont.res else (c.stream st).residual } }

/-- After an escalated trap of kind 0 the trapping stream stands at sys.epc, where R378 lets it resume: behind a
`syscall`, at the target of a transfer that names no slot.
Log 51: DEDUCED, unsafe. -/
def Core.standAtEpc (c : Core) (st : Stream) (p : PendingTrap) : Core :=
  if p.cause.toNat / 2 ^ 62 ≠ 0 ∨ pcReg (c.stream st).pc = p.epc then c
  else c.modStream st fun v => v.jump p.epc

/-- C issues past all of its outstanding requests (R194), which were issued before the handler (R380). -/
def Core.pastAll (c : Core) : Core :=
  { c with reqs := c.reqs.map fun r => if r.str = .c then { r with past := true, before := true } else { r with before := true } }

/-- The number of the request that C waits at: it has not issued past it. -/
def Core.waitsAt (c : Core) : Nat := ((c.reqs.filter fun r => r.str = .c && !r.past).getLast?.map (·.num)).getD 0

/-- Step 1 of R373 for a C stream that stalls for an answer: it freezes in its stall.
Log 79: DEDUCED, unsafe. -/
def Core.freezeC (c : Core) : Core :=
  { c with
    cwait := .none
    frozen := if c.cwait = .none then c.frozen else ⟨c.sc, c.cwait, c.waitsAt, true⟩ :: c.frozen }

/-- Step 4 of R373: C begins the handler, unspecialised (R375). A `gbar` that has arrived stays behind (R349).
Log 79: DEDUCED, unsafe. -/
def Core.enterHandler (c : Core) : Core :=
  let d := c.freezeC.pastAll
  { d with
    cont := { c.cont with th := true }
    outer := if c.cont.th then c.outer else c.arrived
    arrived := none
    sc := { c.sc with pc := pcReg c.cont.tvec, line := none, residual := false, fell := false } }

/-- What C, and the stalls in which it has frozen, wait for, oldest first. -/
def Core.waits (c : Core) : List CWait := c.frozen.reverse.map (·.wait) ++ [c.cwait]

/-- The oldest wait of C that a test accepts. -/
def Core.waitOf (c : Core) (p : CWait → Bool) : CWait := (c.waits.find? p).getD .none

/-- C's place and wait become those of a stall in which it has frozen, while the stall's answer acts.
Log 79: DEDUCED, unsafe. -/
def Core.goInto (c : Core) (z : Frozen) : Core :=
  { c with inside := some (z, c.sc, c.cwait), sc := z.sc, cwait := z.wait, frozen := c.frozen.erase z }

/-- C is where it was, after the answer of a stall has acted. A form that has ended moves sys.cpc on, as the stream would
have gone on. A form that still waits stays frozen.
Log 79: DEDUCED, unsafe. -/
def Core.comeOut (c : Core) : Core :=
  match c.inside with
  | none => c
  | some (z, sc, w) =>
    if c.cwait ≠ .none then
      let num := if c.cwait = .request ∧ !(c.reqs.any fun r => r.num = z.num) then c.waitsAt else z.num
      let reqs := c.reqs.map fun r => if r.num = num then { r with past := true, before := true } else r
      { c with inside := none, sc := sc, cwait := w, frozen := ⟨c.sc, c.cwait, num, z.here⟩ :: c.frozen, reqs := reqs }
    else
      let moved := z.here && c.cont.cpc = pcReg z.sc.pc
      { c with
        inside := none, sc := sc, cwait := w
        cont := if moved then { c.cont with cpc := pcReg c.sc.pc } else c.cont }

/-- C returns to the stall in which it froze when it resumes at its slot, and to none of them otherwise (R394).
Log 79: DEDUCED, unsafe. -/
def Core.thaw (c : Core) : Core :=
  match c.frozen.find? fun z => z.here && pcReg z.sc.pc = pcReg c.sc.pc with
  | some z => { c with
      sc := z.sc, cwait := z.wait, frozen := (c.frozen.erase z).map fun y => { y with here := false }
      reqs := c.reqs.map fun r => if z.wait = .request ∧ r.num = z.num then { r with past := false } else r }
  | none => { c with frozen := c.frozen.map fun y => { y with here := false } }

/-- Poison that a C or A stream of a logged context consumes (R403). -/
def State.rollsBack (s : State) (n : Nat) (st : Stream) (code : CauseCode) : Bool :=
  (s.ctxAt (s.coreAt n).ctx).log && code == cPoison && st != .x

/-- The trap is escalated and not delivered (R381, R403). -/
def State.escalates (s : State) (n : Nat) (st : Stream) (nested : Bool) (code : CauseCode) : Bool :=
  let c := s.coreAt n
  nested || !c.cont.tvec.getLsbD 63 ||
    (!(s.ctxAt c.ctx).sup && (code == cPriv || code == cSyscall)) || s.rollsBack n st code

/-- The area at a physical address. -/
def physArea (a : Nat) : AreaAt := ⟨a, [⟨0, 40, false, 0, 0, false, false, 0, 0⟩]⟩

/-- Escalation after the trap registers are written (R381): a context with an escalation area is
saved there by the pre-emption that follows; a supervisor context, or one with no area, halts.
Log 51: DEDUCED, unsafe. 70: DESIGN CHOICE, safe. -/
def State.escalate (s : State) (n : Nat) : State :=
  let x := s.ctxAt (s.coreAt n).ctx
  if x.sup ∨ x.escal = 0 then
    let s := s.modCore n fun c => { c with mode := .halted }
    { s with mgmt := { s.mgmt with
        posted := s.mgmt.posted ++ [⟨1, n, (s.coreAt n).cont.cause⟩] } }
  else
    let s := s.modCore n fun c => { c with saving := some ⟨none, physArea x.escal, false, some c.cont.cause, none, none⟩ }
    s.post [.preemption n x.escal false]

/-- Firmware pre-empts a core of its own accord, into an area that it names (R10, R403).
Log 80: DESIGN CHOICE, unsafe. -/
def State.firmwareSave (s : State) (n : Nat) (release : Bool) : State :=
  State.post { s with fresh := s.fresh + 1 }
    [.preemption n (0x2000000000 + (Config.firmwareArea s.fresh).toNat * 2 ^ 22) release]

/-- The core has a RUNNING continuation, which no pre-emption has begun to save. -/
def Core.preemptible (c : Core) : Bool := (c.mode = .running || c.mode = .halted) && c.saving.isNone

/-- The rollback event of R403: the supervisor is told, and firmware pre-empts every RUNNING continuation of the context.
Log 70: DESIGN CHOICE, safe. 80: DESIGN CHOICE, unsafe. -/
def State.rollback (s : State) (n : Nat) : State :=
  let x := (s.coreAt n).ctx
  let s : State := { s with mgmt := { s.mgmt with posted := s.mgmt.posted ++ [⟨2, x, BitVec.ofNat 64 n⟩] } }
  (s.cores.filter fun p => p.2.preemptible && p.2.ctx = x).foldl (fun s p => s.firmwareSave p.1 false) s

/-- A feed of a core sleeps no longer; C issues it again (R158). -/
def State.wakeFeed (s : State) (n : Nat) : State :=
  { s with homes := { s.homes with feedSleepers := s.homes.feedSleepers.filter fun p => p.1 ≠ n } }

/-- The late fault that an entry raises at landing, if any (R57, R239, R240, R384): that of its poison before that of a
failing check or of its flags.
Log 37: DEDUCED, unsafe. -/
def lateFault (fpstat : W64) (f : InFlight) : Option Trap :=
  if f.poison then some { code := cPoison, kind := 2, epc := some f.pc }
  else if f.op = .check then some { code := cCheck, kind := 2, epc := some f.pc }
  else if fpTraps fpstat f.flags then
    some { code := cFp, info := f.flags.toNat, kind := 2, epc := some f.pc }
  else none

/-- Every result of a core that is due lands (R219, R382); the first late fault among them. -/
def State.landDue (s : State) (n : Nat) : State × Option Trap :=
  let c := s.coreAt n
  let due := c.inflight.filter fun f => f.remaining = 0
  let c' := c.landAll due
  (s.setCore n c', (due.filterMap (lateFault c'.cont.fpstat)).head?)

/-- A trap as a stream holds it (R379). -/
def State.pendingOf (s : State) (n : Nat) (st : Stream) (t : Trap) : PendingTrap :=
  let epc := pcReg (t.epc.getD ((s.coreAt n).stream st).pc)
  ⟨causeWord t.kind st t.info t.code, epc, pcReg (s.originPc n st epc)⟩

/-- A trap becomes pending for its stream, unless the stream holds one (R379). -/
def State.hold (s : State) (n : Nat) (st : Stream) (p : PendingTrap) : State :=
  s.modCore n fun c => if (c.pend st).isSome then c else c.setPend st (some p)

/-- A stream that has reached the end of its chain has its CHAIN_END pending (R32); a second trap of the stream waits. -/
def State.holdFell (s : State) (n : Nat) (st : Stream) : State :=
  let c := s.coreAt n
  if (c.stream st).fell ∧ !(c.stream st).finished ∧ (c.pend st).isNone then
    (s.hold n st (s.pendingOf n st { code := cChainEnd })).modCore n fun c => c.modStream st fun v => { v with fell := false }
  else s

/-- The freeze of the streams of a core (R373, R382): at slots where every register holds its value, with the results
that are due landed; what that finds, and the end of a chain that a stream has reached, is pending. -/
def State.freeze (s : State) (n : Nat) : State :=
  let s := (s.stopPoints n).wakeFeed n
  let (s, t) := s.landDue n
  let s := match t with
    | some t => s.hold n .x (s.pendingOf n .x t)
    | none => s
  ((s.holdFell n .c).holdFell n .a).holdFell n .x

/-- Delivers a trap of stream `st` on core `n`: the freeze, the registers of R373 step 3, then the handler, or
the escalation of R381. -/
def State.deliver (s : State) (n : Nat) (st : Stream) (p : PendingTrap) (nested : Bool) : State :=
  let s := s.freeze n
  let code := p.cause.toNat % 256
  let esc := s.escalates n st nested code
  let back := s.rollsBack n st code
  let s := s.modCore n fun c => c.writeTrapRegs st p
  if esc then
    let s := (s.modCore n fun c => c.standAtEpc st p).escalate n
    if back then s.rollback n else s
  else s.modCore n Core.enterHandler

/-- The first pending trap of a core: C's, then A's, then X's (R379). -/
def Core.firstPending (c : Core) : Option (Stream × PendingTrap) :=
  match c.pendC, c.pendA, c.pendX with
  | some p, _, _ => some (.c, p)
  | none, some p, _ => some (.a, p)
  | none, none, some p => some (.x, p)
  | none, none, none => none

/-- Delivers a pending trap of a core. -/
def State.deliverHeld (s : State) (n : Nat) (st : Stream) (p : PendingTrap) : State :=
  (s.modCore n fun c => c.setPend st none).deliver n st p false

/-- Delivers the first pending trap of a core that runs and is in no handler. -/
def State.deliverPending (s : State) (n : Nat) : State :=
  let c := s.coreAt n
  match c.firstPending with
  | some (st, p) =>
    if c.mode = .running ∧ c.saving.isNone ∧ !c.cont.th ∧ !c.sc.fell then s.deliverHeld n st p
    else s
  | none => s

/-- A trap arises in stream `st` of core `n`. During a save it is pending (R385), as is one of a stall in which C has
frozen; one raised by the handler's own work is nested (R380, R381); any other that arises in a handler is pending
(R379), also one of A or X behind a CHAIN_END of C that has arisen before it (R32); else it is delivered at once.
Log 37: DEDUCED, unsafe. -/
def State.raiseAt (s : State) (n : Nat) (st : Stream) (t : Trap) : State :=
  let c := s.coreAt n
  -- C does not return to a stall that it has left: what its form raises is late
  let t := match c.inside with
    | some (z, _, _) => if z.here then t else { t with kind := 2 }
    | none => t
  let p := s.pendingOf n st t
  let s := if t.code = cChainEnd then s.modCore n fun c => c.modStream st fun v => { v with fell := false } else s
  if c.saving.isSome ∨ c.inside.isSome ∨ c.mode ≠ .running then
    let s := s.hold n st p
    if c.inside.isSome ∧ !c.cont.th then s.post [.trapDelivery n] else s
  else if c.cont.th ∧ st = .c ∧ !t.before then s.deliver n st p true
  else if c.cont.th then s.hold n st p
  else if st ≠ .c ∧ c.sc.fell then s.hold n st p
  else s.deliver n st p false

/-- C is where it was, after the answer of a stall has acted; a form that has ended at the end of its chain leaves a
CHAIN_END pending (R32). -/
def State.comeOut (s : State) (n : Nat) : State :=
  let c := s.coreAt n
  let s := match c.inside with
    | some (z, _, _) =>
      if c.cwait = CWait.none ∧ z.here ∧ c.cont.cpc = pcReg z.sc.pc ∧ c.sc.fell then
        s.hold n .c (s.pendingOf n .c { code := cChainEnd })
      else s
    | none => s
  s.modCore n Core.comeOut

/-- C waits for the management complex in the way that a test accepts. -/
def CWait.manages (p : Nat → Bool) : CWait → Bool
  | .management _ what => p what
  | _ => false

/-- `f` acts on C at the oldest wait that a test accepts: in a stall in which it has frozen (R373), else where it stands.
Log 79: DEDUCED, unsafe. -/
def State.atWait (s : State) (n : Nat) (p : CWait → Bool) (f : State → State) : State :=
  match (s.coreAt n).frozen.reverse.find? fun z => p z.wait with
  | none => f s
  | some z => (f (s.modCore n fun c => c.goInto z)).comeOut n

/-- The stall in which C has frozen at a request. -/
def Core.frozenAt (c : Core) (num : Nat) : Option Frozen := c.frozen.find? fun z => z.wait = .request && z.num = num

/-- `f` acts on C at a request: where it stands, or in the stall in which it has frozen at that request (R373).
Log 79: DEDUCED, unsafe. -/
def State.atReq (s : State) (n num : Nat) (f : State → State) : State :=
  match (s.coreAt n).frozenAt num with
  | none => f s
  | some z => (f (s.modCore n fun c => c.goInto z)).comeOut n

/-- The same of an action that may end in a fault of the model. -/
def State.tryAtReq (s : State) (n num : Nat) (f : State → Except Fault State) : Except Fault State :=
  match (s.coreAt n).frozenAt num with
  | none => f s
  | some z => (f (s.modCore n fun c => c.goInto z)).map fun s => s.comeOut n

/-- A stall in which C has frozen is acting, and C has still to return to it. -/
def Core.insideHere (c : Core) : Bool := match c.inside with | some (z, _, _) => z.here | none => false

/-- A trap of the issuing stream. -/
def State.raise (s : State) (t : Trap) : State := s.raiseAt s.core s.str t

/-- The issuing stream transfers to `t`; a target that names no slot raises ILLEGAL with sys.epc at the
target (R25, R144).
Log 16: DEDUCED, safe. 28: DEDUCED, unsafe. -/
def State.jumpTo (s : State) (t : W64) : State :=
  if namesSlot t then (s.modCur fun c => c.modStream s.str fun v => v.jump t).tickIf
  else s.raise { code := cIllegal, epc := some t }

/-! ### Issuing -/

/-- The guard is satisfied (R116). -/
def State.guardHolds (s : State) (g : Guard) : Bool :=
  ((s.cur.scalar s.str g.gr.toNat).getLsbD g.gb.toNat) != g.gs

/-- The context of the issuing continuation. -/
def State.curCtx (s : State) : Ctx := s.ctxAt s.cur.ctx

/-- What follows the body of an instruction. -/
def finish (lit : Bool) (s : State) : Except Stop (Flow × State) → Outcome State Fault Refusal
  | .ok (.fall, t) => .next (t.advance lit)
  | .ok (.jump p, t) => .next (t.jumpTo p)
  | .ok (.stay, t) => .next t.stalled
  | .ok (.leave, t) => .next t
  | .error (.trap t) => .next (s.raise t)
  | .error .stall => .next s.stalled
  | .error (.fault f) => .fault f

/-- The instruction completes and its late fault is found (R376): the stream has gone on to the next
slot, and sys.epc names the instruction. -/
def State.completeLate (s : State) (code : CauseCode) (info : Nat := 0) : Flow × State :=
  let pc := (s.cur.stream s.str).pc
  (.leave, (s.advance false).raise { code := code, info := info, kind := 2, epc := some pc })

/-- Runs an instruction at issue: check 5 of R118 for a supervisor form, the guard (R117), then its
body. -/
def issue (g : Guard) (sup lit : Bool) (body : Act Flow) (s : State) :
    Outcome State Fault Refusal :=
  if sup && !s.curCtx.sup then .next (s.raise { code := cPriv })
  else if !s.guardHolds g then .next (s.advance lit)
  else finish lit s (body s)

/-- An instruction that only changes the state and goes on. -/
def issueSet (g : Guard) (f : State → State) (s : State) : Outcome State Fault Refusal :=
  issue g false false (fun s => .ok (.fall, f s)) s

/-! ### X results -/

/-- The instruction's result enters the in-flight queue (R218). -/
def State.launchX (s : State) (f : InFlight) : State :=
  s.modCur fun c => { c with inflight := c.inflight ++ [f] }

/-- A scalar result of the issuing stream: written at once in C and A (R133), in flight in X (R134). -/
def State.writeScalar (s : State) (lat : Nat) (n : Nat) (v : W64) : State :=
  if s.str = .x then
    s.launchX ⟨.e n, allBits, v.setWidth 2048, lat, .write, 0, pcReg s.cur.sx.pc, false⟩
  else s.modCur fun c => c.setScalar s.str n v

/-- The value of an S register of the issuing stream. -/
def State.rd (s : State) (r : BitVec 7) : W64 := s.cur.scalar s.str r.toNat

/-- Writes an S register of the issuing stream at once. -/
def State.wr (s : State) (r : BitVec 7) (v : W64) : State :=
  s.modCur fun c => c.setScalar s.str r.toNat v

end Sys2Proof.Machine
end

