-- ==== Sys2Proof/Machine/Operands.lean ====
section
/-! DEFINITION. The operand forms: scalar sources and destinations of the integer forms (R135, R138),
vector sources with broadcast and lane masks (R48, R120, R223), vector destinations (R219), and the
offset of a memory operand (R127). -/

namespace Sys2Proof.Machine

open Host (Outcome)

/-- An F3 integer form (R135): a from s1 and b from s2 give r in d. -/
def intForm (f : F3) (lat : Nat) (r : W64 → W64 → W64) (s : State) :
    Outcome State Fault Refusal :=
  issueSet f.g (fun s => s.writeScalar lat f.d.toNat (r (s.rd f.s1) (s.rd f.s2))) s

/-- An FI integer form (R138): a from s1, b from the immediate. -/
def immForm (f : FI) (lat : Nat) (b : W64) (r : W64 → W64 → W64) (s : State) :
    Outcome State Fault Refusal :=
  issueSet f.g (fun s => s.writeScalar lat f.d.toNat (r (s.rd f.s1) b)) s

/-- SX(imm): the immediate sign-extended from bit 29 (R138). -/
def immSx (f : FI) : W64 := f.imm.signExtend 64

/-- imm[5:0] (R138). -/
def imm6 (f : FI) : W64 := BitVec.ofNat 64 (f.imm.toNat % 64)

/-! ### Vectors -/

/-- Element `j` of width `w` of a vector (R48). -/
def elem (w : Nat) (v : Vec) (j : Nat) : Nat := (v >>> (w * j)).toNat % 2 ^ w

/-- The number of elements of width `w`. -/
def elemCount (w : Nat) : Nat := 2048 / w

/-- The vector whose element `j` of width `w` is `f j`, for j below `n`; the rest is zero. -/
def ofElems (w n : Nat) (f : Nat → Nat) : Vec :=
  BitVec.ofNat 2048 ((List.range n).foldl (fun acc j => acc + f j % 2 ^ w * 2 ^ (w * j)) 0)

/-- Element `j` of width `w` is active under a mask (R48). -/
def activeElem (w : Nat) (mask : W64) (j : Nat) : Bool := mask.getLsbD (w * j / 32)

/-- The bits of the elements j < n of width `w` that `act` selects. -/
def elemBits (w n : Nat) (act : Nat → Bool) : Vec :=
  BitVec.ofNat 2048 ((List.range n).foldl
    (fun acc j => if act j then acc + (2 ^ w - 1) * 2 ^ (w * j) else acc) 0)

/-- The bits of the active elements of width `w` (R48, R219). -/
def activeBits (w : Nat) (mask : W64) : Vec := elemBits w (elemCount w) (activeElem w mask)

/-- A scalar broadcast to every element of width `w` (R223). -/
def broadcast (w : Nat) (x : W64) : Vec := ofElems w (elemCount w) fun _ => x.toNat

/-- A source of class V or VB, for elements of width `w` (R120, R223). -/
def State.vsrc (s : State) (w : Nat) (r : BitVec 7) : Vec :=
  if r.toNat < 64 then s.cur.vec r.toNat else broadcast w (s.cur.scalar .x (r.toNat - 64))

/-- The lane mask that a form's mask field names. -/
def State.laneMask (s : State) (f : F3) : W64 := s.cur.maskReg f.mask.toNat

/-- A vector result in flight: the bits `bits` of v[d] receive `v`. -/
def State.writeVec (s : State) (lat : Nat) (d : BitVec 7) (v bits : Vec) (flags : FpFlags) :
    State :=
  s.launchX ⟨.v d.toNat, bits, v, lat, .write, flags, pcReg s.cur.sx.pc, false⟩

/-- A mask result in flight. -/
def State.writeMask (s : State) (lat : Nat) (d : Nat) (v : W64) : State :=
  s.launchX ⟨.m d, allBits, v.setWidth 2048, lat, .write, 0, pcReg s.cur.sx.pc, false⟩

/-! ### Memory operands -/

/-- MemOffset of R127, as an unsigned 64-bit value. -/
def memOffset (base : W64) (off : Int) (unit : Nat) : Nat :=
  (((base.toNat : Int) + off * unit) % (2 ^ 64 : Nat)).toNat

end Sys2Proof.Machine
end

