-- ==== Sys2Proof/Machine/Flags.lean ====
section
/-! DEFINITION. The flag computations: the conditions of the integer compares (R136) and of the vector
compares (R229), the sticky flags of sys.fpstat and their trap enables (R56, R57), and the sticky bits of
sys.ldstat (R198). -/

namespace Sys2Proof.Machine

/-- 1 when the condition holds, otherwise 0 (R136). -/
def flag (b : Bool) : W64 := if b then 1 else 0

/-- Condition fn[2:0] of `vcmp` on two values (R229).
Log 34: DEDUCED, unsafe. -/
def fcmpHolds (c : Nat) (a b : Num) : Bool :=
  let un := a = .nan ∨ b = .nan
  if c = 0 then !un && a.eqv b
  else if c = 1 then un || !a.eqv b
  else if c = 2 then !un && a.lt b
  else if c = 3 then !un && !b.lt a
  else if c = 4 then !un && b.lt a
  else if c = 5 then !un && !a.lt b
  else if c = 6 then un
  else !un

/-- Condition fn[2:0] of `vicmp` on two integers (R229). -/
def icmpHolds (c : Nat) (a b : Int) : Bool :=
  if c = 0 then a = b
  else if c = 1 then a ≠ b
  else if c = 2 then a < b
  else if c = 3 then a ≤ b
  else if c = 4 then b < a
  else b ≤ a

/-- The sticky bits of sys.ldstat that a scalar load of a stream sets: a hole, an expired view. -/
def ldstatBits (st : Stream) (hole expired : Bool) : W64 :=
  let k := if st = .c then 0 else 2
  (if hole then BitVec.ofNat 64 (2 ^ k) else 0) |||
    (if expired then BitVec.ofNat 64 (2 ^ (k + 1)) else 0)

end Sys2Proof.Machine
end

