-- ==== Sys2Proof/Machine/Port.lean ====
section
/-! DEFINITION. The fabric port's sending side: packets and flits (R352, R357, R358), routes and the link of a packet
(R363, R364), slots and credits (R361, R362), and the order in which packets leave (R305). -/

namespace Sys2Proof.Machine

/-! ### Packets of this chip -/

/-- This chip's peer number (R365). -/
def State.ownPeer (s : State) : Nat := s.fab.peerid.toNat % 4096

/-- A packet of this chip with its plain fields zero. -/
def State.packet (s : State) (kind dst rq : Nat) : Packet :=
  { kind := kind, dst := dst, src := s.ownPeer, sdie := 0, score := 0, sstr := 0, cls := 0, rq := rq,
    id := 0, line := 0, sect := 0, hops := 0, op := 0, mask := 0, data := 0, body := [] }

/-- Changes the fabric's state. -/
def State.modFab (s : State) (f : Fabric → Fabric) : State := { s with fab := f s.fab }

/-- A contribution of a REDUCE, which carries a mask and sectors (R358). -/
def packetReduce (p : Packet) : Bool := p.kind = 2 && p.op = 14

/-- A reply that brings a write or a contribution back to its source, to be sent again or handed back. -/
def packetReturned (p : Packet) : Bool :=
  p.kind = 4 && (p.op % 16 = 9 || p.op % 16 = 10) && (p.op / 16 % 16 = 1 || (p.op / 16 % 16 = 2 && p.op / 2048 = 14))

/-- The packet carries a byte mask (R358). -/
def packetMasked (p : Packet) : Bool := p.kind = 1 || packetReduce p || packetReturned p

/-- The chip that sends a packet to its destination: its source, or the old home that forwards a request (R371). -/
def packetSender (p : Packet) : Nat :=
  if 4 ≤ p.kind ∨ (p.body.getD 8 0).toNat = 0 then p.src else (p.body.getD 8 0).toNat - 1

/-- The packets that a packet stands for: writes that a forwarding chip has merged count each (R359, R361). -/
def packetCount (p : Packet) : Nat := if p.kind = 1 then 1 + (p.body.getD 7 0).toNat else 1

/-- The packet carries sectors (R358): a write, the reply to a read, a contribution. -/
def packetCarries (p : Packet) : Bool := packetMasked p || (p.kind = 4 && p.op = 0)

/-- The packet carries a record after its context (R83). -/
def packetRecord (p : Packet) : Bool := p.kind = 7 && p.op % 16 = 0

/-- The sectors that bytes of a mask touch (R358). -/
def sectorsOf (m : BitVec 128) : Nat :=
  (List.range 4).foldl (fun acc i => if m.extractLsb' (32 * i) 32 ≠ 0 then acc + 2 ^ i else acc) 0

/-- The sectors of a packet, ascending. -/
def packetSectors (p : Packet) : List Nat := (List.range 4).filter fun i => bitOf p.sect i

/-- The 16-byte header (R357). -/
def packetHeader (p : Packet) : Nat :=
  p.op % 2 ^ 25 + p.hops % 2 ^ 4 * 2 ^ 25 + p.sect % 2 ^ 4 * 2 ^ 29 + p.line % 2 ^ 33 * 2 ^ 33 +
    p.id % 2 ^ 16 * 2 ^ 66 + p.rq % 2 ^ 3 * 2 ^ 82 + p.cls % 2 ^ 4 * 2 ^ 85 + p.sstr % 2 ^ 2 * 2 ^ 89 +
    p.score % 2 ^ 7 * 2 ^ 91 + p.sdie % 2 ^ 2 * 2 ^ 98 + p.src % 2 ^ 12 * 2 ^ 100 + p.dst % 2 ^ 12 * 2 ^ 112 +
    p.kind % 2 ^ 4 * 2 ^ 124

/-- The bytes of a packet: the header, the mask, the sectors in ascending order, a record (R357, R358, R83). -/
def packetBytes (p : Packet) : List Byte :=
  bytesOf 16 (packetHeader p) ++ (if packetMasked p then bytesOf 16 p.mask.toNat else []) ++
    (if packetCarries p then (packetSectors p).flatMap fun i => bytesOf 32 (p.data.toNat / 2 ^ (256 * i)) else []) ++
    (if packetRecord p then p.body.flatMap fun w => bytesOf 8 w.toNat else [])

/-- The words of a packet that its layout gives no place.
Log 52: DESIGN CHOICE, unsafe. -/
def packetSide (p : Packet) : List W64 := if packetRecord p then [] else p.body

/-- The length of a packet by its header.
Log 52: DESIGN CHOICE, unsafe. -/
def packetLength (p : Packet) : Nat :=
  16 + (if packetMasked p then 16 else 0) + (if packetCarries p then 32 * (packetSectors p).length else 0) + (if packetRecord p then 264 else 0)

/-- The flits of a packet (R352, R358). -/
def packetFlits (p : Packet) : Nat := (packetLength p + 55) / 56

/-! ### Flits (R352, R353) -/

/-- One step of the CRC-32 of IEEE 802.3.
Log 53: PRESUMED, unsafe. -/
def crcStep (c : Nat) : Nat := if c % 2 = 1 then c / 2 ^^^ 0xEDB88320 else c / 2

/-- The CRC-32 of IEEE 802.3.
Log 53: PRESUMED, unsafe. -/
def crc32 (l : List Byte) : Nat :=
  l.foldl (fun c b => (List.range 8).foldl (fun c _ => crcStep c) (c ^^^ b.toNat)) 0xFFFFFFFF ^^^ 0xFFFFFFFF

/-- A data flit: payload, sequence number, acknowledgement, CRC.
Log 53: PRESUMED, unsafe. -/
def dataFlitOf (payload : List Byte) (seq ack : Nat) : BitVec 512 :=
  let n := natOfBytes (payload.take 56) + seq % 2 ^ 15 * 2 ^ 448 + ack % 2 ^ 15 * 2 ^ 464
  BitVec.ofNat 512 (n + crc32 (bytesOf 60 n) * 2 ^ 480)

/-- The words of a control flit's payload, seven at most: bits [63:62] are 1 for a slot return, 2 for a credit, 3 for a
replay request.
Log 52: DESIGN CHOICE, unsafe. -/
def controlWords (c : SlotReturn) : List Nat :=
  (c.slots.map fun r => 2 ^ 62 + r.1 % 4096 * 2 ^ 47 + r.2.1 % 4096 * 2 ^ 35 + r.2.2.1 % 8 * 2 ^ 32 + r.2.2.2 % 2 ^ 16) ++
    (c.credits.map fun r => 2 * 2 ^ 62 + r.1 % 8 * 2 ^ 32 + r.2 % 2 ^ 16) ++
    (match c.nak with | some (n, b) => [3 * 2 ^ 62 + natOfBool b * 2 ^ 32 + n % 2 ^ 15] | none => [])

/-- A control flit (R352): its payload, a zero sequence number, bit 15 set over the acknowledgement, CRC.
Log 53: PRESUMED, unsafe. -/
def controlFlitOf (c : SlotReturn) : BitVec 512 :=
  let n := natOfBytes (((controlWords c).take 7).flatMap (bytesOf 8)) + (2 ^ 15 + c.ack % 2 ^ 15) * 2 ^ 464
  BitVec.ofNat 512 (n + crc32 (bytesOf 60 n) * 2 ^ 480)

/-- What a control flit says. -/
def controlOf (flit : BitVec 512) : SlotReturn :=
  let l := (List.range 7).map fun i => (flit.extractLsb' (64 * i) 64).toNat
  { slots := (l.filter fun w => bitsOf w 63 62 = 1).map fun w => (bitsOf w 58 47, bitsOf w 46 35, bitsOf w 34 32, bitsOf w 15 0)
    credits := (l.filter fun w => bitsOf w 63 62 = 2).map fun w => (bitsOf w 34 32, bitsOf w 15 0)
    ack := (flit.extractLsb' 464 15).toNat
    nak := (l.find? fun w => bitsOf w 63 62 = 3).map fun w => (bitsOf w 14 0, bitOf w 32) }

/-! ### Links -/

/-- A wavelength at reset.
Log 8: DESIGN CHOICE, unsafe. -/
def Wave.reset : Wave := ⟨.active, false, 0, 0⟩

/-- A link at reset: not in service.
Log 8: DESIGN CHOICE, unsafe. -/
def Link.reset : Link := ⟨false, 0, 0, [], 0, 0, [], [], 0, none, [], [], [], [], []⟩

/-- A link of the port. -/
def State.link (s : State) (k : Nat) : Link := SMap.get .reset s.fab.links k

/-- Changes a link. -/
def State.modLink (s : State) (k : Nat) (f : Link → Link) : State :=
  s.modFab fun b => { b with links := SMap.put b.links k (f (s.link k)) }

/-- Links carry traffic: not from DARK to ROUTES (R367). -/
def Fabric.lit (b : Fabric) : Bool := b.reconf = .run || b.reconf = .hold || b.reconf = .drain

/-- Packets leave: in RUN and HOLD. After a chip's drain markers none does before RUN (R367, R432). -/
def Fabric.sends (b : Fabric) : Bool := b.reconf = .run || b.reconf = .hold

/-- A route entry (R363). -/
def State.route (s : State) (peer : Nat) : Nat := (SMap.get 0 s.fab.routes peer).toNat

/-- The links of a route entry, numbered die * 128 + link (R363). -/
def routeLinks (e : Nat) : List Nat := (List.range (bitsOf e 37 36 + 1)).map fun i => bitsOf e (9 * i + 8) (9 * i)

/-- The place of a packet's link in an entry of `n` links (R364). -/
def packetChoice (p : Packet) (n : Nat) : Nat := (p.sdie * 32 + p.score + 4 * p.cls + p.sstr) % n

/-- The link on which a packet leaves (R364): of the entry of its destination, the one it is assigned to, or the next
one after it in the entry that is in service and reaches the same chip (R354). -/
def State.linkOf (s : State) (p : Packet) : Option Nat :=
  let e := s.route p.dst
  let l := routeLinks e
  let k := packetChoice p l.length
  let a := l.getD k 0
  if !bitOf e 63 then none
  else (l.rotateLeft k).find? fun i => (s.link i).up && (i = a || (s.link i).far = (s.link a).far)

/-! ### Slots and credits (R361, R362) -/

/-- The number of a pair of a peer and a receive-queue class. -/
def pairOf (peer rq : Nat) : Nat := peer * 8 + rq

/-- `a` minus `b`, mod 2^16. -/
def diff16 (a b : Nat) : Nat := (a + 2 ^ 16 - b % 2 ^ 16) % 2 ^ 16

/-- The slots that packets of this chip hold at a peer. -/
def Fabric.inUse (b : Fabric) (peer rq : Nat) : Nat :=
  diff16 (SMap.get 0 b.sent (pairOf peer rq)) (SMap.get 0 b.freed (pairOf peer rq))

/-- The link has credits for a packet and room in its replay buffer.
Log 12: DESIGN CHOICE, safe. -/
def Link.hasRoom (l : Link) (p : Packet) : Bool :=
  diff16 (SMap.get 0 l.credSent p.rq) (SMap.get 0 l.credBack p.rq) + packetFlits p ≤ Config.linkBuffer &&
    l.replay.length + packetFlits p ≤ 256

/-- A packet that this chip sends needs a slot at its destination; one that it passes on does not (R361). -/
def State.hasSlot (s : State) (p : Packet) : Bool :=
  packetSender p != s.ownPeer || s.fab.inUse p.dst p.rq < s.fab.allowance

/-! ### Sending -/

/-- The flits of a packet enter a link (R352, R353). -/
def Link.carry (l : Link) (p : Packet) : Link × List FlitOut :=
  let n := packetFlits p
  let fl := (List.range n).map fun i =>
    let seq := (l.sendSeq + i) % 2 ^ 15
    let side := if i + 1 = n then (packetSide p) else []
    (seq, dataFlitOf ((packetBytes p).drop (56 * i)) seq ((l.recvSeq + 2 ^ 15 - 1) % 2 ^ 15), side)
  ({ l with
      sendSeq := (l.sendSeq + n) % 2 ^ 15
      replay := l.replay ++ fl
      credSent := SMap.put l.credSent p.rq ((SMap.get 0 l.credSent p.rq + n) % 2 ^ 16) },
    fl.map fun f => .data f.2.1 f.2.2)

/-- A packet leaves on a link. A drain marker takes no slot: it counts in no pair (R369, R431).
Log 2: DESIGN CHOICE, unsafe. -/
def State.transmit (s : State) (k : Nat) (p : Packet) : State :=
  let (l, fl) := (s.link k).carry p
  let i := pairOf p.dst p.rq
  s.modFab fun b =>
    { b with
      links := SMap.put b.links k l
      tx := b.tx ++ fl.map fun f => (k, k, f)
      sent := if p.kind ≠ 8 ∧ packetSender p = s.ownPeer then SMap.put b.sent i ((SMap.get 0 b.sent i + 1) % 2 ^ 16) else b.sent }

/-- A packet waits at this chip.
Log 2: DESIGN CHOICE, unsafe. -/
def State.queueOut (s : State) (p : Packet) : State := s.modFab fun b => { b with out := b.out ++ [p] }

/-- Sends a packet: it leaves on its link when it has a slot, credits and no packet of its class to the same chip before
it, and waits otherwise. A packet without a link in service, or for this chip itself, goes to PACKET_FORWARD.
Log 54: DEDUCED, unsafe. -/
def State.send (s : State) (p : Packet) : State :=
  if p.dst = s.ownPeer then s.post [.packetForward p]
  else if !s.fab.sends then s.queueOut p
  else match s.linkOf p with
    | none => s.post [.packetForward p]
    | some k =>
      if (s.fab.out.any fun q => q.dst = p.dst && q.rq = p.rq) || !s.hasSlot p || !(s.link k).hasRoom p then
        s.queueOut p
      else s.transmit k p

/-- A packet is kept until the chips are joined again (R367). -/
def State.keepPacket (s : State) (p : Packet) : State := s.modFab fun b => { b with undelivered := b.undelivered ++ [p] }

/-- A packet whose answer nothing awaits leaves in RUN; a reconfiguration holds it at its source (R367). -/
def State.sendWhenJoined (s : State) (p : Packet) : State :=
  if s.fab.reconf = .run then s.send p else s.keepPacket p

/-- A drain marker leaves on its link when it has credits, after the last packet of its class: none waits when the chip
enters DRAIN, and none leaves after it (R362, R367). -/
def State.sendMarker (s : State) (m : Nat × Nat) : State :=
  let p := s.packet 8 (s.link m.1).far m.2
  if s.fab.lit && (s.link m.1).hasRoom p then s.transmit m.1 p
  else s.modFab fun b => { b with marking := b.marking ++ [m] }

/-- Waiting packets are tried again, in order, and after them the drain markers that have still to be sent.
Log 54: DEDUCED, unsafe. -/
def State.pump (s : State) : State :=
  let s := s.fab.out.foldl State.send (s.modFab fun b => { b with out := [] })
  s.fab.marking.foldl State.sendMarker (s.modFab fun b => { b with marking := [] })

/-- The link that carries what answers the flits of a link: itself, or the first to the same chip once it is out of service
(R354).
Log 83: DESIGN CHOICE, unsafe. -/
def State.backLink (s : State) (k : Nat) : Nat :=
  if (s.link k).up then k
  else ((s.fab.links.find? fun p => p.1 ≠ k && p.2.up && p.2.far = (s.link k).far).map (·.1)).getD k

/-- A control flit of a link leaves, under that link's name; it has no sequence number and is never replayed (R352). -/
def State.sendControl (s : State) (k : Nat) (slots : List (Nat × Nat × Nat × Nat)) (credits : List (Nat × Nat))
    (nak : Option (Nat × Bool)) : State :=
  if !s.fab.lit then s
  else
    let c : SlotReturn := ⟨slots, credits, ((s.link k).recvSeq + 2 ^ 15 - 1) % 2 ^ 15, nak⟩
    s.modFab fun b => { b with tx := b.tx ++ [(s.backLink k, k, .control (controlFlitOf c))] }

/-- A link on which a slot return for a source chip leaves (R361). -/
def State.linkToward (s : State) (peer : Nat) : Option Nat :=
  (routeLinks (s.route peer)).find? fun i => bitOf (s.route peer) 63 && (s.link i).up

/-- A freed count goes to its source chip, on a link of its route (R361): `r` names the source chip, the receiving chip, the
class and the count. -/
def State.passReturn (s : State) (r : Nat × Nat × Nat × Nat) : State :=
  match s.linkToward r.1 with
  | some k => s.sendControl k [r] [] none
  | none => s

/-- The absolute freed count of a pair goes back to its source (R361). -/
def State.returnSlots (s : State) (peer rq : Nat) : State :=
  s.passReturn (peer, s.ownPeer, rq, SMap.get 0 s.fab.emptied (pairOf peer rq))

/-- A packet that this chip has sent has come back undelivered: it holds no slot any more (R361). -/
def State.unsend (s : State) (p : Packet) : State :=
  let i := pairOf p.dst p.rq
  if packetSender p = s.ownPeer then
    s.modFab fun b => { b with sent := SMap.put b.sent i ((SMap.get 0 b.sent i + 2 ^ 16 - 1) % 2 ^ 16) }
  else s

end Sys2Proof.Machine
end

