-- ==== Sys2Proof/Machine/Memory.lean ====
section
/-! DEFINITION. Memory at its homes: the physical map (R13), lines and their poison (R401, R402), the
undo log (R404), the CACHE banks and the directory's transitions (R186, R307, R309 to R313), the versions
of bundle lines (R316 to R318, R327), and the waiters that a write wakes (R347). -/

namespace Sys2Proof.Machine

/-! ### The physical map (R13) -/

/-- The address lies in near or far memory.
Log 69: DEDUCED, safe. -/
def isMapped (a : Nat) : Bool := a < 2 ^ 32 || (0x2000000000 ≤ a && a < 0x4000000000)

/-- The die whose memory holds an address. -/
def homeDie (a : Nat) : Nat := if a < 2 ^ 32 then a / 2 ^ 30 else (a - 0x2000000000) / 2 ^ 35

/-- The home agent of an address: 0 to 3 near, 4 to 11 far; bit 12 chooses between the far agents of
a die. -/
def homeAgent (a : Nat) : Nat :=
  if a < 2 ^ 32 then a / 2 ^ 30 else 4 + 2 * homeDie a + (if bitOf a 12 then 1 else 0)

/-- The line of 128 bytes that holds an address. -/
def lineNo (a : Nat) : Nat := a / 128

/-- A line's key in a CACHE bank: its number at its home; the lines of a peer lie above the
module's own. -/
def cacheKey (peer : Option Nat) (l : Nat) : Nat :=
  match peer with
  | none => l
  | some p => (p + 1) * 2 ^ 33 + l

/-- Bytes [off, off + len) of a line, as a number. -/
def lineBytes (d : BitVec 1024) (off len : Nat) : Nat := d.toNat / 2 ^ (8 * off) % 2 ^ (8 * len)

/-- A line with bytes [off, off + len) replaced. -/
def lineWith (d : BitVec 1024) (off len v : Nat) : BitVec 1024 :=
  let m := BitVec.ofNat 1024 ((2 ^ (8 * len) - 1) * 2 ^ (8 * off))
  (d &&& ~~~m) ||| (BitVec.ofNat 1024 (v % 2 ^ (8 * len) * 2 ^ (8 * off)))

/-- The byte mask of bytes [off, off + len). -/
def byteMask (off len : Nat) : BitVec 128 := BitVec.ofNat 128 ((2 ^ len - 1) * 2 ^ off)

/-- The bits of the bytes that a mask selects. -/
def maskBits (m : BitVec 128) : BitVec 1024 :=
  BitVec.ofNat 1024 ((List.range 128).foldl
    (fun acc i => if m.getLsbD i then acc + 255 * 2 ^ (8 * i) else acc) 0)

/-- `a` with the masked bytes of `b`. -/
def mergeLine (a b : BitVec 1024) (m : BitVec 128) : BitVec 1024 :=
  (a &&& ~~~(maskBits m)) ||| (b &&& maskBits m)

/-! ### Lines in memory -/

/-- A line as memory holds it.
Log 1: DESIGN CHOICE, unsafe. -/
def State.memLine (s : State) (l : Nat) : BitVec 1024 :=
  BitVec.ofNat 1024 (Memory.readNat s.mem (l * 128) 128)

/-- The poison marks of a line's four sectors (R401). -/
def State.memPoison (s : State) (l : Nat) : BitVec 4 :=
  BitVec.ofNat 4 ((List.range 4).foldl
    (fun acc i => if s.poison.contains (4 * l + i) then acc + 2 ^ i else acc) 0)

/-- The poison marks of the sectors of a line that bytes at `off` bring, from the positions of bad bytes. -/
def sectorMarks (off : Nat) (pos len : Nat) (bad : List Nat) : BitVec 4 :=
  BitVec.ofNat 4 ((List.range 4).foldl (fun acc i =>
    if bad.any fun b => pos ≤ b && b < pos + len && (off + (b - pos)) / 32 = i then acc + 2 ^ i else acc) 0)

/-- Sets the poison marks of a line's sectors. -/
def State.setMemPoison (s : State) (l : Nat) (p : BitVec 4) : State :=
  { s with poison :=
      s.poison.filter (fun g => g / 4 ≠ l) ++
        ((List.range 4).filter fun i => p.getLsbD i).map fun i => 4 * l + i }

/-- The poison marks of a line after a masked write: a sector that is written whole loses its poison (R402), and the poison
of the bytes that are written is added. -/
def mergeMarks (old : BitVec 4) (m : BitVec 128) (p : BitVec 4) : BitVec 4 :=
  let sect : Nat → BitVec 32 := fun i => m.extractLsb' (32 * i) 32
  BitVec.ofNat 4 ((List.range 4).foldl (fun acc i =>
    let keep := old.getLsbD i && sect i != BitVec.allOnes 32
    let add := p.getLsbD i && sect i != 0
    if keep || add then acc + 2 ^ i else acc) 0)

/-- A masked write of a line in memory, with the poison marks of its bytes (R402). -/
def State.putRaw (s : State) (l : Nat) (d : BitVec 1024) (m : BitVec 128) (p : BitVec 4) : State :=
  let mem := (List.range 128).foldl (fun (mem : Memory) i =>
    if m.getLsbD i then Memory.write mem (l * 128 + i) (BitVec.ofNat 8 (lineBytes d i 1)) else mem)
    s.mem
  { s with mem := mem }.setMemPoison l (mergeMarks (s.memPoison l) m p)

/-- The migrating page whose copy cursor has reached a line (R371). -/
def Homes.copied (h : Homes) (l : Nat) : Option Migration :=
  h.moving.find? fun m => m.base ≤ l * 128 && l * 128 < m.base + m.size && (l < m.cursor || (l == m.cursor && m.copying))

/-- Where a line of a migrating page lies at its new home. -/
def Migration.lineAt (m : Migration) (l : Nat) : Nat := (m.dest + (l * 128 - m.base)) / 128

/-- The copy of a line's bytes to the new home of its page (R371). -/
def State.copyPacket (s : State) (m : Migration) (l : Nat) (d : BitVec 1024) (k : BitVec 128) (p : BitVec 4)
    (unawaited : Nat) : Packet :=
  { s.packet 1 m.peer 7 with
    sstr := 2, line := m.lineAt l, sect := sectorsOf k, mask := k, data := d,
    body := [BitVec.allOnes 64, 0, 0x3FF, p.setWidth 64, BitVec.ofNat 64 unawaited] }

/-- A masked write of a line in memory. A line of a migrating page that has been copied is written at the new home as
well (R371).
Log 57: DEDUCED, unsafe. -/
def State.putLine (s : State) (l : Nat) (d : BitVec 1024) (m : BitVec 128) (p : BitVec 4) : State :=
  let s := s.putRaw l d m p
  match s.homes.copied l with
  | some g => if m = 0 then s else s.sendWhenJoined (s.copyPacket g l d m p 1)
  | none => s

/-! ### The undo log (R404, R405) -/

/-- The core that holds a line in M or O.
Log 26: DESIGN CHOICE, safe. -/
def State.lineOwner (s : State) (l : Nat) : Option Nat :=
  (s.cores.find? fun p => match SMap.find p.2.lines l with
    | some e => e.cls = 0 && (e.state = .m || e.state = .o)
    | none => false).map (·.1)

/-- The value of an HC line as its home serves it: the owner's when a core owns it dirty. -/
def State.homeLine (s : State) (l : Nat) : BitVec 1024 :=
  match (s.lineOwner l).bind fun n => SMap.find (s.coreAt n).lines l with
  | some e => e.data
  | none => s.memLine l

/-- The poison marks of a line as its home serves it. -/
def State.homePoison (s : State) (l : Nat) : BitVec 4 :=
  match (s.lineOwner l).bind fun n => SMap.find (s.coreAt n).lines l with
  | some e => e.poison
  | none => s.memPoison l

/-- Logs a line's value for a context the first time in its interval (R404); a full log marks the interval
overflowed (R405). -/
def State.logValue (s : State) (ctx l : Nat) (v : BitVec 1024 × BitVec 4) : State :=
  let c := s.ctxAt ctx
  if !c.log || c.overflow then s
  else if s.homes.undo.any fun u => u.ctx = ctx && u.line = l && u.interval = c.ckpt then s
  else if s.homes.undoCap ≤ (s.homes.undo.filter fun u =>
      homeAgent (u.line * 128) = homeAgent (l * 128)).length then
    s.modCtx ctx fun c => { c with overflow := true }
  else { s with homes := { s.homes with undo := s.homes.undo ++ [⟨ctx, l, c.ckpt, v.1, v.2⟩] } }

/-- Logs a line for a context that is to own or to write it: its value with the dirty data that a snoop returns (R404). -/
def State.logLine (s : State) (ctx l : Nat) : State := s.logValue ctx l (s.homeLine l, s.homePoison l)

/-- The context whose lines a core's CACHE holds (R186, R434). -/
def Core.lineCtx (c : Core) : Nat := c.resident.getD c.ctx

/-- The dirty data of a line's owner leave it: the home logs the value that it holds itself for the owner's context, whose
writes reach it (R404). -/
def State.logOwner (s : State) (l : Nat) : State :=
  match s.lineOwner l with
  | some n => s.logValue (s.coreAt n).lineCtx l (s.memLine l, s.memPoison l)
  | none => s

/-! ### What a home gives of a line (R327, R402) -/

/-- The poison of the sectors that bytes [off, off + len) of a line touch. -/
def poisonHit (p : BitVec 4) (off len : Nat) : Bool :=
  (List.range 4).any fun i => p.getLsbD i && (i * 32 < off + len && off < i * 32 + 32)

/-- The versions of a bundle line; before any commit, the frame's contents with stamp 0. -/
def State.bLine (s : State) (l : Nat) : BLine :=
  (SMap.find s.homes.bLines l).getD ⟨0, 0, s.memLine l, 0, 0, 0, false, none, s.memPoison l, 0⟩

/-- VisibleVersion of R327 on committed versions, with its poison marks. -/
def BLine.committedAt (b : BLine) (view : Nat) : Option (BitVec 1024 × BitVec 4) :=
  if b.newerStamp ≤ view then some (b.newer, b.newerPois)
  else if b.hasOlder ∧ b.olderStamp ≤ view then some (b.older, b.olderPois)
  else none

/-- The version of a settled line that a load sees (R324, R327): the pending version of its own
bundle, else by the view; none when the view has expired. -/
def BLine.visible (b : BLine) (bound : Option Nat) (view : Nat) : Option (BitVec 1024 × BitVec 4) :=
  match b.pending, bound with
  | some (name, d, _, p), some n => if name = n then some (d, p) else b.committedAt view
  | _, _ => b.committedAt view

/-- The view that a view register gives: its stamp, or without one the complete-through stamp of this chip (R326). -/
def State.viewStamp (s : State) (v : W64) : Nat :=
  if v.getLsbD 63 then v.toNat % 2 ^ 48 else s.homes.complete

/-- `len` bytes of a line as its home gives them to one read, and whether they are poisoned: of a settled line of a B page,
the version that a view sees, and zeros when the view has expired (R327, R346). -/
def State.wordAt (s : State) (l off len : Nat) (view : Option W64) : Nat × Bool :=
  match view with
  | none => (lineBytes (s.homeLine l) off len, poisonHit (s.homePoison l) off len)
  | some v => match (s.bLine l).visible none (s.viewStamp v) with
    | some (d, p) => (lineBytes d off len, poisonHit p off len)
    | none => (0, false)

/-! ### Waiters (R104, R346, R347) -/

/-- The condition of a wait on the word's value: 0 `sigwait`, 1 `await.ne`, 2 `await.eq` (R346). -/
def waitHolds (op : Nat) (v t : W64) : Bool :=
  if op = 0 then
    let d := (v.toNat + 2 ^ 56 - t.toNat % 2 ^ 56) % 2 ^ 56
    d < 2 ^ 55 || v.getLsbD 63
  else if op = 1 then v != t
  else v == t

/-- A signal word that firmware has bound to a queue lies in the line (R415). -/
def State.boundLine (s : State) (l : Nat) : Bool :=
  (s.mgmt.queues.any fun p => match p.2.bound with
    | some a => lineNo a = l
    | none => false) || s.homes.watchers.any fun w => lineNo w.2.1 = l

/-- A waiter is parked on the line (R347), or firmware watches it (R415).
Log 73: DEDUCED, unsafe. -/
def State.watched (s : State) (l : Nat) : Bool :=
  (s.homes.waiters.any fun w => lineNo w.addr = l) || s.boundLine l

/-- An update of a signal word that is bound to a queue wakes the queue (R413, R415), here or, by a wake packet with 4 in
place of a die, at another chip.
Log 49: DEDUCED, unsafe. -/
def State.wakeBound (s : State) (l : Nat) (m : BitVec 128) : State :=
  let hit : Nat → Bool := fun a => lineNo a = l && m &&& byteMask (a % 128) 8 != 0
  let s := (s.homes.watchers.filter fun w => hit w.2.1).foldl (fun s w =>
    s.send { s.packet 4 w.1 4 with line := l, op := 3, body := [0, 4, BitVec.ofNat 64 w.2.2] }) s
  s.post (s.mgmt.queues.filterMap fun p => match p.2.bound with
    | some a => if hit a then some (.wakeRegisterWrite p.1) else none
    | none => none)

/-- The argument word that receives the satisfying value: that of d (R346). -/
def Waiting.argIndex : Waiting → Nat
  | .signal _ _ _ _ _ _ d _ => d - 1
  | _ => 0

/-- A wake of a parked record with the satisfying value: on this module the value enters the record,
and the wake is due; to a peer it goes as a packet. -/
def State.wakeWaiter (s : State) (w : Waiter) (v : W64) : State :=
  if w.peer = 0 then
    let s := s.modDie w.recDie fun d =>
      match SMap.find d.recs w.recSlot with
      | some r =>
        { d with recs := SMap.put d.recs w.recSlot { r with args := r.args.set r.wait.argIndex v } }
      | none => d
    s.post [.waiterWake w.recDie w.recSlot]
  else
    s.send { s.packet 4 (w.peer - 1) 4 with
      line := lineNo w.addr, op := 3, body := [v, BitVec.ofNat 64 w.recDie, BitVec.ofNat 64 w.recSlot] }

/-- After a write of a line at its home, each waiter on it is tested again (R347).
Log 73: DEDUCED, unsafe. -/
def State.testWaiters (s : State) (l : Nat) : State :=
  s.homes.waiters.foldl (fun s w =>
    if lineNo w.addr ≠ l then s
    else
      let v : W64 := BitVec.ofNat 64 (s.wordAt l (w.addr % 128) 8 w.view).1
      if waitHolds w.op v w.thr then
        ({ s with homes := { s.homes with waiters := s.homes.waiters.filter (· ≠ w) } }).wakeWaiter w v
      else s) s

/-! ### CACHE banks -/

/-- The role of bank `b` (R181). -/
def Core.bankRole (c : Core) (b : Nat) : Nat :=
  if b < 16 then bitsOf c.bankrole0.toNat (3 * b + 2) (3 * b)
  else bitsOf c.bankrole1.toNat (3 * (b - 16) + 2) (3 * (b - 16))

/-- The banks that hold a role, ascending (R183). -/
def Core.banksOf (c : Core) (role : Nat) : List Nat :=
  (List.range 32).filter fun b => c.bankRole b = role

/-- The core has a CACHE bank. -/
def Core.hasCache (c : Core) : Bool := !(c.banksOf 0).isEmpty

/-- Removes a line from a core. -/
def Core.dropLine (c : Core) (key : Nat) : Core := { c with lines := SMap.erase c.lines key }

/-- Removes the HC copies of a line from every core but `keep`.
Log 26: DESIGN CHOICE, safe. -/
def State.dropCopies (s : State) (l : Nat) (keep : Option Nat) : State :=
  s.cores.foldl (fun s p =>
    if some p.1 = keep then s
    else match SMap.find p.2.lines l with
      | some e => if e.cls = 0 then s.modCore p.1 fun c => c.dropLine l else s
      | none => s) s

/-- The home writes the dirty data of a line's owner to memory and invalidates every HC copy. -/
def State.recallLine (s : State) (l : Nat) : State :=
  match (s.lineOwner l).bind fun n => SMap.find (s.coreAt n).lines l with
  | some e => ((s.logOwner l).putLine l e.data (BitVec.allOnes 128) e.poison).dropCopies l none
  | none => s.dropCopies l none

/-- A peer has a valid route (R363, R364). -/
def State.hasRoute (s : State) (peer : Nat) : Bool := (SMap.get 0 s.fab.routes peer).getLsbD 63

/-- Bytes that core `n` stores to a remote line leave without a request that awaits their answer: the fifth body word is
3, and the line counts as being written until its home answers. A reconfiguration holds them at their source (R367).
Log 24: DESIGN CHOICE, unsafe. -/
def State.sendAside (s : State) (n : Nat) (p : Packet) : State :=
  let p := { p with sdie := n / 32, score := n % 32, sstr := 2, body := p.body ++ [3] }
  let s := s.modFab fun b => { b with
    writing := b.writing ++ [(n, cacheKey (some p.dst) p.line)]
    undelivered := if b.reconf = .run then b.undelivered else b.undelivered ++ [p] }
  if s.fab.reconf = .run then s.send p else s

/-- The home of such bytes has answered. -/
def State.written (s : State) (n key : Nat) : State :=
  s.modFab fun b => { b with writing := b.writing.erase (n, key) }

/-- Stored bytes of a line of core `n` are on their way to a home that has a route.
Log 24: DESIGN CHOICE, unsafe. -/
def State.lineLeaving (s : State) (n key : Nat) : Bool :=
  s.fab.writing.contains (n, key) && s.hasRoute (key / 2 ^ 33 - 1)

/-- Stored bytes of some line of core `n` are. -/
def State.coreLeaving (s : State) (n : Nat) : Bool :=
  s.fab.writing.any fun q => q.1 = n && s.hasRoute (q.2 / 2 ^ 33 - 1)

/-- A core writes a line back (R311 WB, R214): an HC line whole, a line of an SC or CP page the bytes that
the core stored, to a remote home as a packet whose answer no request awaits. The stored bytes
perform at their home, and the waiters there are tested (R347).
Log 25: DEDUCED, unsafe. -/
def State.writeBack (s : State) (n l : Nat) : State :=
  match SMap.find (s.coreAt n).lines l with
  | none => s
  | some e =>
    if e.cls = 0 then
      if e.state = .m ∨ e.state = .o then
        (s.logOwner l).putLine l e.data (BitVec.allOnes 128) e.poison
      else s
    else if e.dirty = 0 then s
    else if 2 ^ 33 ≤ l then
      s.sendAside n { s.packet 1 (l / 2 ^ 33 - 1) 2 with
        line := l % 2 ^ 33, sect := sectorsOf e.dirty,
        mask := e.dirty, data := e.data,
        body := [BitVec.allOnes 64, 0, BitVec.ofNat 64 (s.coreAt n).lineCtx, e.poison.setWidth 64] }
    else (((s.logLine (s.coreAt n).lineCtx l).putLine l e.data e.dirty e.poison).testWaiters l).wakeBound l e.dirty

/-- A core gives a line up: written back when dirty, then invalid.
Log 24: DESIGN CHOICE, unsafe. -/
def State.evict (s : State) (n l : Nat) : State := (s.writeBack n l).modCore n fun c => c.dropLine l

/-- Puts a line into a core's CACHE, giving up another when its banks are full (R186).
Log 24: DESIGN CHOICE, unsafe. -/
def State.fillLine (s : State) (n key : Nat) (e : CLine) : State :=
  let c := s.coreAt n
  let s := if 768 * (c.banksOf 0).length ≤ c.lines.length then
      match c.lines.find? fun p => p.1 ≠ key with
      | some p => s.evict n p.1
      | none => s
    else s
  s.modCore n fun c => { c with lines := SMap.put c.lines key e }

/-- RdS of core `n` (R311): an owner keeps the data as O, an exclusive holder moves to S. -/
def State.rdS (s : State) (n l : Nat) : State :=
  if (SMap.find (s.coreAt n).lines l).isSome then s
  else
    let d := s.homeLine l
    let p := s.homePoison l
    let held := s.cores.any fun q => match SMap.find q.2.lines l with
      | some e => e.cls = 0
      | none => false
    let s := s.cores.foldl (fun s q => match SMap.find q.2.lines l with
      | some e =>
        if e.cls ≠ 0 then s
        else
          let st : LineState := match e.state with
            | .m => .o | .o => .o | .e => .s | .s => .s
          s.modCore q.1 fun c => { c with lines := SMap.put c.lines l { e with state := st } }
      | none => s) s
    s.fillLine n l ⟨if held then .s else .e, d, 0, 0, p⟩

/-- RdX of core `n` for a context (R311): every holder is invalidated, and the core holds the line
in M. -/
def State.rdX (s : State) (n ctx l : Nat) : State :=
  let s := (s.logOwner l).logLine ctx l
  let d := s.homeLine l
  let p := s.homePoison l
  (s.dropCopies l none).fillLine n l ⟨.m, d, 0, 0, p⟩

/-- Upg of core `n` (R311): every other holder is invalidated, and the core's copy moves to M. -/
def State.upg (s : State) (n ctx l : Nat) : State :=
  match SMap.find (s.coreAt n).lines l with
  | none => s
  | some e =>
    let s := ((s.logOwner l).logLine ctx l).dropCopies l (some n)
    s.modCore n fun c => { c with lines := SMap.put c.lines l { e with state := .m } }

/-- The core holds an HC line in M (R312). -/
def State.own (s : State) (n ctx l : Nat) : State :=
  match SMap.find (s.coreAt n).lines l with
  | none => s.rdX n ctx l
  | some e =>
    match e.state with
    | .m => s
    | .e => s.modCore n fun c => { c with lines := SMap.put c.lines l { e with state := .m } }
    | _ => s.upg n ctx l

/-! ### Writes at a home -/

/-- A masked write of a line performs at its home on behalf of a context: merged with the owner's data, logged, every
cached HC copy invalidated, the waiters tested. -/
def State.homeWrite (s : State) (ctx l : Nat) (d : BitVec 1024) (m : BitVec 128) (p : BitVec 4) :
    State :=
  if m = 0 then s else ((((s.recallLine l).logLine ctx l).putLine l d m p).testWaiters l).wakeBound l m

/-! ### Structures in memory that the device reads and writes at their homes -/

/-- A byte as its home serves it. -/
def State.homeByte (s : State) (a : Nat) : Byte :=
  match (s.lineOwner (lineNo a)).bind fun n => SMap.find (s.coreAt n).lines (lineNo a) with
  | some e => BitVec.ofNat 8 (lineBytes e.data (a % 128) 1)
  | none => Memory.read s.mem a

/-- `n` bytes from physical address `a` as their homes serve them. -/
def State.physBytes (s : State) (a n : Nat) : List Byte := (List.range n).map fun i => s.homeByte (a + i)

/-- The same as a number, little-endian. -/
def State.physNat (s : State) (a n : Nat) : Nat := natOfBytes (s.physBytes a n)

/-- Writes bytes from physical address `a` at their homes, on behalf of a context. -/
def State.physWrite (s : State) (ctx a : Nat) (l : List Byte) : State :=
  let first := lineNo a
  let count := if l.isEmpty then 0 else lineNo (a + l.length - 1) - first + 1
  (List.range count).foldl (fun s k =>
    let line := first + k
    let lo := max a (line * 128)
    let hi := min (a + l.length) (line * 128 + 128)
    let bytes := (l.drop (lo - a)).take (hi - lo)
    s.homeWrite ctx line (lineWith 0 (lo % 128) (hi - lo) (natOfBytes bytes)) (byteMask (lo % 128) (hi - lo)) 0) s

/-- Writes the low `n` bytes of a number from physical address `a`. -/
def State.physWriteNat (s : State) (ctx a n v : Nat) : State := s.physWrite ctx a (bytesOf n v)

/-! ### Bundle lines (R316 to R318, R327) -/

/-- Puts the versions of a bundle line back. -/
def State.setBLine (s : State) (l : Nat) (b : BLine) : State :=
  { s with homes := { s.homes with bLines := SMap.put s.homes.bLines l b } }

/-- The lines of a page hold no versions but the frame's contents (R316). -/
def State.clearBLines (s : State) (base size : Nat) : State :=
  { s with homes := { s.homes with
    bLines := s.homes.bLines.filter fun p => !(base ≤ p.1 * 128 && p.1 * 128 < base + size) } }

/-- The fields of a bundle name (R320). -/
def namePeer (n : Nat) : Nat := n / 2 ^ 20 % 4096
/-- The Wardrobe index of a bundle name. -/
def nameIndex (n : Nat) : Nat := n % 2 ^ 16

/-- What a chip has read of a record of another chip: nothing, that it was OPEN, SEALING, COMMITTED, ABORTED or
FREE, that it is OPEN with its conflict flag set, or that it has been asked. -/
def fateOpen : Nat := 1
/-- The record is SEALING. -/
def fateSealing : Nat := 2
/-- The bundle has committed. -/
def fateCommitted : Nat := 3
/-- The bundle has been aborted, or is no more. -/
def fateAborted : Nat := 4
/-- The record is OPEN and its conflict flag is set. -/
def fateFlagged : Nat := 5
/-- The record's home has been asked. -/
def fateAsked : Nat := 9

/-- What this chip knows of a bundle, with its stamp: from the record when it is at home here, otherwise what the
record's home has told it; 0 when it knows nothing (R318, R323).
Log 42: DEDUCED, unsafe. -/
def State.bundleFate (s : State) (name : Nat) : Nat × Nat :=
  if namePeer name = s.ownPeer then
    match SMap.find s.homes.wardrobe (nameIndex name) with
    | some r =>
      (if r.state = 1 ∧ r.conflict then fateFlagged else if r.state = 0 then fateAborted else r.state, r.stamp)
    | none => (fateAborted, 0)
  else SMap.get (0, 0) s.homes.fates name

/-- Records what the home of a bundle's record has told this chip. -/
def State.setFate (s : State) (name code stamp : Nat) : State :=
  { s with homes := { s.homes with fates := SMap.put s.homes.fates name (code, stamp) } }

/-- Forgets a bundle of another chip. -/
def State.forgetFate (s : State) (name : Nat) : State :=
  { s with homes := { s.homes with fates := SMap.erase s.homes.fates name } }

/-- A committed version enters a bundle line (R318); the frame holds the newest committed version, and waiters
on it are tested. -/
def State.commitLine (s : State) (l : Nat) (b : BLine) : State :=
  (((s.setBLine l b).putLine l b.newer (BitVec.allOnes 128) b.newerPois).testWaiters l).wakeBound l (BitVec.allOnes 128)

/-- Settling (R318): a committed pending version becomes the newest version; an aborted one is
discarded. -/
def State.settle (s : State) (l : Nat) : State :=
  let b := s.bLine l
  match b.pending with
  | none => s
  | some (name, d, _, p) =>
    let (st, stamp) := s.bundleFate name
    if st = fateCommitted then
      s.commitLine l ⟨stamp, name, d, b.newerStamp, b.newerName, b.newer, true, none, p, b.newerPois⟩
    else if st = fateAborted then s.setBLine l { b with pending := none }
    else s

/-- A load must wait for commit notices that are on their way: its view is above this chip's complete-through stamp,
and the line has a pending version whose bundle may have committed under it (R323, R328). -/
def State.viewWaits (s : State) (l view : Nat) (bound : Option Nat) : Bool :=
  s.homes.complete < view && (match (s.bLine l).pending with
    | some (name, _) => bound != some name
    | none => false)

/-- The home of a bundle's record on another chip is asked for the record's state, and to set its conflict flag
when it is OPEN and `flag` says so (R318, R323). -/
def State.askRecord (s : State) (name : Nat) (flag : Bool) : State :=
  (s.setFate name fateAsked 0).send { s.packet 6 (namePeer name) 6 with
    op := if flag then 9 else 6, body := [BitVec.ofNat 64 name] }

/-- Sets the conflict flag of an OPEN record of this chip (R318). -/
def State.flagRecord (s : State) (name : Nat) : State :=
  match SMap.find s.homes.wardrobe (nameIndex name) with
  | some r =>
    if r.state = 1 then
      { s with homes := { s.homes with wardrobe := SMap.put s.homes.wardrobe (nameIndex name) { r with conflict := true } } }
    else s
  | none => s

/-- Whether a bundle's conflict flag is set, as far as it matters, and what is asked to have it set: here at once, at
another chip by a request whose answer the store awaits (R318). -/
def State.flagged (s : State) (name : Nat) : Bool × State :=
  let f := (s.bundleFate name).1
  if namePeer name = s.ownPeer then (true, s.flagRecord name)
  else if f = fateAsked then (false, s)
  else if f = 0 ∨ f = fateOpen then (false, s.askRecord name true)
  else (true, s)

/-- A store outside a bundle may commit on a line (R318): a bundle that holds the pending slot has its conflict flag
set when it is OPEN; the store waits while it is SEALING, and while another chip has yet to say. -/
def State.singleReady (s : State) (l : Nat) : Bool × State :=
  let s := s.settle l
  match (s.bLine l).pending with
  | none => (true, s)
  | some (h, _) => if (s.bundleFate h).1 = fateSealing then (false, s) else s.flagged h

/-- A store of bundle `name` may perform on a line (R318): at once, unless another undecided bundle holds the pending
slot. Then its own bundle's conflict flag is set first; where the holder's record is at another chip, its state is
read first. -/
def State.bundleReady (s : State) (name l : Nat) : Bool × State :=
  let s := s.settle l
  match (s.bLine l).pending with
  | none => (true, s)
  | some (h, _) =>
    if h = name then (true, s)
    else
      let f := (s.bundleFate h).1
      if f = fateAsked then (false, s)
      else if f = 0 then (false, s.askRecord h false)
      else s.flagged name

/-- The store of bundle `name` to a line performs (R318, R324): merged into the bundle's pending version; without
effect when the bundle is aborted or another bundle holds the slot. -/
def State.bundleStore (s : State) (name l : Nat) (d : BitVec 1024) (m : BitVec 128) (p : BitVec 4) : State :=
  let s := s.settle l
  let b := s.bLine l
  if (s.bundleFate name).1 = fateAborted then s
  else match b.pending with
    | none => s.setBLine l { b with pending := some (name, mergeLine b.newer d m, m, mergeMarks b.newerPois m p) }
    | some (n, v, vm, vp) =>
      if n = name then s.setBLine l { b with pending := some (n, mergeLine v d m, vm ||| m, mergeMarks vp m p) }
      -- what was read of a record that was OPEN is read afresh for the next store
      else if (s.bundleFate n).1 = fateOpen then s.forgetFate n else s

/-- The complete-through stamp after the stamps of `heard` have arrived (R323). -/
def raiseThrough (heard : List Nat) : Nat → Nat → Nat
  | 0, t => t
  | fuel + 1, t => if heard.contains (t + 1) then raiseThrough heard fuel (t + 1) else t

/-- The lines of this chip whose pending version belongs to a bundle. -/
def State.pendingLines (s : State) (name : Nat) : List Nat :=
  s.homes.bLines.filterMap fun p => match p.2.pending with
    | some (n, _) => if n = name then some p.1 else none
    | none => none

/-- Settles every line of this chip that a bundle wrote (R318). -/
def State.settleAll (s : State) (name : Nat) : State := (s.pendingLines name).foldl State.settle s

/-- The notice of a commit reaches this chip's Hutch, which keeps the 4,096 most recent; the complete-through stamp
rises over every stamp whose notice has arrived (R323), and the lines that the bundle wrote here settle (R318). -/
def State.hearNotice (s : State) (name stamp : Nat) : State :=
  let heard := stamp :: s.homes.heard
  let t := raiseThrough heard heard.length s.homes.complete
  let s : State := { s with homes := { s.homes with
      notices := ((name, stamp) :: s.homes.notices).take 4096
      heard := heard.filter fun x => t < x
      complete := t } }
  -- a waiter without a stamp of its own now sees what has committed up to the new complete-through stamp (R326)
  let s := (((s.homes.waiters.filter fun w => w.view.isSome).map fun w => lineNo w.addr).eraseDups).foldl State.testWaiters s
  if (s.pendingLines name).isEmpty then s
  else if namePeer name = s.ownPeer then s.settleAll name
  else
    let asked := (s.bundleFate name).1 = fateAsked
    let s := (s.setFate name fateCommitted stamp).settleAll name
    -- an answer of the record's home is still on its way
    if asked then s.setFate name fateAsked 0 else s

/-- The single-line name of this chip (R317). -/
def State.singleName (s : State) : Nat := s.ownPeer * 2 ^ 20 + 15 * 2 ^ 16

/-- A single-line bundle commits with its stamp (R318). -/
def State.commitSingle (s : State) (l stamp : Nat) (d : BitVec 1024) (m : BitVec 128) (p : BitVec 4) : State :=
  let s := s.settle l
  let b := s.bLine l
  s.commitLine l ⟨stamp, s.singleName, mergeLine b.newer d m, b.newerStamp, b.newerName, b.newer, true, b.pending,
    mergeMarks b.newerPois m p, b.newerPois⟩

end Sys2Proof.Machine
end

