-- ==== Sys2Proof/Machine/Access.lean ====
section
/-! DEFINITION. Uses of tokens (R164, R170, R171) and the memory requests of the C and A streams: what
each form accesses (R194, R206, R209 to R217, R336, R345), how its parts are read and written by page
class and mode (R177, R207, R208, R306 to R308, R338), and how a request performs (R172, R191, R192,
R197, R211). -/

namespace Sys2Proof.Machine

/-! ### Tokens -/

/-- The Cabinet index of a token (R164). -/
def tokIndex (t : W64) : Nat := t.toNat / 2 ^ 52
/-- The generation of a token. -/
def tokGen (t : W64) : Nat := t.toNat / 2 ^ 28 % 2 ^ 24
/-- The rights of a token: R 8, W 4, A 2, X 1. -/
def tokRights (t : W64) : BitVec 4 := t.extractLsb' 24 4
/-- A token. -/
def mkToken (i gen : Nat) (r : BitVec 4) : W64 :=
  BitVec.ofNat 64 (i % 2 ^ 12 * 2 ^ 52 + gen % 2 ^ 24 * 2 ^ 28 + r.toNat * 2 ^ 24)

/-- Right to read. -/
def needR : BitVec 4 := 8
/-- Right to write. -/
def needW : BitVec 4 := 4
/-- Right to update atomically. -/
def needA : BitVec 4 := 2
/-- Right to fetch code. -/
def needX : BitVec 4 := 1

/-- A Cabinet entry at context creation (R163). -/
def CabEntry.reset : CabEntry := ⟨0, 0, .free, 0, 0, false, 0, 0, [], 0, .revoke, false, [], 0, []⟩

/-- Entry `i` of a context's Cabinet. -/
def State.cab (s : State) (ctx i : Nat) : CabEntry := SMap.get .reset (s.ctxAt ctx).cabinet i
/-- Changes an entry of a Cabinet. -/
def State.modCab (s : State) (ctx i : Nat) (f : CabEntry → CabEntry) : State :=
  s.modCtx ctx fun c => { c with cabinet := SMap.put c.cabinet i (f (SMap.get .reset c.cabinet i)) }

/-- The tests of CheckToken (R171) on an entry: the entry, or the cause of the failure. -/
def CabEntry.check (e : CabEntry) (t : W64) (off size : Nat) (need : BitVec 4) : Except CauseCode CabEntry :=
  if t.toNat % 2 ^ 24 ≠ 0 ∨ tokGen t = 0 then .error cStale
  else if e.state ≠ .live ∨ e.gen ≠ tokGen t then .error cStale
  else if need &&& ~~~(tokRights t &&& e.rights) ≠ 0 then .error cRights
  else if 2 ^ 40 ≤ off ∨ e.length.toNat < off + size then .error cBounds
  else .ok e

/-- The copy of an entry in the token cache of a core. -/
def Core.cachedEntry (c : Core) (ctx i : Nat) : Option CabEntry :=
  (c.tcache.find? fun p => p.1 = (ctx, i)).map (·.2)

/-- TokenCacheEntry of R171 on core `n`: the copy in its token cache, or the entry of the Cabinet on a miss. -/
def State.tokenEntry (s : State) (n ctx i : Nat) : CabEntry :=
  ((s.coreAt n).cachedEntry ctx i).getD (s.cab ctx i)

/-- CheckToken of R171 on core `n`, without the in-flight count.
Log 22: DESIGN CHOICE, unsafe. -/
def State.checkOn (s : State) (n ctx : Nat) (t : W64) (off size : Nat) (need : BitVec 4) :
    Except CauseCode CabEntry := (s.tokenEntry n ctx (tokIndex t)).check t off size need

/-- CheckToken on the issuing core. -/
def State.checkToken (s : State) (ctx : Nat) (t : W64) (off size : Nat) (need : BitVec 4) :
    Except CauseCode CabEntry := s.checkOn s.core ctx t off size need

/-- CheckToken of a unit that has no token cache: a launch front end, a home, the management complex. -/
def State.checkCab (s : State) (ctx : Nat) (t : W64) (off size : Nat) (need : BitVec 4) :
    Except CauseCode CabEntry := (s.cab ctx (tokIndex t)).check t off size need

/-- The key of a line lies in the frames of an entry. -/
def CabEntry.holdsKey (e : CabEntry) (own key : Nat) : Bool :=
  e.frames.any fun f =>
    !f.hole && (let k := cacheKey (if f.mode ≠ 0 ∧ f.peer ≠ own then some f.peer else none) (lineNo f.addr)
      k ≤ key && key < k + 2 ^ (f.bits - 7))

/-- The keys of the lines of a core's CACHE that hold stored bytes of the frames of an entry. -/
def Core.storedLines (c : Core) (own : Nat) (e : CabEntry) : List Nat :=
  (c.lines.filter fun p => p.2.cls ≠ 0 && p.2.dirty ≠ 0 && e.holdsKey own p.1).map (·.1)

/-- The stored bytes that a core holds of the frames of an entry go to their homes, as its copy of the entry goes: none
performs after a revocation of the entry (R173, R304).
Log 22: DESIGN CHOICE, unsafe. -/
def State.flushEntry (s : State) (n : Nat) (e : CabEntry) : State :=
  ((s.coreAt n).storedLines s.ownPeer e).foldl (fun s k => s.evict n k) s

/-- A use leaves a copy of a LIVE entry in the core's token cache, most recent first, at most 64 (R171).
Log 22: DESIGN CHOICE, unsafe. -/
def State.noteToken (s : State) (n ctx i : Nat) : State :=
  let e := s.tokenEntry n ctx i
  if e.state ≠ .live then s
  else
    let l := ((ctx, i), e) :: (s.coreAt n).tcache.filter (·.1 ≠ (ctx, i))
    ((l.drop 64).foldl (fun s p => s.flushEntry n p.2) s).modCore n fun c => { c with tcache := l.take 64 }

/-- The page of an extent that holds a virtual address (R168). -/
def CabEntry.frameAt (e : CabEntry) (va : Nat) : Option Frame :=
  e.frames.find? fun f => f.vpage ≤ va && va < f.vpage + 2 ^ f.bits

/-- The frame of bytes that no page holds. -/
def Frame.none : Frame := ⟨0, 16, true, 0, 0, false, false, 0, 0⟩

/-- The parts of `left` bytes from virtual address `va`, each in one line of one page. -/
def CabEntry.segs (e : CabEntry) (el : Nat) : Nat → Nat → Nat → Nat → List Seg
  | 0, _, _, _ => []
  | fuel + 1, va, pos, left =>
    if left = 0 then []
    else
      let n := min left (128 - va % 128)
      let f := (e.frameAt va).getD .none
      ⟨el, pos, n, f, f.addr + (va - f.vpage)⟩ :: e.segs el fuel (va + n) (pos + n) (left - n)

/-- The parts of the element at offset `o` of `n` bytes. -/
def CabEntry.elemSegs (e : CabEntry) (el o n : Nat) : List Seg :=
  e.segs el (n / 128 + 2) (e.vbase.toNat + o) 0 n

/-- The home of a page is on another chip (R177). -/
def State.isRemote (s : State) (f : Frame) : Bool :=
  !f.hole && f.mode != 0 && f.peer != s.ownPeer

/-- The core caches the lines of the page from its remote home (R177, R307). -/
def State.cachesRemote (s : State) (n : Nat) (f : Frame) : Bool :=
  s.isRemote f && f.mode == 2 && !f.bundle && (s.coreAt n).hasCache

/-! ### What a form accesses -/

/-- The kinds of request. -/
inductive MemKind where
  | load
  | store
  | vload
  | bcast
  | vstore
  | atomic (op : Nat)
  | sigadd
  | sigset
  | wback
  | inval
  | discard
  | rprobe
  deriving DecidableEq, Repr, Inhabited

/-- A memory form: its kind, token register, class, element size, extension, `.na`, the register or
queue of d, and the rights it needs. -/
structure MemOp where
  kind : MemKind
  k : Nat
  cls : Nat
  size : Nat
  sgn : Bool
  na : Bool
  d : Nat
  need : BitVec 4
  deriving DecidableEq, Repr, Inhabited

/-- The memory form of an FM word. -/
def fmMemOp (f : FM) (kind : MemKind) (need : BitVec 4) : MemOp :=
  ⟨kind, f.s1.toNat, f.cls.toNat, 2 ^ f.sz.toNat, f.sgn, f.hint == 1, f.d.toNat, need⟩
/-- The memory form of an indexed word. -/
def fxMemOp (f : FX) (kind : MemKind) (need : BitVec 4) : MemOp :=
  ⟨kind, f.s1.toNat, f.cls.toNat, 2 ^ f.sz.toNat, f.sgn, f.hint == 1, f.d.toNat, need⟩

/-- The memory form of an instruction that makes a request. -/
def memOpOf : Instr → Option MemOp
  | .lds f => some (fmMemOp f .load needR)
  | .sts f => some (fmMemOp f .store needW)
  | .ldacq f => some { fmMemOp f .load needR with na := false }
  | .strel f => some { fmMemOp f .store needW with na := false }
  | .vld f => some (fmMemOp f .vload needR)
  | .vlds f => some (fxMemOp f .vload needR)
  | .vldx f => some (fxMemOp f .vload needR)
  | .ldb f => some (fmMemOp f .bcast needR)
  | .vst f => some (fmMemOp f .vstore needW)
  | .vsts f => some (fxMemOp f .vstore needW)
  | .vstx f => some (fxMemOp f .vstore needW)
  | .aadd f => some { fxMemOp f (.atomic 0) needA with na := false }
  | .amin f => some { fxMemOp f (.atomic 1) needA with na := false }
  | .amax f => some { fxMemOp f (.atomic 2) needA with na := false }
  | .aminn f => some { fxMemOp f (.atomic 3) needA with na := false }
  | .amaxn f => some { fxMemOp f (.atomic 4) needA with na := false }
  | .aand f => some { fxMemOp f (.atomic 5) needA with na := false }
  | .aor f => some { fxMemOp f (.atomic 6) needA with na := false }
  | .axor f => some { fxMemOp f (.atomic 7) needA with na := false }
  | .aswap f => some { fxMemOp f (.atomic 8) needA with na := false }
  | .acas f => some { fxMemOp f (.atomic 9) needA with na := false }
  | .sigadd f => some (fmMemOp f .sigadd needA)
  | .sigset f => some (fmMemOp f .sigset needA)
  | .wback f => some { fmMemOp f .wback needR with size := 1 }
  | .inval f => some { fmMemOp f .inval needR with size := 1 }
  | .discard f => some { fmMemOp f .discard needW with size := 128 }
  | .rprobe f => some { fmMemOp f .rprobe needR with size := 0 }
  | _ => none

/-- The request counts as a store (R195, R345), otherwise as a load. -/
def MemKind.isStore : MemKind → Bool
  | .load => false
  | .vload => false
  | .bcast => false
  | .atomic _ => false
  | .rprobe => false
  | _ => true

/-- An element of a request: its index, offset and size. -/
structure Elem where
  idx : Nat
  off : Nat
  size : Nat
  deriving DecidableEq, Repr, Inhabited

/-- The offset of line-form operands and of scalar forms: base + off units (R127). -/
def fmOffset (f : FM) (base : W64) (unit : Nat) : Nat := memOffset base f.off.toInt unit
/-- The same in the indexed layout (R128). -/
def fxOffset (f : FX) (base : W64) (unit : Nat) : Nat := memOffset base f.off.toInt unit

/-- The lane-enable bit of element `j` of `sz` (R48, R210). -/
def laneEnabled (size : Nat) (en : W64) (j : Nat) : Bool := activeElem (8 * size) en j

/-- The elements of n = 256 / size that `en` selects, at the offsets that `o` gives. -/
def elemsOf (size : Nat) (en : Nat → Bool) (o : Nat → Nat) : List Elem :=
  ((List.range (256 / size)).filter en).map fun j => ⟨j, o j, size⟩

/-- Index `j` of an index entry (R210). -/
def indexAt (v : Vec) (sz j : Nat) : Nat := elem 32 v (if sz = 3 then 2 * j else j)

/-- The enabled elements of a request, in ascending order (R206, R209, R210, R214 to R217, R336,
R345). The offset of `discard` is fixed once the extent's base is known. -/
def Req.elems (r : Req) : List Elem :=
  let scalar : FM → Nat → List Elem := fun f size => [⟨0, fmOffset f r.base size, size⟩]
  let atom : FX → List Elem := fun f =>
    let size := 2 ^ f.sz.toNat
    [⟨0, fxOffset f r.base size, size⟩]
  match r.instr with
  | .lds f => scalar f (2 ^ f.sz.toNat)
  | .sts f => scalar f (2 ^ f.sz.toNat)
  | .ldacq f => scalar f (2 ^ f.sz.toNat)
  | .strel f => scalar f (2 ^ f.sz.toNat)
  | .sigadd f => scalar f 8
  | .sigset f => scalar f 8
  | .ldb f => scalar f (2 ^ f.sz.toNat)
  | .wback f => [⟨0, fmOffset f r.base 128, 1⟩]
  | .inval f => [⟨0, fmOffset f r.base 128, 1⟩]
  | .discard f => [⟨0, fmOffset f r.base 128, 128⟩]
  | .rprobe f => [⟨0, fmOffset f r.base 65536, 0⟩]
  | .vld f =>
    let size := 2 ^ f.sz.toNat
    elemsOf size (fun _ => true) fun j => fmOffset f r.base 256 + j * size
  | .vst f =>
    let size := 2 ^ f.sz.toNat
    elemsOf size (laneEnabled size r.data.enable) fun j => fmOffset f r.base 256 + j * size
  | .vlds f =>
    let size := 2 ^ f.sz.toNat
    elemsOf size (fun _ => true) fun j =>
      memOffset (BitVec.ofNat 64 (fxOffset f r.base size)) r.xval.toInt j
  | .vsts f =>
    let size := 2 ^ f.sz.toNat
    elemsOf size (laneEnabled size r.data.enable) fun j =>
      memOffset (BitVec.ofNat 64 (fxOffset f r.base size)) r.xval.toInt j
  | .vldx f =>
    let size := 2 ^ f.sz.toNat
    elemsOf size (laneEnabled size r.index.enable) fun j =>
      fxOffset f r.base size + indexAt r.index.data f.sz.toNat j * size
  | .vstx f =>
    let size := 2 ^ f.sz.toNat
    elemsOf size (fun j => laneEnabled size r.data.enable j && laneEnabled size r.index.enable j)
      fun j => fxOffset f r.base size + indexAt r.index.data f.sz.toNat j * size
  | .aadd f => atom f
  | .amin f => atom f
  | .amax f => atom f
  | .aminn f => atom f
  | .amaxn f => atom f
  | .aand f => atom f
  | .aor f => atom f
  | .axor f => atom f
  | .aswap f => atom f
  | .acas f => atom f
  | _ => []

/-- Atomics and signal updates, which need natural alignment and no B or Z page (R337, R345). -/
def MemKind.isAtomic : MemKind → Bool
  | .atomic _ => true
  | .sigadd => true
  | .sigset => true
  | _ => false

/-- The offset that a request's check uses: the whole line of `discard` starts at a multiple of 128 in virtual
address (R215). -/
def checkOffset (vb : Nat) (op : MemOp) (off : Nat) : Nat :=
  if op.kind = .discard then ((vb + off) / 128 * 128 + (2 ^ 64 - vb)) % 2 ^ 64 else off

/-- The check of one element on core `n` (R194): its parts, or the cause. -/
def State.checkElem (s : State) (n ctx : Nat) (t : W64) (op : MemOp) (e : Elem) :
    Except StopInfo (List Seg) :=
  let off := checkOffset (s.tokenEntry n ctx (tokIndex t)).vbase.toNat op e.off
  match s.checkOn n ctx t off e.size op.need with
  | .error c => .error ⟨c, 0⟩
  | .ok ent =>
    let segs := ent.elemSegs e.idx off e.size
    if op.kind.isAtomic ∧ (ent.vbase.toNat + off) % e.size ≠ 0 then .error ⟨cBounds, 0⟩
    else if (op.kind.isAtomic ∨ op.kind = .discard) ∧ segs.any (fun g => g.frame.bundle) then
      .error ⟨cBundle, 0⟩
    else if (op.kind.isAtomic ∨ op.kind = .discard) ∧ segs.any (fun g => g.frame.zpage) then
      .error ⟨cRights, 0⟩
    else match segs.find? fun g => s.isRemote g.frame && !s.hasRoute g.frame.peer with
      | some g => .error ⟨cPeer, g.frame.peer⟩
      | none => .ok segs

/-- The whole check of a request of core `n` with the token that it holds: every enabled element in ascending order
(R194). -/
def State.checkReq (s : State) (n : Nat) (op : MemOp) (r : Req) : Except StopInfo (List Seg) :=
  r.elems.foldl (fun acc e =>
    match acc with
    | .error x => .error x
    | .ok l => match s.checkElem n (s.coreAt n).ctx r.tok op e with
      | .error x => .error x
      | .ok g => .ok (l ++ g)) (.ok [])

/-- Changes a line that a core holds. -/
def Core.modLine (c : Core) (key : Nat) (f : CLine → CLine) : Core :=
  match SMap.find c.lines key with
  | some e => { c with lines := SMap.put c.lines key (f e) }
  | none => c

/-! ### Reading and writing the parts -/

/-- What one part of a read gives: its bytes as a number, whether it met a hole, an expired view, or
poison (R170, R197, R327, R402). -/
structure PartRead where
  val : Nat
  hole : Bool
  expired : Bool
  poisoned : Bool
  deriving DecidableEq, Repr, Inhabited

/-- The bytes of a part in its line. -/
def Seg.lineOff (g : Seg) : Nat := g.addr % 128

/-- The line a remote request has received for a part. -/
def gotLine (got : List GotLine) (peer l : Nat) : Option (BitVec 1024 × BitVec 4) :=
  (got.find? fun q => q.1 = peer && q.2.1 = l).map fun q => (q.2.2.1, q.2.2.2.setWidth 4)

/-- The view of a load had expired at the remote home of a line (R327). -/
def gotExpired (got : List GotLine) (peer l : Nat) : Bool :=
  got.any fun q => q.1 = peer && q.2.1 = l && q.2.2.2.getLsbD 4

/-- The name bound to a class (R324). -/
def Core.bound (c : Core) (cls : Nat) : Option Nat := SMap.find c.binds cls

/-- The view register of a load that issues (R326): sys.bview, or the copy of the running A chain. -/
def Core.viewReg (c : Core) (st : Stream) : W64 := if st = .a then c.aview else c.cont.bview

/-- Another core holds a copy of a line of a CP page: the page is cached by one core only (R306, R308).
Log 26: DESIGN CHOICE, safe. -/
def State.cpElsewhere (s : State) (n l : Nat) : Bool :=
  s.cores.any fun p => p.1 != n && (match SMap.find p.2.lines l with
    | some e => e.cls = 2
    | none => false)

/-- Reads a part for core `n` under a view register. `got` holds the remote lines that have arrived. -/
def State.readPart (s : State) (n : Nat) (view : W64) (cls : Nat) (na : Bool)
    (got : List GotLine) (g : Seg) : PartRead × State :=
  let l := lineNo g.addr
  let off := g.lineOff
  let c := s.coreAt n
  let give : BitVec 1024 → BitVec 4 → PartRead := fun d p =>
    ⟨lineBytes d off g.len, false, false, poisonHit p off g.len⟩
  if g.frame.hole then (⟨0, true, false, false⟩, s)
  else if g.frame.bundle && !s.isRemote g.frame then
    let s := s.settle l
    match (s.bLine l).visible (c.bound cls) (s.viewStamp view) with
    | some (d, p) => (give d p, s)
    | none => (⟨0, false, true, false⟩, s)
  else if s.isRemote g.frame then
    let key := cacheKey (some g.frame.peer) l
    match SMap.find c.lines key with
    | some e => (give e.data e.poison, s)
    | none =>
      match gotLine got g.frame.peer l with
      | some (d, p) =>
        if gotExpired got g.frame.peer l then (⟨0, false, true, false⟩, s)
        else
        (give d p, if s.cachesRemote n g.frame && !na then s.fillLine n key ⟨.s, d, 0, 1, p⟩ else s)
      | none => (⟨0, false, false, false⟩, s)
  else if g.frame.mode = 1 ∨ g.frame.mode = 3 then (give (s.homeLine l) (s.homePoison l), s)
  else if !c.hasCache then (give (s.homeLine l) (s.homePoison l), s)
  else match SMap.find c.lines l with
    | some e => (give e.data e.poison, s)
    | none =>
      if na ∨ (g.frame.cls = 0 ∧ s.watched l) ∨ (g.frame.cls = 2 ∧ s.cpElsewhere n l) then (give (s.homeLine l) (s.homePoison l), s)
      else if g.frame.cls = 0 then
        let s := s.rdS n l
        match SMap.find (s.coreAt n).lines l with
        | some e => (give e.data e.poison, s)
        | none => (give (s.homeLine l) (s.homePoison l), s)
      else
        let d := s.homeLine l
        let p := s.homePoison l
        (give d p, s.fillLine n l ⟨.s, d, 0, g.frame.cls, p⟩)

/-- Takes the next commit stamp when this chip is its group's sequencer (R322); otherwise one that the
sequencer has sent, if any. -/
def State.takeStamp (s : State) : Option (Nat × State) :=
  match s.homes.sequencer with
  | none =>
    some (s.homes.nextStamp, { s with homes := { s.homes with nextStamp := s.homes.nextStamp + 1 } })
  | some p =>
    if p = s.ownPeer then
      some (s.homes.nextStamp, { s with homes := { s.homes with nextStamp := s.homes.nextStamp + 1 } })
    else match s.homes.stamps with
      | t :: rest => some (t, { s with homes := { s.homes with stamps := rest } })
      | [] => none

/-- Broadcasts a commit notice to every chip of the group, this one included (R322). -/
def State.broadcastNotice (s : State) (name stamp : Nat) : State :=
  let s := s.fab.members.foldl (fun s p =>
    if p = s.ownPeer then s
    else s.send { s.packet 5 p 5 with body := [BitVec.ofNat 64 name, BitVec.ofNat 64 stamp] }) s
  s.hearNotice name stamp

/-- A single-line bundle commits on a line with the next stamp, and its notice goes out (R318, R322). -/
def State.commitNext (s : State) (l : Nat) (d : BitVec 1024) (m : BitVec 128) (p : BitVec 4) : State :=
  match s.takeStamp with
  | some (t, s) => (s.commitSingle l t d m p).broadcastNotice s.singleName t
  | none => s

/-- Stamps at hand that are not above `floor` can commit no line any more: their notices go out, so that every chip's
complete-through stamp passes over them (R322, R323). -/
def State.retireStamps (s : State) (floor : Nat) : State :=
  let old := s.homes.stamps.filter (· ≤ floor)
  let s : State := { s with homes := { s.homes with stamps := s.homes.stamps.filter fun t => floor < t } }
  old.foldl (fun s t => s.broadcastNotice s.singleName t) s

/-- `k` stamps above `floor` are at hand; the sequencer is asked for what is wanting, once until it answers (R318,
R322). -/
def State.stampsReady (s : State) (k floor : Nat) : Bool × State :=
  match s.homes.sequencer with
  | none => (true, s)
  | some p =>
    if p = s.ownPeer then (true, s)
    else
      let s := s.retireStamps floor
      if k ≤ s.homes.stamps.length then (true, s)
      else if s.homes.asked then (false, s)
      else (false, { (s.send { s.packet 6 p 6 with op := 3, body := [BitVec.ofNat 64 s.singleName] }) with
        homes := { s.homes with asked := true } })

/-- Lines of bundle pages may be written, all at once, by a bundle or outside one (R318): what has still to be heard
from other chips is asked for. -/
def State.linesReady (s : State) (bound : Option Nat) (lines : List Nat) : Bool × State :=
  let (ok, s) := lines.foldl (fun (acc : Bool × State) l =>
    let (b, s) := match bound with
      | some name => acc.2.bundleReady name l
      | none => acc.2.singleReady l
    (acc.1 && b, s)) (true, s)
  if !ok then (false, s)
  else if bound.isSome ∨ lines.isEmpty then (true, s)
  else s.stampsReady lines.length (lines.foldl (fun m l => max m (s.bLine l).newerStamp) 0)

/-- A line of a bundle page is written, after `linesReady` (R318). -/
def State.writeBundleLine (s : State) (bound : Option Nat) (l : Nat) (d : BitVec 1024) (m : BitVec 128) (p : BitVec 4) :
    State :=
  match bound with
  | some name => s.bundleStore name l d m p
  | none => s.commitNext l d m p

/-- The sectors that a mask covers whole (R402). -/
def coveredSectors (m : BitVec 128) : BitVec 4 :=
  BitVec.ofNat 4 ((List.range 4).foldl (fun acc i =>
    if m.extractLsb' (32 * i) 32 = BitVec.allOnes 32 then acc + 2 ^ i else acc) 0)

/-- A store's bytes merged into a copy (R307, R402).
Log 25: DEDUCED, unsafe. -/
def CLine.store (e : CLine) (d : BitVec 1024) (m : BitVec 128) : CLine :=
  { e with data := mergeLine e.data d m, dirty := e.dirty ||| m, poison := e.poison &&& ~~~(coveredSectors m) }

/-- Writes the masked bytes of a store to a line of a local page without B for core `n`: all that the store puts there, so
that a grain that it covers whole loses its poison (R402).
Log 25: DEDUCED, unsafe. -/
def State.writePart (s : State) (n : Nat) (na : Bool) (f : Frame) (l : Nat) (d : BitVec 1024) (m : BitVec 128) : State :=
  let c := s.coreAt n
  if f.mode = 1 ∨ f.mode = 3 ∨ !c.hasCache then s.homeWrite c.ctx l d m 0
  else if f.cls = 0 then
    -- a `.na` store merges a dirty line and writes it back, and writes a clean one through; both are invalidated
    if na ∨ s.watched l then s.homeWrite c.ctx l d m 0
    else
      let s := s.own n c.ctx l
      (s.modCore n fun c => c.modLine l fun e =>
        { e with data := mergeLine e.data d m, poison := e.poison &&& ~~~(coveredSectors m) })
  else
    match SMap.find c.lines l with
    | some e =>
      let e' := e.store d m
      if na then
        let s := s.modCore n fun c => c.dropLine l
        -- the whole line when it is dirty, otherwise the bytes of the store (R208)
        if e.dirty = 0 then s.homeWrite c.ctx l d m 0
        else s.homeWrite c.ctx l e'.data (BitVec.allOnes 128) e'.poison
      else s.modCore n fun c => { c with lines := SMap.put c.lines l e' }
    | none =>
      if na ∨ (f.cls = 2 ∧ s.cpElsewhere n l) then s.homeWrite c.ctx l d m 0
      else s.fillLine n l (CLine.store ⟨.s, s.homeLine l, 0, f.cls, s.homePoison l⟩ d m)

/-! ### Atomics and signals (R336, R345) -/

/-- The new value of an atomic of width w, and whether it writes (R336). -/
def atomicOp (op w old v e : Nat) : Nat × Bool :=
  let sg : Nat → Int := fun x => if 2 ^ (w - 1) ≤ x then (x : Int) - 2 ^ w else x
  if op = 0 then ((old + v) % 2 ^ w, true)
  else if op = 1 then (if sg v < sg old then v else old, true)
  else if op = 2 then (if sg old < sg v then v else old, true)
  else if op = 3 then (min old v, true)
  else if op = 4 then (max old v, true)
  else if op = 5 then (old &&& v, true)
  else if op = 6 then (old ||| v, true)
  else if op = 7 then (old ^^^ v, true)
  else if op = 8 then (v, true)
  else (v, old == e)

/-- SigAdd of R345. -/
def sigAdd (sig x : W64) : W64 :=
  let cause := if x.getLsbD 63 && !sig.getLsbD 63 then x.toNat / 2 ^ 56 % 128
    else sig.toNat / 2 ^ 56 % 128
  let err := natOfBool (sig.getLsbD 63 || x.getLsbD 63)
  BitVec.ofNat 64 (err * 2 ^ 63 + cause * 2 ^ 56 + (sig.toNat + x.toNat) % 2 ^ 56)

/-- SignalComplete of R287. -/
def sigComplete (sig : W64) (err : Bool) (cause : Nat) : W64 :=
  sigAdd sig (BitVec.ofNat 64 (natOfBool err * 2 ^ 63 + cause % 128 * 2 ^ 56 + 1))

/-- One read-modify-write of `size` bytes at the home of a line, on behalf of a context; the old value
and the state after. -/
def State.rmwHome (s : State) (ctx addr size : Nat) (fn : Nat → Nat × Bool) : Nat × State :=
  let l := lineNo addr
  let off := addr % 128
  let old := lineBytes (s.homeLine l) off size
  let (new, wr) := fn old
  (old, if wr then s.homeWrite ctx l (lineWith 0 off size new) (byteMask off size) 0 else s)

/-- The copies that a core holds of local SC and CP lines go home, before the core acts on the lines there (R338).
Log 20: DEDUCED, unsafe. -/
def State.evictParts (s : State) (n : Nat) (segs : List Seg) : State :=
  (segs.filter fun g => !g.frame.hole && g.frame.cls ≠ 0 && !s.isRemote g.frame).foldl (fun s g => s.evict n (lineNo g.addr)) s

/-- One read-modify-write of `size` bytes in a line at its place (R338), for a core and a context; the
old value and the state after. -/
def State.rmw (s : State) (n ctx : Nat) (f : Frame) (addr size : Nat) (fn : Nat → Nat × Bool) :
    Nat × State :=
  let l := lineNo addr
  let off := addr % 128
  let c := s.coreAt n
  if f.cls = 0 ∧ f.mode = 0 ∧ c.hasCache ∧ !s.watched l then
    let s := s.own n ctx l
    match SMap.find (s.coreAt n).lines l with
    | some e =>
      let old := lineBytes e.data off size
      let (new, wr) := fn old
      (old, if wr then
        s.modCore n fun c => c.modLine l fun e => { e with data := lineWith e.data off size new }
      else s)
    | none => (0, s)
  else
    -- an SC or CP page: the core's own copy is written back and invalidated first
    (if f.cls ≠ 0 then s.evict n l else s).rmwHome ctx addr size fn

/-! ### Performing a request -/

/-- The remote lines that a request still needs to read: parts of remote pages that no copy of the core
supplies (R177). -/
def State.readNeeds (s : State) (n : Nat) (segs : List Seg) : List (Nat × Nat) :=
  ((segs.filter fun g => s.isRemote g.frame &&
      (SMap.find (s.coreAt n).lines (cacheKey (some g.frame.peer) (lineNo g.addr))).isNone).map
    fun g => (g.frame.peer, lineNo g.addr)).eraseDups

/-- The sectors of a remote line that a request reads (R358): those of its parts, or all when the line enters the
core's CACHE. -/
def State.readSect (s : State) (n : Nat) (na : Bool) (segs : List Seg) (p : Nat × Nat) : Nat :=
  let mine := segs.filter fun g => g.frame.peer = p.1 && lineNo g.addr = p.2
  if mine.any fun g => s.cachesRemote n g.frame && !na then 15
  else sectorsOf (mine.foldl (fun m g => m ||| byteMask g.lineOff g.len) 0)

/-- The stream code of a packet's source (R357). -/
def strCode : Stream → Nat
  | .c => 0
  | _ => 1

/-- The header of a request packet of core `n`. -/
def State.reqPacket (s : State) (n : Nat) (st : Stream) (kind peer rq cls l : Nat) : Packet :=
  { s.packet kind peer rq with
    sdie := n / 32, score := n % 32, sstr := strCode st, cls := cls, line := l, sect := 15 }

/-- A view register as a packet carries it: without a stamp of its own, with the complete-through stamp of this chip at
this moment (R326). -/
def State.viewWord (s : State) (v : W64) : W64 :=
  if v.getLsbD 63 then v else BitVec.ofNat 64 (2 ^ 63 + s.homes.complete % 2 ^ 48)

/-- The word of a request packet that names its context: bit 16 is set for a B page (R324), and bit 17 for a MIGRATE page,
whose size stands in bits [23:18] (R177).
Log 57: DEDUCED, unsafe. -/
def pageWord (ctx : Nat) (f : Frame) : W64 :=
  BitVec.ofNat 64 (ctx + natOfBool f.bundle * 2 ^ 16 + (if f.mode = 3 then 2 ^ 17 + f.bits * 2 ^ 18 else 0))

/-- The bundle and view of a request as a packet carries them: the bound name or all ones, the view, and the context with
what its home must know of the page (R324, R326). A write's poison marks follow (R402). -/
def State.bundleBody (s : State) (n : Nat) (view : W64) (cls : Nat) (f : Frame) : List W64 :=
  let c := s.coreAt n
  [match c.bound cls with | some b => BitVec.ofNat 64 b | none => BitVec.allOnes 64, s.viewWord view,
   pageWord c.ctx f]

/-- The frame of the parts that lie in a line of a peer. -/
def frameOf (segs : List Seg) (peer l : Nat) : Frame :=
  ((segs.find? fun g => g.frame.peer = peer && lineNo g.addr = l).map (·.frame)).getD .none

/-- The sectors of a peer's line that parts touch (R358). -/
def segSect (segs : List Seg) (p : Nat × Nat) : Nat :=
  sectorsOf ((segs.filter fun g => g.frame.peer = p.1 && lineNo g.addr = p.2).foldl (fun m g =>
    m ||| byteMask g.lineOff g.len) 0)

/-- The read packets of the remote lines that a request needs (R358). -/
def State.readPackets (s : State) (n : Nat) (op : MemOp) (r : Req) (needs : List (Nat × Nat)) : List Packet :=
  needs.map fun p =>
    { s.reqPacket n r.str 0 p.1 1 op.cls p.2 with
      sect := s.readSect n op.na r.segs p, body := s.bundleBody n r.view op.cls (frameOf r.segs p.1 p.2) }

/-- Remote lines that follow each other at one home, two or more: one packet reads them at one point (R30, R258).
Log 20: DEDUCED, unsafe. -/
def oneRun (l : List (Nat × Nat)) : Bool :=
  match l with
  | p :: q :: t => (q :: t).zipIdx.all fun x => x.1 = (p.1, p.2 + x.2 + 1)
  | _ => false

/-- A read packet that asks for `n` lines from its own on, whole; its home reads them all at one point.
Log 20: DEDUCED, unsafe. -/
def packetLines (p : Packet) (n : Nat) : Packet :=
  { p with sect := 15, body := p.body ++ List.replicate (4 - p.body.length) 0 ++ [BitVec.ofNat 64 (n - 1)] }

/-- The data operand of a scalar store, signal or atomic form. -/
def Req.operand (r : Req) : Nat := r.xval.toNat

/-- Element `j` of a store's data. -/
def Req.elemData (r : Req) (op : MemOp) (j : Nat) : Nat :=
  match op.kind with
  | .vstore => elem (8 * op.size) r.data.data j
  | _ => r.operand % 2 ^ (8 * op.size)

/-- The bytes of a store's part. -/
def Req.partData (r : Req) (op : MemOp) (g : Seg) : Nat := r.elemData op g.elem / 2 ^ (8 * g.pos)

/-- The parts of a store of core `n` that go to a remote home at once: not those that its CACHE holds
(R307), unless `.na` (R208). -/
def State.through (s : State) (n : Nat) (op : MemOp) (segs : List Seg) : List Seg :=
  segs.filter fun g => s.isRemote g.frame && (op.na || !s.cachesRemote n g.frame)

/-- The parts of a store that the CACHE of core `n` holds for a remote home. -/
def State.heldParts (s : State) (n : Nat) (op : MemOp) (segs : List Seg) : List Seg :=
  segs.filter fun g => s.isRemote g.frame && !op.na && s.cachesRemote n g.frame

/-- The parts of one line joined: the bytes that a store puts there, later elements over earlier ones (R211). -/
def Req.joined (r : Req) (op : MemOp) (mine : List Seg) (d0 : BitVec 1024) (m0 : BitVec 128) : BitVec 1024 × BitVec 128 :=
  mine.foldl (fun acc g =>
    (lineWith acc.1 g.lineOff g.len (r.partData op g), acc.2 ||| byteMask g.lineOff g.len)) (d0, m0)

/-- The write packets of parts of a store, one per line (R211, R358). With a dirty copy of the line, the whole line goes
(R208). -/
def State.writePackets (s : State) (n : Nat) (st : Stream) (op : MemOp) (r : Req) (segs : List Seg) :
    List Packet :=
  let lines := (segs.map fun g => (g.frame.peer, lineNo g.addr)).eraseDups
  lines.map fun pl =>
    let mine := segs.filter fun g => g.frame.peer = pl.1 && lineNo g.addr = pl.2
    let (d0, m0, p0) := match SMap.find (s.coreAt n).lines (cacheKey (some pl.1) pl.2) with
      | some e => (e.data, if e.dirty = 0 then 0 else BitVec.allOnes 128, e.poison)
      | none => (0, 0, 0)
    let (d, m) := r.joined op mine d0 m0
    let covered := coveredSectors (r.joined op mine 0 0).2
    { s.reqPacket n st 1 pl.1 2 op.cls pl.2 with
      sect := sectorsOf m, mask := m, data := d,
      body := s.bundleBody n r.view op.cls (frameOf segs pl.1 pl.2) ++ [(p0 &&& ~~~covered).setWidth 64] }

/-- The frames and lines of parts, each once. -/
def linesOf (segs : List Seg) : List (Frame × Nat) := (segs.map fun g => (g.frame, lineNo g.addr)).eraseDups

/-- The parts of a store that it writes together: those of one line (R402); each part alone when pages of the extent share
a line, so that the highest-numbered element comes last (R211). -/
def storeGroups (segs : List Seg) : List (Frame × Nat × List Seg) :=
  let lines := linesOf segs
  if lines.length = ((segs.map fun g => (g.frame.peer, lineNo g.addr)).eraseDups).length then
    lines.map fun p => (p.1, p.2, segs.filter fun g => g.frame = p.1 && lineNo g.addr = p.2)
  else segs.map fun g => (g.frame, lineNo g.addr, [g])

/-- Merges parts of a store into the core's copy of a remote line, which `got` supplies when it is not held. -/
def State.storeHeld (s : State) (n : Nat) (op : MemOp) (r : Req) (f : Frame) (l : Nat) (mine : List Seg) : State :=
  let key := cacheKey (some f.peer) l
  let (d, m) := r.joined op mine 0 0
  let s := if (SMap.find (s.coreAt n).lines key).isSome then s
    else match gotLine r.got f.peer l with
      | some (v, p) => s.fillLine n key ⟨.s, v, 0, 1, p⟩
      | none => s
  s.modCore n fun c => c.modLine key fun e => e.store d m

/-- The next request ID towards a peer from a die (R340). -/
def State.takeId (s : State) (die peer : Nat) : Nat × State :=
  let key := die * 4096 + peer
  let id := SMap.get 0 s.fab.nextId key
  (id, { s with fab := { s.fab with nextId := SMap.put s.fab.nextId key ((id + 1) % 2 ^ 16) } })

/-- Sends a numbered request and keeps it for retransmission (R340). -/
def State.sendNumbered (s : State) (p : Packet) (tag : List Nat) : State :=
  { (s.send p) with fab := { (s.send p).fab with
      outstanding := s.fab.outstanding ++ [⟨p, 0, tag⟩] } }

/-- What performing a request came to: it has performed (with the value for d, and the flags hole,
expired and poisoned); it fails with a cause; it waits for remote answers; or it must be tried
again. -/
inductive Perform where
  | done (s : State) (value : Nat) (hole expired poisoned : Bool)
  | fail (c : StopInfo)
  | wait (s : State) (r : Req)
  | retry (s : State)

/-- The page range of a list that holds an address. -/
def inRange (l : List (Nat × Nat × Nat)) (a : Nat) : Option Nat :=
  (l.find? fun q => q.1 ≤ a && a < q.1 + q.2.1).map fun q => q.2.2

/-- A page that has moved, or whose class has changed, answers MOVED (R179, R314). -/
def State.movedPart (s : State) (g : Seg) : Bool :=
  !g.frame.hole && !s.isRemote g.frame &&
    ((inRange s.homes.moved g.addr).isSome ||
      (match inRange s.homes.pageClass g.addr with
        | some c => c != g.frame.cls
        | none => false))

/-- An access of an address that R13 gives no memory.
Log 69: DEDUCED, safe. -/
def State.unmappedPart (s : State) (g : Seg) : Bool :=
  !g.frame.hole && !s.isRemote g.frame && !isMapped g.addr

/-- Reads every part; the parts of each element are joined (R170, R211). -/
def State.readParts (s : State) (n : Nat) (op : MemOp) (r : Req) : State × List (Seg × PartRead) :=
  r.segs.foldl (fun acc g =>
    let (p, s) := acc.1.readPart n r.view op.cls op.na r.got g
    (s, acc.2 ++ [(g, p)])) (s, [])

/-- The value of an element from its parts: zero when the view of one of them has expired (R197). -/
def elemVal (ps : List (Seg × PartRead)) (j : Nat) : Nat :=
  let mine := ps.filter fun p => p.1.elem = j
  if mine.any fun p => p.2.expired then 0
  else mine.foldl (fun acc p => acc + p.2.val * 2 ^ (8 * p.1.pos)) 0

/-- The flags of a vector load: the lanes of the elements that `sel` marks (R197). -/
def laneFlags (size : Nat) (ps : List (Seg × PartRead)) (sel : PartRead → Bool) : W64 :=
  BitVec.ofNat 64 (((ps.filter fun p => sel p.2).flatMap fun p =>
    if size = 8 then [2 * p.1.elem, 2 * p.1.elem + 1] else [size * p.1.elem / 4]).eraseDups.foldl
      (fun acc i => acc ||| 2 ^ i) 0)

/-- The lines of local bundle pages that a store writes. -/
def State.bundleLines (s : State) (segs : List Seg) : List Nat :=
  ((segs.filter fun g => g.frame.bundle && !s.isRemote g.frame).map fun g => lineNo g.addr).eraseDups

/-- Writes the local parts, those of each line as one (R211, R318, R402). -/
def State.writeParts (s : State) (n : Nat) (op : MemOp) (r : Req) (segs : List Seg) : State :=
  let own := segs.filter fun g => !s.isRemote g.frame && !g.frame.hole
  (storeGroups own).foldl (fun t p =>
    let (d, m) := r.joined op p.2.2 0 0
    if p.1.bundle then t.writeBundleLine ((s.coreAt n).bound op.cls) p.2.1 d m 0
    else t.writePart n op.na p.1 p.2.1 d m) s

/-- Sign extension of the low `size` bytes. -/
def extend (sgn : Bool) (size v : Nat) : W64 :=
  if sgn && bitOf v (8 * size - 1) then BitVec.ofInt 64 ((v : Int) - (2 ^ (8 * size) : Nat))
  else BitVec.ofNat 64 v

/-- The word of `rprobe` (R217): bit i for byte o + i * 65,536 in a hole below the length. -/
def rprobeWord (e : CabEntry) (o : Nat) : W64 :=
  BitVec.ofNat 64 ((List.range 64).foldl (fun acc i =>
    let q := o + i * 65536
    let hole := match e.frameAt (e.vbase.toNat + q) with
      | some f => f.hole
      | none => false
    if q < e.length.toNat && hole then acc + 2 ^ i else acc) 0)

/-- A reconfiguration holds new remote requests at their source (R367). -/
def State.holdsRemote (s : State) (n : Nat) (op : MemOp) (r : Req) : Bool :=
  let isRead := op.kind = .load ∨ op.kind = .vload ∨ op.kind = .bcast
  s.fab.reconf != .run && !r.sent && r.got.isEmpty && r.result.isNone && r.segs.any (fun g => s.isRemote g.frame) &&
    !(isRead && (s.readNeeds n r.segs).isEmpty)

/-- The numbered requests of a die that a peer has not answered fill their window (R340). -/
def State.windowFull (s : State) (die peer : Nat) : Bool :=
  64 ≤ (s.fab.outstanding.filter fun q => q.packet.dst = peer && q.packet.sdie = die && q.packet.rq = 3).length

/-- The packet that writes the dirty bytes of a copy of a remote line back and whose answer is awaited (R214). -/
def State.backPacketOf (s : State) (n : Nat) (st : Stream) (op : MemOp) (g : Seg) (e : CLine) : Packet :=
  { s.reqPacket n st 1 g.frame.peer 2 op.cls (lineNo g.addr) with
    sect := sectorsOf e.dirty, mask := e.dirty, data := e.data,
    body := s.bundleBody n 0 op.cls g.frame ++ [e.poison.setWidth 64] }

/-- Sends such a packet; the copy is clean from then on, and dirty again if the packet is handed back. -/
def State.sendBack (s : State) (n : Nat) (st : Stream) (op : MemOp) (g : Seg) (e : CLine) : State :=
  (s.modCore n fun c => c.modLine (cacheKey (some g.frame.peer) (lineNo g.addr)) fun e => { e with dirty := 0 }).send
    (s.backPacketOf n st op g e)

/-- The core gives up its copies of the lines that a `.na` store has written through, once their home has acknowledged
(R208). -/
def State.dropThrough (s : State) (n : Nat) (segs : List Seg) : State :=
  segs.foldl (fun s g => s.evict n (cacheKey (some g.frame.peer) (lineNo g.addr))) s

/-- A load performs: every remote line that it needs has arrived. -/
def State.performRead (s : State) (n : Nat) (op : MemOp) (r : Req) : Perform :=
  let needs := (s.readNeeds n r.segs).filter fun p => (gotLine r.got p.1 p.2).isNone
  if !needs.isEmpty then
    .wait ((s.readPackets n op r needs).foldl State.send s) { r with await := needs, sent := true }
  else
    let (s, ps) := s.readParts n op r
    let hole := ps.any fun p => p.2.hole
    let exp := ps.any fun p => p.2.expired
    let poi := ps.any fun p => p.2.poisoned
    if op.kind = .load then .done s (elemVal ps 0) hole exp poi
    else if poi then .fail ⟨cPoison, 0⟩
    else
      let w := 8 * op.size
      let v := if op.kind = .bcast then ofElems w (elemCount w) fun _ => elemVal ps 0
        else ofElems w (elemCount w) (elemVal ps)
      let fl : (PartRead → Bool) → W64 := fun sel =>
        if op.kind = .bcast then (if ps.any fun p => sel p.2 then BitVec.allOnes 64 else 0)
        else laneFlags op.size ps sel
      let e : LqEntry := ⟨true, v, fl (·.hole), fl (·.expired), false⟩
      let s := s.modCore n fun c =>
        { c with lq := SMap.put c.lq op.d ((c.loadQ op.d).set r.slot e) }
      .done s 0 false false false

/-- A store performs: in the copies that the core holds, at homes of this module, and by packets at remote homes. One to a B
page belongs to the bundle that its class is bound to as it performs (R324).
Log 42: DEDUCED, unsafe. -/
def State.performWrite (s : State) (n : Nat) (op : MemOp) (r : Req) : Perform :=
  let held := s.heldParts n op r.segs
  let thru := s.through n op r.segs
  let needs := (s.readNeeds n held).filter fun p => (gotLine r.got p.1 p.2).isNone
  if r.sent ∧ !thru.isEmpty then .done (s.dropThrough n thru) 0 false false false
  else if !needs.isEmpty then
    .wait ((s.readPackets n op r needs).foldl State.send s) { r with await := needs }
  else
    let (ok, s) := s.linesReady ((s.coreAt n).bound op.cls) (s.bundleLines r.segs)
    if !ok then .retry s
    else
      let ps := s.writePackets n r.str op r thru
      let s := s.writeParts n op r r.segs
      let s := (storeGroups held).foldl (fun s p => s.storeHeld n op r p.1 p.2.1 p.2.2) s
      -- a copy that goes with its packet holds what the packet holds, and is clean unless the packet is handed back
      let s := ps.foldl (fun s p =>
        (s.modCore n fun c => c.modLine (cacheKey (some p.dst) p.line) fun e =>
          { e with data := mergeLine e.data p.data p.mask, dirty := 0 }).send p) s
      if thru.isEmpty then .done s 0 false false false
      else .wait s { r with sent := true, await := ps.map fun p => (p.dst, p.line) }

/-- An atomic or a signal update at a remote home (R338, R340, R345): a copy of the line that the core holds is written
back and given up first; the request is numbered, and keeps its number while it is unresolved (R343). -/
def State.performNumbered (s : State) (n : Nat) (op : MemOp) (r : Req) (g : Seg) : Perform :=
  let l := lineNo g.addr
  let key := cacheKey (some g.frame.peer) l
  let x := r.operand % 2 ^ (8 * op.size)
  let e := r.data.data.toNat % 2 ^ (8 * op.size)
  match r.result with
  | some v => .done s v.toNat false false (8 ≤ r.status)
  | none =>
    match (SMap.find (s.coreAt n).lines key).filter fun c => c.dirty ≠ 0 with
    | some c => .wait (s.sendBack n r.str op g c) { r with await := [(g.frame.peer, l)] }
    | none =>
      if r.id.isNone ∧ s.windowFull (n / 32) g.frame.peer then .retry s
      else
        let s := s.modCore n fun c => c.dropLine key
        let (id, s) := match r.id with
          | some id => (id, s)
          | none => s.takeId (n / 32) g.frame.peer
        let code := match op.kind with | .atomic k => k | .sigadd => 10 | _ => 11
        let kind := match op.kind with | .atomic _ => 2 | _ => 3
        let p := { s.reqPacket n r.str kind g.frame.peer 3 op.cls l with
          id := id, op := code + 16 * op.size,
          body := [BitVec.ofNat 64 g.lineOff, BitVec.ofNat 64 x, BitVec.ofNat 64 e, pageWord (s.coreAt n).ctx g.frame] }
        .wait (s.sendNumbered p [])
          { r with sent := true, await := [(g.frame.peer, l)], id := some id, idDie := n / 32, peer := g.frame.peer }

/-- An atomic or a signal update at a home of this module (R336, R338, R345). A request of A that meets poison stops and
changes nothing (R191, R402). -/
def State.performAtomic (s : State) (n : Nat) (op : MemOp) (r : Req) (g : Seg) : Perform :=
  let x := r.operand % 2 ^ (8 * op.size)
  let e := r.data.data.toNat % 2 ^ (8 * op.size)
  let fn : Nat → Nat × Bool := fun old => match op.kind with
    | .atomic k => atomicOp k (8 * op.size) old x e
    | .sigadd => ((sigAdd (BitVec.ofNat 64 old) (BitVec.ofNat 64 x)).toNat, true)
    | _ => (x, true)
  let poi := poisonHit ((s.evictParts n [g]).homePoison (lineNo g.addr)) g.lineOff op.size
  if poi ∧ r.str = .a then .fail ⟨cPoison, 0⟩
  else
    let (old, s) := s.rmw n (s.coreAt n).ctx g.frame g.addr op.size fn
    .done s old false false poi

/-- `wback` and `inval` (R214): the dirty bytes of the core's copy reach the home, and `inval` gives the copy up. -/
def State.performClean (s : State) (n : Nat) (op : MemOp) (r : Req) (g : Seg) : Perform :=
  let remote := s.isRemote g.frame
  let l := lineNo g.addr
  let key := if remote then cacheKey (some g.frame.peer) l else l
  let out : State → State := fun s => if op.kind = .inval then s.modCore n fun c => c.dropLine key else s
  match if g.frame.hole then none else SMap.find (s.coreAt n).lines key with
  | none => .done s 0 false false false
  | some e =>
    if remote then
      if e.dirty ≠ 0 ∧ (!r.sent ∨ op.kind = .inval) then
        .wait (s.sendBack n r.str op g e) { r with sent := true, await := [(g.frame.peer, l)] }
      else .done (out s) 0 false false false
    else if e.cls = 0 then .done s 0 false false false
    else .done (out ((s.writeBack n key).modCore n fun c => c.modLine key fun e => { e with dirty := 0 })) 0
      false false false

/-- `discard` (R215): the line becomes zero at its home, and copies are given up without being written back. -/
def State.performDiscard (s : State) (n : Nat) (op : MemOp) (r : Req) (g : Seg) : Perform :=
  let l := lineNo g.addr
  if s.isRemote g.frame then
    if r.sent then
      .done (s.modCore n fun c => c.dropLine (cacheKey (some g.frame.peer) l)) 0 false false false
    else
      let p := { s.reqPacket n r.str 1 g.frame.peer 2 op.cls l with
        mask := BitVec.allOnes 128, data := 0, body := s.bundleBody n r.view op.cls g.frame ++ [0] }
      .wait (s.send p) { r with sent := true, await := [(g.frame.peer, l)] }
  else
    let s := (s.logOwner l).logLine (s.coreAt n).ctx l
    let s := if g.frame.cls = 0 then s.dropCopies l none else s.modCore n fun c => c.dropLine l
    .done (((s.putLine l 0 (BitVec.allOnes 128) 0).testWaiters l).wakeBound l (BitVec.allOnes 128)) 0 false false false

/-- Bytes that the core has stored to a line of a request are still on their way to its remote home: an access of the
core waits for them (R300).
Log 24: DESIGN CHOICE, unsafe. -/
def State.followsWrite (s : State) (n : Nat) (r : Req) : Bool :=
  !r.sent && r.segs.any fun g => s.isRemote g.frame && s.lineLeaving n (cacheKey (some g.frame.peer) (lineNo g.addr))

/-- Performs a checked request of core `n` that awaits no answer (R172, R197, R206 to R217, R337, R345). -/
def State.perform (s : State) (n : Nat) (op : MemOp) (r : Req) : Perform :=
  if r.segs.any s.movedPart then .fail ⟨cStale, 0⟩
  else if r.data.poison || r.index.poison then .fail ⟨cPoison, 0⟩
  else if s.holdsRemote n op r || s.followsWrite n r then .retry s
  else
    let first : (Seg → Perform) → Perform := fun f => match r.segs with
      | [] => .done s 0 false false false
      | g :: _ => f g
    match op.kind with
    | .load | .vload | .bcast => s.performRead n op r
    | .store | .vstore => s.performWrite n op r
    | .atomic _ | .sigadd | .sigset =>
      first fun g => if s.isRemote g.frame then s.performNumbered n op r g else s.performAtomic n op r g
    | .wback | .inval => first (s.performClean n op r)
    | .discard => first (s.performDiscard n op r)
    | .rprobe =>
      let o := (r.elems.map (·.off)).headD 0
      .done s (rprobeWord (s.tokenEntry n (s.coreAt n).ctx r.tokIndex) o).toNat false false false

end Sys2Proof.Machine
end

