-- ==== Sys2Proof/Machine/Local.lean ====
section
/-! DEFINITION. The typed buffers of a core (R180, R183, R184): buffer addresses, rights, reading and
writing, and the poison of their words (R401, R402). -/

namespace Sys2Proof.Machine

open Host (Outcome)

/-- The bytes of a bank (R183). -/
def bankBytes : Nat := 98304

/-- The size of buffer `b` (1 SPAD, 2 WBUF, 3 ABUF, 4 CBUF) in bytes (R183). -/
def Core.bufSize (c : Core) (b : Nat) : Nat := (c.banksOf b).length * bankBytes

/-- Where byte `a` of a buffer lies in the local memory (R183). -/
def Core.bufAddr (c : Core) (b a : Nat) : Nat :=
  ((c.banksOf b).getD (a / bankBytes) 0) * bankBytes + a % bankBytes

/-- The bytes [a, a + n) lie in the buffer (R183). -/
def Core.inBuf (c : Core) (b a n : Nat) : Bool := a + n ≤ c.bufSize b

/-- `n` bytes of a buffer from `a`. -/
def Core.bufBytes (c : Core) (b a n : Nat) : List Byte :=
  (List.range n).map fun i => Memory.read c.localMem (c.bufAddr b (a + i))

/-- `n` bytes of a buffer from `a`, as a number. -/
def Core.bufNat (c : Core) (b a n : Nat) : Nat := natOfBytes (c.bufBytes b a n)

/-- Some word of the bytes [a, a + n) of a buffer is poisoned (R401). -/
def Core.bufPoison (c : Core) (b a n : Nat) : Bool :=
  !c.localPoison.isEmpty &&
    (List.range n).any fun i => c.localPoison.contains (c.bufAddr b (a + i) / 8)

/-- Writes bytes into a buffer from `a`, those that `en` selects; a word that is written whole loses its
poison (R402). -/
def Core.bufWriteSel (c : Core) (b a : Nat) (l : List Byte) (en : Nat → Bool) : Core :=
  let idx := (List.range l.length).filter en
  let mem := idx.foldl (fun (m : Memory) i => Memory.write m (c.bufAddr b (a + i)) (l.getD i 0))
    c.localMem
  let poi := if c.localPoison.isEmpty then []
    else
      let at_ := idx.map fun i => c.bufAddr b (a + i)
      c.localPoison.filter fun w => !((List.range 8).all fun i => at_.contains (8 * w + i))
  { c with localMem := mem, localPoison := poi }

/-- Writes bytes into a buffer from `a`. -/
def Core.bufWrite (c : Core) (b a : Nat) (l : List Byte) : Core := c.bufWriteSel b a l fun _ => true

/-- Writes the low `n` bytes of a number into a buffer. -/
def Core.bufWriteNat (c : Core) (b a n v : Nat) : Core := c.bufWrite b a (bytesOf n v)

/-- Marks the words of the bytes [a, a + n) of a buffer as poisoned. -/
def Core.bufTaint (c : Core) (b a n : Nat) : Core :=
  { c with localPoison :=
      (c.localPoison ++ (List.range n).map fun i => c.bufAddr b (a + i) / 8).eraseDups }

/-- A stream may read buffer `b` (R184). -/
def mayReadBuf (st : Stream) (b : Nat) : Bool :=
  match st with
  | .c => b = 1
  | .a => b = 1 || b = 3 || b = 4
  | .x => false

/-- A stream may write buffer `b` (R184). -/
def mayWriteBuf (st : Stream) (b : Nat) : Bool :=
  match st with
  | .c => b = 1
  | .a => b = 1 || b = 4
  | .x => false

/-- A vector from 256 bytes. -/
def vecOfBytes (l : List Byte) : Vec := BitVec.ofNat 2048 (natOfBytes l)

/-- The bytes of a vector. -/
def vecBytes (v : Vec) : List Byte := bytesOf 256 v.toNat

/-- A queue slot that is filled with plain data. -/
def LqEntry.plain (v : Vec) : LqEntry := ⟨true, v, 0, 0, false⟩

/-- Appends a slot to a load queue. -/
def Core.pushLq (c : Core) (n : Nat) (e : LqEntry) : Core :=
  { c with lq := SMap.put c.lq n (c.loadQ n ++ [e]) }

/-- Takes the head of a store queue away. -/
def Core.popSq (c : Core) (n : Nat) : Core := { c with sq := SMap.put c.sq n (c.storeQ n).tail }

end Sys2Proof.Machine
end

