-- ==== Sys2Proof/Machine/Request.lean ====
section
/-! DEFINITION. The life of a memory request (R172, R190 to R194): its counters, its issue by C and by
A, its completion, its stop at a queue head, and the answers that a home sends for it. -/

namespace Sys2Proof.Machine

open Host (Outcome)

/-! ### Events and their orders (R290 to R294) -/

/-- An event of a stream as the orders see it: its class, whether it is a load or an atomic, whether it is a store or an
atomic, and whether it acquires or releases. -/
structure EventKind where
  cls : Nat
  load : Bool
  store : Bool
  acq : Bool
  rel : Bool
  deriving DecidableEq, Repr, Inhabited

/-- The hint of an atomic: bit 0 `.acq`, bit 1 `.rel` (R339).
Log 18: DEDUCED, unsafe. -/
def atomicHint : Instr → BitVec 2
  | .aadd f | .amin f | .amax f | .aminn f | .amaxn f | .aand f | .aor f | .axor f | .aswap f | .acas f => f.hint
  | _ => 0

/-- The event of a form that accesses memory or a buffer.
Log 18: DEDUCED, unsafe. -/
def eventOf (i : Instr) : Option EventKind :=
  match i with
  | .lld f => some ⟨f.cls.toNat, true, false, false, false⟩
  | .vlld f => some ⟨f.cls.toNat, true, false, false, false⟩
  | .lst f => some ⟨f.cls.toNat, false, true, false, false⟩
  | .vlst f => some ⟨f.cls.toNat, false, true, false, false⟩
  | .ldacq f => some ⟨f.cls.toNat, true, false, true, false⟩
  | .strel f => some ⟨f.cls.toNat, false, true, false, true⟩
  | .sigadd f => some ⟨f.cls.toNat, false, true, false, true⟩
  | .sigset f => some ⟨f.cls.toNat, false, true, false, true⟩
  | _ => (memOpOf i).map fun op =>
    ⟨op.cls, !op.kind.isStore || op.kind.isAtomic, op.kind.isStore || op.kind.isAtomic, (atomicHint i).getLsbD 0,
      (atomicHint i).getLsbD 1⟩

/-- The class mask and the kind of a `fence` (R344). -/
def fenceOf : Instr → Option (Nat × Nat)
  | .fence f => some (f.imm.toNat % 2 ^ 16, f.imm.toNat / 2 ^ 16 % 4)
  | _ => none

/-- A fence orders its later events after this earlier one (R294). -/
def fenceAfter (mask kind : Nat) (e : EventKind) : Bool := bitOf mask e.cls && (kind != 0 || e.load)
/-- A fence orders this later event after its earlier ones (R294). -/
def fenceBefore (mask kind : Nat) (l : EventKind) : Bool := bitOf mask l.cls && (kind != 1 || l.store)

/-- An earlier event of a stream performs before a later one (R291, R293). -/
def EventKind.before (e l : EventKind) : Bool := e.acq || l.rel || e.cls == l.cls

/-- A home has parked the wait of a C that has frozen at it (R347, R373): nothing of it is outstanding. -/
def Req.kept (r : Req) : Bool :=
  r.sent && r.await.isEmpty && (match r.instr with | .sigwait _ => true | .await _ => true | _ => false)

/-- What stands in a core's list holds a later event of its stream back: a request that performs before it, or a fence that
orders it (R291 to R294). -/
def Req.holdsBack (r : Req) (l : EventKind) : Bool :=
  match fenceOf r.instr with
  | some (m, k) => fenceBefore m k l
  | none => match eventOf r.instr with
    | some e => e.before l
    | none => true

/-- A fence leaves the list once no earlier event that it orders is outstanding. -/
def pruneFences (l : List Req) : List Req :=
  l.foldl (fun acc r => match fenceOf r.instr with
    | none => acc ++ [r]
    | some (m, k) =>
      if acc.any fun q => q.str = r.str && (match eventOf q.instr with | some e => fenceAfter m k e | none => false) then
        acc ++ [r]
      else acc) []

/-- Takes a request that has performed away. -/
def Core.dropReq (c : Core) (num : Nat) : Core := { c with reqs := pruneFences (c.reqs.filter fun r => r.num ≠ num) }

/-- Puts a request back. -/
def Core.putReq (c : Core) (r : Req) : Core := { c with reqs := c.reqs.map fun q => if q.num = r.num then r else q }

/-! ### Counters (R190) -/

/-- The kind of a request that a counter counts. -/
def Req.kind? (r : Req) : Option MemKind := (memOpOf r.instr).map (·.kind)

/-- The loads counter of a stream: its loads and atomics that have not performed. -/
def Core.loads (c : Core) (st : Stream) : Nat :=
  (c.reqs.filter fun r => r.str = st && (r.kind?.any fun k => !k.isStore)).length

/-- The stores counter of a stream. -/
def Core.stores (c : Core) (st : Stream) : Nat :=
  (c.reqs.filter fun r => r.str = st && r.kind?.any MemKind.isStore).length

/-- An issue would take the counter of the form past its maximum. -/
def Core.counterFull (c : Core) (st : Stream) (k : MemKind) : Bool :=
  if k.isStore then 32 ≤ c.stores st else 64 ≤ c.loads st

/-- A stream is quiescent (R102): idle, with no load or store outstanding. -/
def Core.quiescent (c : Core) (st : Stream) : Bool :=
  (!(c.stream st).started || (c.stream st).finished) && c.loads st = 0 && c.stores st = 0

/-- A local access of the issuing stream performs at issue when its counter has room (R190, R195) and nothing of its stream
has still to perform before it (R291, R293, R294); until then the stream stalls.
Log 20: DEDUCED, unsafe. -/
def State.localReady (s : State) (i : Instr) : Bool :=
  match eventOf i with
  | none => true
  | some e =>
    !(s.cur.counterFull s.str (if e.store then .store else .load)) &&
      !(s.cur.reqs.any fun r => r.str = s.str && r.holdsBack e)

/-! ### In-flight counts (R172) -/

/-- Adds to or takes from the in-flight count of an entry. -/
def State.flight (s : State) (ctx i : Nat) (up : Bool) : State :=
  s.modCab ctx i fun e => { e with inflight := if up then e.inflight + 1 else e.inflight - 1 }

/-- A request holds an in-flight count once it is checked: it has checked an element of at least one byte (R171). -/
def Req.counts (r : Req) : Bool :=
  match memOpOf r.instr with
  | some _ => r.elems.any fun e => e.size ≠ 0
  | none => true

/-- Adds to or takes from the in-flight count of a request's entry, when the request holds one. -/
def State.flightReq (s : State) (ctx : Nat) (r : Req) (up : Bool) : State :=
  if r.counts then s.flight ctx r.tokIndex up else s

/-- A request of core `n` has checked its elements: one without any has used no token (R171). -/
def State.noteReq (s : State) (n ctx : Nat) (r : Req) : State :=
  if r.elems.isEmpty then s else s.noteToken n ctx r.tokIndex

/-! ### Results -/

/-- The info field of a token or peer failure (R376). -/
def StopInfo.info (x : StopInfo) : Nat := if x.code = cPeer then x.peer % 4096 * 16 else 0

/-- The bits of a loaded or old value that enter d. -/
def MemOp.result (op : MemOp) (v : Nat) : W64 :=
  match op.kind with
  | .rprobe => BitVec.ofNat 64 v
  | _ => extend op.sgn op.size v

/-- The form writes its result to the S register d. -/
def MemKind.writesD : MemKind → Bool
  | .load => true
  | .atomic _ => true
  | .rprobe => true
  | _ => false

/-- A request has performed: its register, unless a later slot of its stream has written it (`rewritten`, R94), and the sticky
bits of sys.ldstat are written (R197, R198). -/
def State.settleReq (s : State) (n : Nat) (st : Stream) (op : MemOp) (rewritten : List Nat) (v : Nat) (hole exp : Bool) : State :=
  s.modCore n fun c =>
    let c := if op.kind.writesD ∧ !rewritten.contains op.d then c.setScalar st op.d (op.result v) else c
    if op.kind = .load then
      { c with cont := { c.cont with ldstat := c.cont.ldstat ||| ldstatBits st hole exp } }
    else c

/-- The first request of a stream that has not performed. -/
def Core.firstReq (c : Core) (st : Stream) : Option Req := c.reqs.find? fun r => r.str = st

/-- The number of a core's next request. -/
def Core.nextNum (c : Core) : Nat := c.reqs.foldl (fun m r => max m r.num) 0 + 1

/-- The parts of a checked request name an address without memory.
Log 69: DEDUCED, safe. -/
def State.badPart (s : State) (segs : List Seg) : Option Nat :=
  (segs.find? s.unmappedPart).map (·.addr)

/-- A request as an instruction issues it, before its check: it reads its k register (R122). -/
def State.newReq (s : State) (i : Instr) (queue slot : Nat) (base xval : W64) (data index : SqEntry) : Req :=
  { num := s.cur.nextNum, instr := i, pc := (s.cur.stream s.str).pc, str := s.str,
    tok := match memOpOf i with | some op => s.cur.tok op.k | none => 0, past := false, queue := queue,
    slot := slot, base := base, xval := xval, data := data, index := index, checked := false, sent := false,
    tokIndex := 0, segs := [], got := [], await := [], id := none, peer := 0, result := none, status := 0,
    stop := none, before := false, rewritten := [], view := s.cur.viewReg s.str, idDie := 0 }

/-- A queue entry of zeros. -/
def SqEntry.none : SqEntry := ⟨0, 0, false⟩

/-! ### Which requests may go on -/

/-- The lines that a request touches: by virtual address, and by the frames that its entry names now. -/
def State.reqLines (s : State) (n : Nat) (op : MemOp) (r : Req) : List Nat :=
  let e := s.tokenEntry n (s.coreAt n).ctx (tokIndex r.tok)
  let vb := e.vbase.toNat
  let at_ := r.elems.map fun x => (checkOffset vb op x.off, max 1 x.size)
  let segs := if r.checked then r.segs else at_.flatMap fun x => e.elemSegs 0 x.1 x.2
  ((segs.filter fun g => !g.frame.hole).map fun g =>
      2 * cacheKey (if s.isRemote g.frame then some g.frame.peer else none) (lineNo g.addr)) ++
    at_.flatMap fun x => [2 * ((vb + x.1) / 128) + 1, 2 * ((vb + x.1 + x.2 - 1) / 128) + 1]

/-- An earlier request of a stream stands before a later one: at the head of the same queue (R191), by an order of the
stream (R291, R293, R294), or because both touch a line (R300).
Log 19: DEDUCED, unsafe. -/
def State.standsBefore (s : State) (n : Nat) (q r : Req) : Bool :=
  q.str == r.str && !q.kept &&
    (q.queue == r.queue ||
      (match eventOf r.instr with | some e => q.holdsBack e | none => true) ||
      (match memOpOf q.instr, memOpOf r.instr with
        | some oq, some or => (s.reqLines n oq q).any fun l => (s.reqLines n or r).contains l
        | _, _ => false))

/-- The requests of a stream that may go on, in the order of their issue; `pre` stands before them.
Log 3: DESIGN CHOICE, unsafe. 19: DEDUCED, unsafe. -/
def State.readyFrom (s : State) (n : Nat) (st : Stream) (pre : List Req) : List Req → List Req
  | [] => []
  | r :: rest =>
    let go := r.str == st && r.stop.isNone && r.await.isEmpty && (memOpOf r.instr).isSome &&
      !(pre.any fun q => s.standsBefore n q r)
    let later := s.readyFrom n st (pre ++ [r]) rest
    if go then r :: later else later

/-- The requests of a stream that may go on. -/
def State.ready (s : State) (n : Nat) (st : Stream) : List Req := s.readyFrom n st [] (s.coreAt n).reqs

/-- While requests of a stream may go on, the next is due. -/
def State.postReady (s : State) (n : Nat) (st : Stream) : State :=
  if (s.ready n st).isEmpty then s else s.post [.requestPerform n st]

/-- Tries requests in order until one makes progress. -/
def tryEach (try_ : State → Req → Except Fault (Bool × State)) : List Req → State → Except Fault State
  | [], s => .ok s
  | r :: rest, s => match try_ s r with
    | .error f => .error f
    | .ok (true, s) => .ok s
    | .ok (false, s) => tryEach try_ rest s

/-! ### C requests -/

/-- C waits at the form until it has performed (R194): atomics and signal updates. C issues past loads, stores and cache
control.
Log 18: DEDUCED, unsafe. -/
def MemKind.holdsC : MemKind → Bool
  | .atomic _ => true
  | .sigadd => true
  | .sigset => true
  | _ => false

/-- A C request that completes within its instruction or at its last answer: the result, and POISON as a
late fault (R376). -/
def State.completeC (s : State) (op : MemOp) (v : Nat) (hole exp poi : Bool) : Flow × State :=
  let s := s.settleReq s.core .c op [] v hole exp
  if poi then s.completeLate cPoison else (.fall, s)

/-- A request of C joins the list: C waits at it, or goes on to the next slot. -/
def State.keepC (s : State) (op : MemOp) (r : Req) : Flow × State :=
  if op.kind.holdsC then (.stay, s.modCur fun c => { c with reqs := c.reqs ++ [r], cwait := .request })
  else (.fall, s.modCur fun c => { c with reqs := c.reqs ++ [r] })

/-- Issues a request of C, which is checked at once (R194): it performs in the instruction, or it joins the list, behind
what stands before it or awaiting an answer.
Log 18: DEDUCED, unsafe. 20: DEDUCED, unsafe. -/
def issueC (op : MemOp) (r : Req) : Act Flow := fun s =>
  match s.checkReq s.core op r with
  | .error x => trap x.code x.info s
  | .ok segs =>
    match s.badPart segs with
    | some a => .error (.fault (.unmappedPhysical a))
    | none =>
      let ctx := s.cur.ctx
      let r := { r with checked := true, tokIndex := tokIndex r.tok, segs := segs }
      let t := (s.noteReq s.core ctx r).flightReq ctx r true
      if s.cur.reqs.any fun q => s.standsBefore s.core q r then .ok (t.keepC op r)
      else match t.perform s.core op r with
        | .done u v hole exp poi => .ok ((u.flightReq ctx r false).completeC op v hole exp poi)
        | .fail x => trap x.code x.info s
        | .wait u r => .ok (u.keepC op r)
        | .retry u => .ok (.stay, u.flightReq ctx r false)

/-- What follows the body of an instruction, when it does not end in a fault of the model. -/
def State.follow (s : State) (f : Flow) : State :=
  match f with
  | .fall => s.advance false
  | .jump p => s.jumpTo p
  | .stay => s.stalled
  | .leave => s

/-- A request of C fails after its check: at its slot while C has not issued past it, otherwise as a late fault that names
it (R194, R376).
Log 18: DEDUCED, unsafe. -/
def State.failC (s : State) (n : Nat) (r : Req) (x : StopInfo) : State :=
  let s := (s.modCore n fun c => (c.dropReq r.num)).flightReq (s.coreAt n).ctx r false
  (s.atReq n r.num fun s =>
    let c := s.coreAt n
    let s := if c.cwait = .request ∧ (r.kind?.all MemKind.holdsC) then s.modCore n fun c => { c with cwait := .none } else s
    let kind := if r.past && !c.insideHere then 2 else 0
    s.raiseAt n .c { code := x.code, info := x.info, kind := kind, epc := some r.pc, before := r.before }).postReady n .c

/-- A request of C that has joined the list goes on. One at which C waits, and which cannot be sent yet, is issued again
(R340, R367).
Log 18: DEDUCED, unsafe. -/
def State.tryC (s : State) (n : Nat) (r : Req) : Except Fault (Bool × State) :=
  match memOpOf r.instr with
  | none => .ok (false, s)
  | some op =>
    let ctx := (s.coreAt n).ctx
    let go : State → Req → Bool × State := fun s r =>
      let gone : State → State := fun t => (t.modCore n fun c => c.dropReq r.num).flightReq ctx r false
      match s.perform n op r with
      | .done t v hole exp poi =>
        let t := gone t
        if op.kind.holdsC then
          (true, t.atReq n r.num fun t =>
            let t := t.modCore n fun c => { c with cwait := .none }
            let (f, t) := State.completeC { t with core := n, str := .c } op v hole exp poi
            t.follow f)
        else
          let t := t.settleReq n .c op r.rewritten v hole exp
          (true, if poi then t.raiseAt n .c { code := cPoison, kind := 2, epc := some r.pc, before := r.before } else t)
      | .fail x => (true, s.failC n r x)
      | .wait t r => (true, t.modCore n fun c => c.putReq r)
      | .retry t =>
        if op.kind.holdsC ∧ !r.sent ∧ r.id.isNone then
          (true, (gone t).atReq n r.num fun t => t.modCore n fun c => { c with cwait := .none })
        else (false, t)
    if r.checked then .ok (go s r)
    else
      -- a request that a save has held back at its source is checked again (R367)
      let r := { r with tokIndex := tokIndex r.tok }
      match s.checkReq n op r with
      | .error x => .ok (true, (s.flightReq ctx r true).failC n r x)
      | .ok segs => match s.badPart segs with
        | some a => .error (.unmappedPhysical a)
        | none => .ok (go ((s.noteReq n ctx r).flightReq ctx r true) { r with checked := true, segs := segs })

/-- A request of C that may go on does so. -/
def State.runC (s : State) (n : Nat) : Except Fault State :=
  (tryEach (fun s r => s.tryC n r) (s.ready n .c) s).map fun s => s.postReady n .c

/-- The dirty bytes of the core's copy of a remote line go home ahead of a form of C that acts on the line at its home
(R347, R338); the form issues again once they are there. -/
def State.cleanFirst (s : State) (f : FM) (i : Nat) (g : Seg) : Option State :=
  match (SMap.find s.cur.lines (cacheKey (some g.frame.peer) (lineNo g.addr))).filter fun c => c.dirty ≠ 0 with
  | none => none
  | some _ =>
    let op := { fmMemOp f .wback needR with size := 1 }
    let r := { s.newReq (.wback f) 7 0 0 0 .none .none with checked := true, tokIndex := i, segs := [g] }
    match s.perform s.core op r with
    | .wait t r => some ((t.flight s.cur.ctx i true).modCur fun c => { c with reqs := c.reqs ++ [r] })
    | _ => none

/-! ### A requests -/

/-- The info field of a stop (R376). -/
def stopInfo (r : Req) (x : StopInfo) : Nat := x.info + r.queue

/-- A request of A stops at its queue head (R191): it keeps its entries and its slot, and the trap names
the instruction that issued it. It will be issued afresh (R192).
Log 19: DEDUCED, unsafe. -/
def State.stopA (s : State) (n : Nat) (r : Req) (x : StopInfo) : State :=
  let q := { r with
    stop := some x, checked := false, sent := false, got := [], await := [], id := none, result := none, status := 0 }
  let s := s.modCore n fun c => c.putReq q
  s.raiseAt n .a { code := x.code, info := stopInfo r x, kind := 1, epc := some r.pc }

/-- A request of A that may go on does so: it is checked if it has not been, and performs (R172, R192, R194). One that has
still to wait before it is sent stays unchecked (R340).
Log 19: DEDUCED, unsafe. -/
def State.tryA (s : State) (n : Nat) (r : Req) : Except Fault (Bool × State) :=
  match memOpOf r.instr with
  | none => .ok (false, s)
  | some op =>
    let ctx := (s.coreAt n).ctx
    let go : State → Req → Bool × State := fun s q =>
      match s.perform n op q with
      | .done t v hole exp poi =>
        let t := t.flightReq ctx q false
        if poi then (true, t.stopA n q ⟨cPoison, 0⟩)
        else (true, (t.modCore n fun c => c.dropReq q.num).settleReq n .a op q.rewritten v hole exp)
      | .fail x => (true, (s.flightReq ctx q false).stopA n q x)
      | .wait t q => (true, t.modCore n fun c => c.putReq q)
      | .retry t => (false, if r.checked then t else t.flightReq ctx q false)
    if r.checked then .ok (go s r)
    else match s.checkReq n op r with
      | .error x => .ok (true, s.stopA n r x)
      | .ok segs =>
        match s.badPart segs with
        | some a => .error (.unmappedPhysical a)
        | none =>
          let r' := { r with checked := true, tokIndex := tokIndex r.tok, segs := segs }
          .ok (go ((s.noteReq n ctx r').flightReq ctx r' true) r')

/-- A request of A that may go on does so.
Log 19: DEDUCED, unsafe. -/
def State.runA (s : State) (n : Nat) : Except Fault State :=
  (tryEach (fun s r => s.tryA n r) (s.ready n .a) s).map fun s => s.postReady n .a

/-- Issues a request of A, which goes on to the next slot (R191): the request performs at once when nothing stands before
it.
Log 19: DEDUCED, unsafe. 20: DEDUCED, unsafe. -/
def issueA (r : Req) : Act Flow := fun s =>
  match ((s.modCur fun c => { c with reqs := c.reqs ++ [r] }).advance false).runA s.core with
  | .ok s => .ok (.leave, s)
  | .error f => .error (.fault f)

/-- Issues a request of the issuing stream, stalling while its counter is full (R190). -/
def issueReq (op : MemOp) (r : Req) : Act Flow := fun s =>
  if s.cur.counterFull s.str op.kind then .error .stall
  else if s.str = .a then issueA r s
  else issueC op r s

/-! ### Answers -/

/-- The answer for a line reaches the request that awaits it (R172): read data, or an acknowledgement. -/
def Req.answer (r : Req) (peer l : Nat) (data : Option (BitVec 1024 × BitVec 5)) : Req :=
  let r := { r with await := r.await.filter (· ≠ (peer, l)) }
  match data with
  | some d => { r with got := r.got ++ [(peer, l, d)] }
  | none => r

/-- The request of a stream that awaits an answer for a line of a peer. -/
def Core.awaiting (c : Core) (st : Stream) (peer l : Nat) : Option Req :=
  c.reqs.find? fun r => r.str = st && r.stop.isNone && r.await.contains (peer, l)

/-- The request of a stream that awaits the reply of an ID of a die. -/
def Core.awaitingId (c : Core) (st : Stream) (peer die id : Nat) : Option Req :=
  c.reqs.find? fun r => r.str = st && r.stop.isNone && r.id = some id && r.idDie = die && r.peer = peer && !r.await.isEmpty

/-- The core and the request that await the reply of an ID: a request that a save has carried may stand on another core
than the one that sent it (R343). -/
def State.waiterOf (s : State) (st : Stream) (peer die id : Nat) : Option (Nat × Req) :=
  (s.cores.filterMap fun c => (c.2.awaitingId st peer die id).map fun r => (c.1, r)).head?

/-- A request fails after its check: a stop in A, a trap at its slot or a late fault in C (R179, R191, R194). -/
def State.failReq (s : State) (n : Nat) (r : Req) (x : StopInfo) : State :=
  if r.str = .c then s.failC n r x
  else ((s.flightReq (s.coreAt n).ctx r false).stopA n r x).postReady n .a

/-- A numbered request is unresolved (R343): it keeps its ID and its in-flight count; a stop in A, a trap at its slot
in C. -/
def State.unresolve (s : State) (n : Nat) (r : Req) (peer : Nat) : State :=
  let x : StopInfo := ⟨cPeer, peer⟩
  if r.str = .c then
    (s.modCore n fun c => { (c.dropReq r.num) with unresolved := some r }).atReq n r.num fun s =>
      let s := s.modCore n fun c => { c with cwait := .none }
      State.raise { s with core := n, str := .c } { code := cPeer, info := x.info, before := r.before }
  else
    let s := s.modCore n fun c => c.putReq { r with stop := some x, await := [] }
    s.raiseAt n .a { code := cPeer, info := stopInfo r x, kind := 1, epc := some r.pc }

/-- A numbered request is forgotten: its reply will be discarded. -/
def State.forgetNumbered (s : State) (peer die id : Nat) : State :=
  { s with fab := { s.fab with
    outstanding := s.fab.outstanding.filter fun q =>
      !(q.packet.dst = peer && q.packet.sdie = die && q.packet.id = id) } }

/-- The unresolved request of C is given up (R343): its in-flight count is released, and its reply will be discarded. -/
def State.dropUnresolved (s : State) (n : Nat) : State :=
  let c := s.coreAt n
  match c.unresolved with
  | none => s
  | some r =>
    let s := s.modCore n fun c => { c with unresolved := none, cont := { c.cont with aretry := 0 } }
    let s := s.flight c.ctx r.tokIndex false
    match r.id with
    | some id => s.forgetNumbered r.peer r.idDie id
    | none => s

/-- Outcome of an event that may meet an address without memory. -/
def outcomeOf : Except Fault State → Outcome State Fault Refusal
  | .ok s => .next s
  | .error f => .fault f

/-- REQUEST_PERFORM (R172): a request of a stream that may go on does so.
Log 20: DEDUCED, unsafe. -/
def execRequestPerform (core : Nat) (str : Stream) (s : State) : Outcome State Fault Refusal :=
  match str with
  | .a => outcomeOf (s.runA core)
  | .c => outcomeOf (s.runC core)
  | .x => .next s

end Sys2Proof.Machine
end

