-- ==== Sys2Proof/Machine/Placement.lean ====
section
/-! DEFINITION. Continuations and Shelves (R97 to R107): the record pool, READY records and their choice,
pickup with resident local memory (R101, R434), suspension (R102, R103) and the end of a launch (R78);
and the signal updates that the device makes itself (R287, R345). -/

namespace Sys2Proof.Machine

open Host (Outcome)

/-! ### Records -/

/-- A record of a die's pool. -/
def State.recAt (s : State) (die slot : Nat) : Option Rec := SMap.find (s.dieAt die).recs slot
/-- Puts a record into a die's pool. -/
def State.setRec (s : State) (die slot : Nat) (r : Rec) : State :=
  s.modDie die fun d => { d with recs := SMap.put d.recs slot r }
/-- A new record enters a slot, with a number of its own. -/
def State.addRec (s : State) (die slot : Nat) (r : Rec) : State :=
  s.modDie die fun d =>
    { d with recs := SMap.put d.recs slot { r with uid := d.nextUid }, nextUid := d.nextUid + 1 }
/-- Changes a record. -/
def State.modRec (s : State) (die slot : Nat) (f : Rec → Rec) : State :=
  match s.recAt die slot with
  | some r => s.setRec die slot (f r)
  | none => s
/-- A live launch. -/
def State.launchAt (s : State) (die id : Nat) : Option Launch := SMap.find (s.dieAt die).launches id

/-- A job of a launch holds a Sideboard slot, in a running context or in a save area (R273). -/
def State.launchHeld (s : State) (die id : Nat) : Bool :=
  let of_ : SMap Job → Bool := fun l => l.any fun p => p.2.die = die && p.2.launch = id
  (s.cores.any fun p => of_ p.2.jobs) || ((List.range 4).any fun d => (s.dieAt d).recs.any fun p => of_ p.2.heldJobs)

/-- A launch that has ended, and of which no job holds a slot any more, is forgotten (R273). -/
def State.reapLaunch (s : State) (die id : Nat) : State :=
  match s.launchAt die id with
  | some l =>
    if l.ended ∧ !s.launchHeld die id then s.modDie die fun d => { d with launches := SMap.erase d.launches id } else s
  | none => s

/-! ### Signal updates by the device -/

/-- The home of a signal word (R78, R287): the part that its entry names, whatever the entry's state. -/
def State.sigSeg (s : State) (ctx : Nat) (tok : W64) (off : Nat) : Seg :=
  ((s.cab ctx (tokIndex tok)).elemSegs 0 off 8).headD ⟨0, 0, 8, .none, 0⟩

/-- A numbered request of the device is sent, or held while the fabric is being reconfigured, while its
home has no route, or while its window is full (R340, R367). -/
def State.sendSignal (s : State) (p : Packet) (tag : List Nat) : State :=
  if s.fab.reconf ≠ .run ∨ !s.hasRoute p.dst ∨ s.windowFull p.sdie p.dst then
    { s with fab := { s.fab with held := s.fab.held ++ [⟨p, 0, tag⟩] } }
  else
    let (id, s) := s.takeId p.sdie p.dst
    s.sendNumbered { p with id := id } tag

/-- Held requests are tried again. -/
def State.flushHeld (s : State) : State :=
  let l := s.fab.held
  l.foldl (fun s q => s.sendSignal q.packet q.tag) { s with fab := { s.fab with held := [] } }

/-- The signal update of a job that its record has taken along in DONE is acknowledged (R368, R284): the slot is FREE, and
the record remembers the card for the counters of its stream. -/
def State.savedJobAcked (s : State) (die slot uid i : Nat) : State :=
  match s.recAt die slot with
  | none => s
  | some r => match (if r.uid = uid then SMap.find r.heldJobs i else none) with
    | none => s
    | some j =>
      let s := s.setRec die slot { r with
        heldJobs := SMap.erase r.heldJobs i
        heldAcked := if j.poster ≠ 0 then r.heldAcked ++ [j.card] else r.heldAcked }
      (s.flight j.ctx (tokIndex j.sigTok) false).reapLaunch j.die j.launch

/-- What a numbered request of the device releases when it is acknowledged: nothing for a stream's own
request; an in-flight count for a launch's or firmware's signal word. A job's is released by
SIGNAL_UPDATE_ACK, or with its record when that has been saved. -/
def State.signalAcked (s : State) (tag : List Nat) : State :=
  match tag with
  | [1, core, slot] => s.post [.signalUpdateAck core slot]
  | [2, ctx, i] => s.flight ctx i false
  | [3, die, slot, uid, i] => s.savedJobAcked die slot uid i
  | _ => s

/-- The device adds `x` to a signal word (SigAdd of R345) from a die: at its home on this module at once,
otherwise as a numbered request. One whose page has moved, or has changed its class, is answered MOVED and adds nothing
(R179, R314).
Log 57: DEDUCED, unsafe. -/
def State.signalWord (s : State) (die : Nat) (g : SigRef) (x : W64) (tag : List Nat) : State :=
  let seg := s.sigSeg g.ctx g.tok g.off.toNat
  if seg.frame.hole ∨ s.movedPart seg then s.signalAcked tag
  else if s.isRemote seg.frame then
    s.sendSignal { s.packet 3 seg.frame.peer 3 with
      sdie := die, sstr := 2, cls := g.cls, line := lineNo seg.addr, sect := 15, op := 10 + 16 * 8,
      body := [BitVec.ofNat 64 seg.lineOff, x, 0, pageWord g.ctx seg.frame] } tag
  else
    let (_, s) := s.rmwHome g.ctx seg.addr 8 fun old => ((sigAdd (BitVec.ofNat 64 old) x).toNat, true)
    s.signalAcked tag

/-! ### The pool (R99) -/

/-- Frees a slot of a die's pool (R99). -/
def State.freeRec (s : State) (die slot : Nat) : State :=
  match s.recAt die slot with
  | some r =>
    let s := s.modDie die fun d => { d with recs := SMap.erase d.recs slot }
    let s := s.modCtx r.ctx fun c => { c with poolUsed := c.poolUsed - 1 }
    if (s.dieAt die).waitingLaunches.isEmpty then s else s.post [.poolSlotWaitEnd die]
  | none => s

/-- The lowest free slot of a die's pool, if any (R99). -/
def Die.freeSlot (d : Die) : Option Nat :=
  if 65536 ≤ d.recs.length then none
  else some (d.recs.foldl (fun k p => if p.1 = k then k + 1 else k) 0)

/-- A slot for a record that a core of die `d` creates: on its own die, else on the next that has one.
Log 47: DEDUCED, unsafe. -/
def State.findSlot (s : State) (d : Nat) : Option (Nat × Nat) :=
  ([d, (d + 1) % 4, (d + 2) % 4, (d + 3) % 4].filterMap fun k =>
    (s.dieAt k).freeSlot.map fun slot => (k, slot)).head?

/-- A core is a member of a group. -/
def Group.has (g : Group) (core : Nat) : Bool := g.members.getLsbD core

/-- The members of a group, ascending (R108). -/
def Group.list (g : Group) : List Nat := (List.range 128).filter g.has

/-- A group of a live launch, if its entry is valid. -/
def State.groupAt (s : State) (die id group : Nat) : Option Group :=
  (s.launchAt die id).bind fun l => SMap.find l.groups group

/-- The die whose Shelves receive a record (R106). -/
def State.shelfDie (s : State) (r : Rec) (pref : Nat) : Nat :=
  match s.groupAt r.launchDie r.launch r.group with
  | none => pref
  | some g => if g.list.any fun c => dieOf c = pref then pref else dieOf ((g.list.head?).getD 0)

/-- The idle members of a record's group are told to choose. -/
def State.callIdle (s : State) (r : Rec) : State :=
  match s.groupAt r.launchDie r.launch r.group with
  | none => s
  | some g => s.post ((g.list.filter fun c => (s.coreAt c).mode = .idle).map .pickup)

/-- A record enters READY (R100, R105, R106). -/
def State.makeReady (s : State) (die slot pref : Nat) : State :=
  match s.recAt die slot with
  | none => s
  | some r =>
    let r := { r with state := .ready, t0 := s.time, homeDie := s.shelfDie r pref, wait := .none }
    (s.setRec die slot r).callIdle r

/-- The effective level of a record (R105).
Log 4: DESIGN CHOICE, unsafe. -/
def Rec.level (r : Rec) (time : Nat) : Nat := min 7 (r.prio + (time - r.t0) / 4096)

/-- The better of two READY records of one die's Shelves: the higher level, then the earlier t0, then the
lower slot address (R105, R107).
Log 68: DEDUCED, unsafe. -/
def betterRec (time : Nat) (a b : (Nat × Nat) × Rec) : Bool :=
  let la := a.2.level time
  let lb := b.2.level time
  lb < la || (la = lb && (a.2.t0 < b.2.t0 ||
    (a.2.t0 = b.2.t0 && a.1.1 * 65536 + a.1.2 < b.1.1 * 65536 + b.1.2)))

/-- A core is a member of the group of a record. -/
def State.mayTake (s : State) (r : Rec) (core : Nat) : Bool :=
  match s.groupAt r.launchDie r.launch r.group with
  | some g => g.has core
  | none => false

/-- The READY records of a die's Shelves that a core may take. -/
def State.shelf (s : State) (d core : Nat) : List ((Nat × Nat) × Rec) :=
  (List.range 4).flatMap fun k =>
    (s.dieAt k).recs.filterMap fun p =>
      let r := p.2
      if r.state = .ready ∧ r.homeDie = d ∧ s.mayTake r core then some ((k, p.1), r) else none

/-- Choose of R107.
Log 68: DEDUCED, unsafe. -/
def State.choose (s : State) (core : Nat) : Option ((Nat × Nat) × Rec) :=
  let die := dieOf core
  ([die, (die + 1) % 4, (die + 2) % 4, (die + 3) % 4].filterMap fun d =>
    (s.shelf d core).foldl (fun best q => match best with
      | none => some q
      | some b => if betterRec s.time q b then some q else some b) none).head?

/-! ### The continuation of a core -/

/-- A core without a continuation, with its local memory, its jobs and its counts as they are (R103,
R110, R434). -/
def Core.release (c : Core) : Core :=
  { Core.reset with
    bankrole0 := c.bankrole0, bankrole1 := c.bankrole1, localMem := c.localMem,
    localPoison := c.localPoison, resident := c.resident, lines := c.lines, tcache := c.tcache,
    abufTags := c.abufTags, jobs := c.jobs.map fun p => (p.1, { p.2 with poster := 0 }),
    jobOrder := c.jobOrder, matrix := c.matrix, piece := c.piece,
    stopping := c.stopping, testing := c.testing, phases := c.phases, bars := c.bars,
    heardPhases := c.heardPhases, heardBars := c.heardBars }

/-- The engines of a core are to park (R245, R250, R385, R406). -/
def Core.parks (c : Core) : Bool := c.saving.isSome || c.stopping

/-- A core that is itself under test, or one of whose banks is, takes no new work (R407). -/
def Core.underTest (c : Core) : Bool := c.testing = some 0 || c.testing = some 2

/-- The streams of a core leave the order of issue. -/
def State.unschedule (s : State) (n : Nat) : State := { s with turn := s.turn.filter fun p => p.1 ≠ n }

/-- A stream of a core enters the order of issue. -/
def State.schedule (s : State) (n : Nat) (st : Stream) : State :=
  { s with turn := (s.turn.filter fun p => p ≠ (n, st)) ++ [(n, st)] }

/-- Unperformed requests and fetches of a core that hold an in-flight count give it back, and the replies of numbered ones
are not awaited. -/
def State.dropReqs (s : State) (n : Nat) : State :=
  let c := s.coreAt n
  let s := c.reqs.foldl (fun s r =>
    let s := match r.id with
      | some id => s.forgetNumbered r.peer r.idDie id
      | none => s
    if r.checked && !r.kept then s.flightReq c.ctx r false else s) s
  let s := [Stream.c, .a, .x].foldl (fun s st => match (c.stream st).awaiting with
    | some f => s.flight c.ctx f.tokIndex false
    | none => s) s
  s.modCore n fun c => { c with reqs := [] }

/-- A core's continuation leaves it: the core falls idle and chooses again (R103, R107). -/
def State.vacate (s : State) (n : Nat) : State :=
  (((s.wakeFeed n).modCore n Core.release).unschedule n).post [.pickup n]

/-- Every line of a core's CACHE is given up (R186). -/
def State.flushCache (s : State) (n : Nat) : State :=
  (s.coreAt n).lines.foldl (fun s p => s.evict n p.1) s

/-- A core's local memory becomes resident for a context as at context creation (R434). -/
def Core.freshMemory (c : Core) (ctx : Nat) : Core :=
  { c with bankrole0 := 0, bankrole1 := 0, localMem := [], localPoison := [], abufTags := [],
           lines := [], resident := some ctx }

/-- The local memory of a core is made resident for a context; none while another context's jobs remain
(R434). -/
def State.makeResident (s : State) (n ctx : Nat) : Option State :=
  let c := s.coreAt n
  if c.resident = some ctx then some s
  else match c.resident with
    | none => some (s.modCore n fun c => c.freshMemory ctx)
    | some _ =>
      if !c.jobs.isEmpty then none
      else some ((s.flushCache n).modCore n fun c => c.freshMemory ctx)

/-- The registers of a continuation at pickup (R101).
Log 5: DESIGN CHOICE, unsafe. -/
def Core.begin (c : Core) (die slot : Nat) (r : Rec) (resid : Bool) : Core :=
  let c := { c.release with
    mode := .running, recDie := die, recSlot := slot, ctx := r.ctx, launchDie := r.launchDie,
    launch := r.launch, group := r.group,
    sc := { StreamState.reset with started := true, pc := r.pc, residual := resid } }
  let c := (List.range 4).foldl (fun c i => c.setScalar .c (i + 1) (r.args.getD i 0)) c
  (c.setScalar .c 5 (BitVec.ofNat 64 r.frameOff)).setTok 15 r.ftok

/-- PICKUP (R101, R107, R434): an idle core of a die in service takes the record that it chooses. While another context's jobs
remain in its Sideboard it tries again. A core under test is not idle (R407).
Log 7: DESIGN CHOICE, unsafe. -/
def execPickup (core : Nat) (s : State) : Outcome State Fault Refusal :=
  if (s.coreAt core).mode ≠ .idle ∨ (s.coreAt core).stopping ∨ (s.coreAt core).underTest ∨
      !(s.dieAt (dieOf core)).inService then .next s
  else match s.choose core with
    | none => .next s
    | some ((die, slot), r) =>
      match s.makeResident core r.ctx with
      | none => .next (s.post [.pickup core])
      | some s =>
        let resid := match s.launchAt r.launchDie r.launch with
          | some l => l.residual.isSome
          | none => false
        let s := s.setRec die slot { r with state := .running }
        .next ((s.modCore core fun c => c.begin die slot r resid).schedule core .c)

/-- EFFECTIVE_LEVEL_RISE (R105): cycles pass until the level of a READY record of the die rises.
Log 4: DESIGN CHOICE, unsafe. -/
def execEffectiveLevelRise (die : Nat) (s : State) : Outcome State Fault Refusal :=
  let next := ((s.dieAt die).recs.filterMap fun p =>
    if p.2.state = .ready ∧ p.2.level s.time < 7 then
      some (p.2.t0 + 4096 * ((s.time - p.2.t0) / 4096 + 1))
    else none).min?
  match next with
  | some t => .next { s with time := t }
  | none => .next s

/-- SPAWN_READY (R153): a spawned record enters READY. -/
def execSpawnReady (die slot : Nat) (s : State) : Outcome State Fault Refusal :=
  match s.recAt die slot with
  | some r => if r.state = .free then .next (s.makeReady die slot r.homeDie) else .next s
  | none => .next s

/-- WAITER_WAKE (R104, R347): a WAITING record enters READY; the satisfying value is in its argument
word. -/
def execWaiterWake (die slot : Nat) (s : State) : Outcome State Fault Refusal :=
  match s.recAt die slot with
  | some r => if r.state = .waiting then .next (s.makeReady die slot r.homeDie) else .next s
  | none => .next s

/-! ### Suspension -/

/-- What R102 and R325 say of an instruction that suspends: why it does not issue yet, if so. -/
def State.suspendStop (s : State) : Option Stop :=
  let c := s.cur
  if c.cont.th then some (.trap { code := cIllegal })
  else if !c.quiescent .a || !c.quiescent .x then some .stall
  else if (List.range 4).any fun q => !(c.loadQ q).isEmpty then some (.trap { code := cIllegal })
  else if (List.range 2).any fun q => !(c.storeQ q).isEmpty then some (.trap { code := cIllegal })
  else if !c.binds.isEmpty then some (.trap { code := cIllegal })
  else if c.loads .c ≠ 0 ∨ c.stores .c ≠ 0 then some .stall
  else none

/-- The arguments that a suspension saves (R103). -/
def Core.args (c : Core) : List W64 := (List.range 4).map fun i => c.scalar .c (i + 1)

/-- The record of the continuation of a core as its suspension leaves it (R103). -/
def State.suspendRec (s : State) (n : Nat) (st : RecState) (w : Waiting) : State :=
  let c := s.coreAt n
  s.modRec c.recDie c.recSlot fun r =>
    { r with state := st, args := c.args, pc := (c.sc.fall false).1, wait := w, homeDie := dieOf n }

/-- The counts of the groups of a launch are forgotten, with those on their way (R110, R349). -/
def State.forgetCounts (s : State) (die id : Nat) : State :=
  let gone : GroupKey → Bool := fun k => k.die = die && k.launch = id
  { s with
    cores := s.cores.map fun p => (p.1, { p.2 with
      phases := p.2.phases.filter fun q => !gone q.1
      bars := p.2.bars.filter fun q => !gone q.1
      heardPhases := p.2.heardPhases.filter fun q => !gone q.1.1
      heardBars := p.2.heardBars.filter fun q => !gone q.1.1 })
    events := s.events.filter fun e => match e with
      | .phaseCountArrival _ _ k _ => !gone k
      | .barrierCountArrival _ _ k _ => !gone k
      | _ => true }

/-- The launch of a continuation that has ended: with its last one it ends, its snapshot and its pin are released, and its
signal word gains 1 (R78). Its group table and its shares stay while its jobs hold slots (R273). -/
def State.endContinuation (s : State) (die id : Nat) : State :=
  match s.launchAt die id with
  | none => s
  | some l =>
    if 1 < l.live then
      s.modDie die fun d => { d with launches := SMap.put d.launches id { l with live := l.live - 1 } }
    else
      let s := s.modDie die fun d =>
        { d with
          launches := SMap.put d.launches id
            { l with live := 0, ended := true, snapshot := [], residual := none, benchKey := none }
          bench := match l.benchKey with
            | some k => d.bench.map fun b =>
              if (b.hash, b.domain) = k then { b with pins := b.pins - 1 } else b
            | none => d.bench }
      ((s.forgetCounts die id).reapLaunch die id).signalWord die l.sig 1 [2, l.sig.ctx, tokIndex l.sig.tok]

end Sys2Proof.Machine
end

