-- ==== Sys2Proof/Machine/Extent.lean ====
section
/-! DEFINITION. Extents that the device itself reads and writes at their homes on this module: feed
queues, launch records, tables, code lines (R30, R76, R79). -/

namespace Sys2Proof.Machine

/-- The bytes [off, off + n) of an extent as their homes serve them; a hole and a page of another chip
give zeros. -/
def State.entBytes (s : State) (e : CabEntry) (off n : Nat) : List Byte :=
  (e.elemSegs 0 off n).flatMap fun g =>
    if g.frame.hole || s.isRemote g.frame then List.replicate g.len 0 else s.physBytes g.addr g.len

/-- The same as a number, little-endian. -/
def State.entNat (s : State) (e : CabEntry) (off n : Nat) : Nat := natOfBytes (s.entBytes e off n)

/-- Writes bytes into an extent at their homes, on behalf of a context. -/
def State.entWrite (s : State) (ctx : Nat) (e : CabEntry) (off : Nat) (l : List Byte) : State :=
  (e.elemSegs 0 off l.length).foldl (fun s g =>
    if g.frame.hole || s.isRemote g.frame then s
    else s.physWrite ctx g.addr ((l.drop g.pos).take g.len)) s

/-- Writes the low `n` bytes of a number into an extent. -/
def State.entWriteNat (s : State) (ctx : Nat) (e : CabEntry) (off n v : Nat) : State :=
  s.entWrite ctx e off (bytesOf n v)

/-- Some part of the bytes lies on another chip. -/
def State.entRemote (s : State) (e : CabEntry) (off n : Nat) : Bool :=
  (e.elemSegs 0 off n).any fun g => s.isRemote g.frame

/-- Some part of the bytes names an address without memory. -/
def State.entUnmapped (s : State) (e : CabEntry) (off n : Nat) : Option Nat :=
  s.badPart (e.elemSegs 0 off n)

/-- Some byte of the extent's part is poisoned. -/
def State.entPoison (s : State) (e : CabEntry) (off n : Nat) : Bool :=
  (e.elemSegs 0 off n).any fun g =>
    !g.frame.hole && !s.isRemote g.frame && poisonHit (s.homePoison (lineNo g.addr)) g.lineOff g.len

end Sys2Proof.Machine
end

