-- ==== Sys2Proof/Machine/Control.lean ====
section
/-! DEFINITION. The control forms of the C stream (R141 to R158), `wait` (R288, R289), waits on a word
(R346, R347), barriers and phases (R348 to R350), and the fetch of a line (R30, R31). -/

namespace Sys2Proof.Machine

open Host (Outcome)

/-! ### Uniform loads -/

/-- ULD (R141, R142). -/
def execUld (f : FI) (s : State) : Outcome State Fault Refusal :=
  issue f.g false false (fun s =>
    let imm := f.imm.toNat
    let a := (s.rd f.s1).toNat + imm % 1024
    let size := 2 ^ (imm / 1024 % 4)
    match s.launchAt s.cur.launchDie s.cur.launch with
    | none => trap cBounds 0 s
    | some l =>
      if l.len < a + size then trap cBounds 0 s
      else .ok (.fall, s.wr f.d (extend (f.imm.getLsbD 12) size (natAt l.snapshot a size)))) s

/-! ### Transfers -/

/-- BranchTarget of R126. -/
def State.branchTarget (s : State) (f : FB) : W64 :=
  if f.ind then s.rd f.s1
  else lineOf (s.cur.stream s.str).pc + f.off.signExtend 64 * 64 + BitVec.ofNat 64 ((f.slot.toNat + 1) * 8)

/-- FallThrough of the issuing slot (R144). -/
def State.fallPc (s : State) : W64 := ((s.cur.stream s.str).fall false).1

/-- BR (R145). -/
def execBr (f : FB) (s : State) : Outcome State Fault Refusal :=
  issue f.g false false (fun s => .ok (.jump (s.branchTarget f), s)) s

/-- CALL (R146): the target, then d, then the transfer.
Log 28: DEDUCED, unsafe. -/
def execCall (f : FB) (s : State) : Outcome State Fault Refusal :=
  issue f.g false false (fun s => .ok (.jump (s.branchTarget f), s.wr f.d s.fallPc)) s

/-- RET (R147). -/
def execRet (f : FB) (s : State) : Outcome State Fault Refusal :=
  issue f.g false false (fun s => .ok (.jump (s.rd f.s1), s)) s

/-- LOOP (R148).
Log 65: DEDUCED, safe. -/
def execLoop (f : FB) (s : State) : Outcome State Fault Refusal :=
  issue f.g false false (fun s =>
    let c := s.rd f.d
    if c = 0 then .ok (.fall, s)
    else
      let s := s.wr f.d (c - 1)
      .ok (if c - 1 = 0 then .fall else .jump (s.branchTarget f), s)) s

/-! ### Starting the A and X streams -/

/-- A stream is idle (R150). -/
def StreamState.idle (v : StreamState) : Bool := !v.started || v.finished

/-- A chain of a stream of the issuing core begins at `t` (R149); A takes its copy of sys.bview (R326). -/
def State.beginChain (s : State) (st : Stream) (t : W64) : State :=
  let s := s.modCur fun c =>
    let c := c.modStream st fun v =>
      { v with started := true, finished := false, residual := c.sc.residual, pc := t, line := none, fell := false }
    if st = .a then { c with aview := c.cont.bview } else c
  s.schedule s.core st

/-- START (R149 to R151, R380).
Log 28: DEDUCED, unsafe. -/
def execStart (f : FB) (s : State) : Outcome State Fault Refusal :=
  issue f.g false false (fun s =>
    let st : Stream := if f.d = 1 then .a else .x
    let t := s.branchTarget f
    if s.cur.cont.th then trap cIllegal 0 s
    else if !(s.cur.stream st).idle then .error .stall
    else if !namesSlot t then .error (.trap { code := cIllegal, epc := some t })
    else .ok (.fall, s.beginChain st t)) s

/-- WAIT (R288, R289): `fin` is illegal in C, at order 4 of R118. -/
def execWait (f : FL) (s : State) : Outcome State Fault Refusal :=
  if s.str = .c ∧ f.imm.getLsbD 25 then .next (s.raise { code := cIllegal, info := 4 })
  else issue f.g false false (fun s =>
    let i := f.imm.toNat
    let c := s.cur
    let v := c.stream s.str
    let met := c.loads s.str ≤ i % 128 && c.stores s.str ≤ i / 128 % 64 && v.copies ≤ i / 8192 % 64 &&
      v.tile ≤ i / 524288 % 64
    if !met then .error .stall
    else if !f.imm.getLsbD 25 then .ok (.fall, s)
    else if s.str = .x ∧ !c.inflight.isEmpty then .error .stall
    else
      let s := s.advance false
      let s := s.modCur fun c => c.modStream s.str fun v => { v with finished := true, fell := false }
      .ok (.leave, { s with turn := s.turn.filter fun p => p ≠ (s.core, s.str) })) s

/-! ### Continuations -/

/-- Step 1 of R153: the descriptor breaks a rule. -/
def State.badDescriptor (s : State) (d : W64) : Bool :=
  let foff := d.toNat / 2 ^ 24
  let fkind := d.toNat / 2 ^ 11 % 4
  d.toNat / 2 ^ 13 % 2 ^ 11 ≠ 0 || fkind = 3 ||
    (s.groupAt s.cur.launchDie s.cur.launch (d.toNat % 256)).isNone ||
    (fkind = 1 && 2 ^ 24 ≤ foff) || (fkind = 0 && foff ≠ 0)

/-- The new record of `spawn` (R153), with the whole target as its pc; it is FREE until SPAWN_READY.
Log 28: DEDUCED, unsafe. -/
def State.spawnRec (s : State) (d t : W64) : Rec :=
  let fkind := d.toNat / 2 ^ 11 % 4
  { state := .free, ctx := s.cur.ctx, launchDie := s.cur.launchDie, launch := s.cur.launch,
    group := d.toNat % 256, prio := d.toNat / 2 ^ 8 % 8, pc := t, frameKind := fkind,
    frameOff := d.toNat / 2 ^ 24, ftok := if fkind = 2 then s.cur.tok 15 else 0, args := s.cur.args,
    t0 := 0, wait := .none, homeDie := dieOf s.core, serial := 0, area := ⟨0, []⟩, keep := none, uid := 0, heldJobs := [], heldReqs := [],
    heldC := none, heldBinds := [], heldMasks := [],
    heldArrived := none, heldOuter := none, heldAcked := [] }

/-- SPAWN (R152, R153, R380).
Log 28: DEDUCED, unsafe. -/
def execSpawn (f : FB) (s : State) : Outcome State Fault Refusal :=
  issue f.g false false (fun s =>
    let d := s.rd f.d
    let t := s.branchTarget f
    let c := s.cur
    let bad : Option CauseCode :=
      if d.toNat / 2 ^ 11 % 4 = 2 then
        match s.checkToken c.ctx (c.tok 15) (d.toNat / 2 ^ 24) 64 (needR ||| needW) with
        | .ok _ => none
        | .error e => some e
      else none
    if c.cont.th ∨ s.badDescriptor d then trap cIllegal 0 s
    else match bad with
      | some e => trap e 0 s
      | none =>
        if !namesSlot t then .error (.trap { code := cIllegal, epc := some t })
        else if s.curCtx.poolQuota ≤ s.curCtx.poolUsed then .error .stall
        else match s.findSlot (dieOf s.core) with
          | none => .error .stall
          | some (die, slot) =>
            let s := if (s.spawnRec d t).frameKind = 2 then s.noteToken s.core c.ctx (tokIndex (c.tok 15)) else s
            let s := s.addRec die slot (s.spawnRec d t)
            let s := s.modCtx c.ctx fun x => { x with poolUsed := x.poolUsed + 1 }
            let s := s.modDie c.launchDie fun q => match SMap.find q.launches c.launch with
              | some l => { q with launches := SMap.put q.launches c.launch { l with live := l.live + 1 } }
              | none => q
            .ok (.fall, s.post [.spawnReady die slot])) s

/-- YIELD (R154, R102, R103). -/
def execYield (f : FI) (s : State) : Outcome State Fault Refusal :=
  issue f.g false false (fun s =>
    match s.suspendStop with
    | some e => .error e
    | none =>
      let c := s.cur
      let s := s.suspendRec s.core .ready .none
      .ok (.leave, (s.makeReady c.recDie c.recSlot (dieOf s.core)).vacate s.core)) s

/-- A continuation ends (R155).
Log 51: DEDUCED, unsafe. -/
def State.exitCont (s : State) (n : Nat) : State :=
  let c := s.coreAt n
  let s := ((s.dropReqs n).dropUnresolved n).freeRec c.recDie c.recSlot
  (s.vacate n).endContinuation c.launchDie c.launch

/-- EXIT (R155, R380).
Log 51: DEDUCED, unsafe. -/
def execExit (f : FI) (s : State) : Outcome State Fault Refusal :=
  issue f.g false false (fun s =>
    if s.cur.cont.th then
      -- A's checked requests still perform
      if s.cur.reqs.any fun r => r.str = .a && r.checked && r.stop.isNone then .error .stall
      else .ok (.leave, s.exitCont s.core)
    else match s.suspendStop with
      | some e => .error e
      | none => .ok (.leave, s.exitCont s.core)) s

/-! ### Feed pops (R156 to R158) -/

/-- One claim of R157 on the feed queue header of an extent: the index claimed, if any. -/
def State.feedClaim (s : State) (ctx : Nat) (e : CabEntry) (q : Nat) : Option Nat × State :=
  let h := s.entNat e q 8
  let t := s.entNat e (q + 8) 8
  let d := (t + 2 ^ 64 - h) % 2 ^ 64
  if 0 < d ∧ d < 2 ^ 63 then (some h, s.entWriteNat ctx e q 8 ((h + 1) % 2 ^ 64)) else (none, s)

/-- The offset of entry `h` of a feed queue at `q` (R79, R157). -/
def feedEntry (q n h : Nat) : W64 := BitVec.ofNat 64 (q + 64 + 64 * (h % 2 ^ n))

/-- The key of a feed queue's header line, under which a `feed` sleeps. -/
def feedKey (e : CabEntry) (q : Nat) : Nat := ((e.elemSegs 0 q 64).map fun g => lineNo g.addr).headD 0

/-- A `feed` sleeps on a queue: of a core of this module, or (number (peer + 1) * 128 + core) of a core of another chip. -/
def State.feedSleeps (s : State) (who key : Nat) : State :=
  { s with homes := { s.homes with feedSleepers := s.homes.feedSleepers ++ [(who, key)] } }

/-- A `feed` with an empty queue: it polls, or sleeps until an append wakes it. -/
def feedEmpty (f : FM) (key : Nat) : Act Flow := fun s =>
  if f.hint = 1 then .ok (.fall, s.wr f.d (BitVec.allOnes 64))
  -- C runs a handler: the form issues again when C returns to it
  else if s.cur.inside.isSome then .ok (.stay, s)
  else .ok (.stay, s.feedSleeps s.core key)

/-- The part of `feed` after the number n of its queue is known: the second check, then the claim, here or
at the remote home of the header.
Log 72: DEDUCED, unsafe. -/
def feedWith (f : FM) (q n : Nat) : Act Flow := fun s =>
  let t := s.cur.tok f.s1.toNat
  let need := needR ||| needW
  if n = 0 ∨ 16 < n then trap cIllegal 0 s
  else match s.checkToken s.cur.ctx t q (64 + 64 * 2 ^ n) need with
    | .error e => trap e 0 s
    | .ok e =>
      match e.elemSegs 0 q 16 with
      | [] => trap cIllegal 0 s
      | g :: _ =>
        if (e.elemSegs 0 q 16).any s.movedPart then trap cStale 0 s
        else if s.isRemote g.frame then
          if s.windowFull (dieOf s.core) g.frame.peer then .error .stall else
          let s := s.modCur fun c => c.dropLine (cacheKey (some g.frame.peer) (lineNo g.addr))
          let (id, s) := s.takeId (dieOf s.core) g.frame.peer
          -- the home keeps the core as a sleeper when the queue is empty and the form sleeps
          let p := { s.reqPacket s.core .c 2 g.frame.peer 3 f.cls.toNat (lineNo g.addr) with
            id := id, op := 12,
            body := [BitVec.ofNat 64 g.lineOff, BitVec.ofNat 64 (natOfBool (f.hint != 1)), 0,
              pageWord s.cur.ctx g.frame] }
          let r := { s.newReq (.feed f) 7 n (BitVec.ofNat 64 q) 0 .none .none with
            checked := true, tokIndex := tokIndex t, sent := true, segs := [g],
            await := [(g.frame.peer, lineNo g.addr)], id := some id, idDie := dieOf s.core, peer := g.frame.peer }
          let s := (s.sendNumbered p []).flight s.cur.ctx (tokIndex t) true
          .ok (.stay, s.modCur fun c => { c with reqs := c.reqs ++ [r], cwait := .request })
        else match (s.evictParts s.core (e.elemSegs 0 q 64)).feedClaim s.cur.ctx e q with
          | (some h, s) => .ok (.fall, s.wr f.d (feedEntry q n h))
          | (none, s) => feedEmpty f (feedKey e q) s

/-- The body of `feed` from its start (R157). -/
def feedBody (f : FM) : Act Flow := fun s =>
  let t := s.cur.tok f.s1.toNat
  let need := needR ||| needW
  let q := fmOffset f (s.rd f.s2) 64
  match s.checkToken s.cur.ctx t q 64 need with
  | .error e => trap e 0 s
  | .ok e =>
    match s.entUnmapped e q 64 with
    | some a => .error (.fault (.unmappedPhysical a))
    | none =>
      let s := s.noteToken s.core s.cur.ctx (tokIndex t)
      match (e.elemSegs 0 (q + 16) 1).head? with
      | none => trap cIllegal 0 s
      | some g =>
        if s.movedPart g then trap cStale 0 s
        else if s.isRemote g.frame then
          if !s.hasRoute g.frame.peer then trap cPeer (g.frame.peer % 4096 * 16) s
          else if s.fab.reconf ≠ .run ∨ s.lineLeaving s.core (cacheKey (some g.frame.peer) (lineNo g.addr)) then .error .stall
          else match s.cleanFirst f (tokIndex t) g with
          | some s => .ok (.stay, s)
          | none =>
            let l := lineNo g.addr
            let r := { s.newReq (.feed f) 7 0 (BitVec.ofNat 64 q) 0 .none .none with
              checked := true, tokIndex := tokIndex t, sent := true, segs := [g], peer := g.frame.peer,
              await := [(g.frame.peer, l)] }
            let s := s.send { s.reqPacket s.core .c 0 g.frame.peer 1 f.cls.toNat l with
              sect := sectorsOf (byteMask g.lineOff g.len)
              body := s.bundleBody s.core s.cur.cont.bview f.cls.toNat g.frame }
            let s := s.flight s.cur.ctx (tokIndex t) true
            .ok (.stay, s.modCur fun c => { c with reqs := c.reqs ++ [r], cwait := .request })
        else
          let s := s.evictParts s.core (e.elemSegs 0 q 64)
          feedWith f q (s.entNat e (q + 16) 1 % 32) s

/-- FEED (R156, R157). -/
def execFeed (f : FM) (s : State) : Outcome State Fault Refusal := issue f.g false false (feedBody f) s

/-- The request of a `feed` of a core whose answer has not arrived. -/
def Core.feedAsked (c : Core) : Bool := c.reqs.any fun r => r.str = .c && (match r.instr with | .feed _ => true | _ => false)

/-- FEED_WAKE (R158): a woken `feed` tests its queue again. A wake that is ahead of the answer that lets the `feed` sleep
waits for it. -/
def execFeedWake (core : Nat) (s : State) : Outcome State Fault Refusal :=
  if (s.coreAt core).feedAsked then .next (s.post [.feedWake core]) else .next (s.wakeFeed core)

/-- Wakes every `feed` that sleeps on a queue whose header lies in line `key` (R80); a core of another chip is told by a
packet (R158).
Log 73: DEDUCED, unsafe. -/
def State.wakeFeedSleepers (s : State) (key : Nat) : State :=
  let l := s.homes.feedSleepers.filter fun p => p.2 = key
  let s := s.post ((l.filter (·.1 < 128)).map fun p => .feedWake p.1)
  let far := l.filter fun p => 128 ≤ p.1
  far.foldl (fun s p => s.send { s.packet 4 (p.1 / 128 - 1) 4 with
      line := key, op := 14, body := [BitVec.ofNat 64 (p.1 % 128)] })
    { s with homes := { s.homes with feedSleepers := s.homes.feedSleepers.filter fun p => !far.contains p } }

/-- C goes on after the end of a part of an instruction that waited for an answer. -/
def State.continueC (s : State) (n : Nat) (r : Req) (body : Act Flow) : Except Fault State :=
  (s.modCore n fun c => c.dropReq r.num).tryAtReq n r.num fun s =>
    let s := s.modCore n fun c => { c with cwait := .none }
    let s : State := { s with core := n, str := .c }
    match body s with
    | .ok (f, t) => .ok (t.follow f)
    | .error (.trap t) => .ok (s.raise { t with before := r.before })
    | .error .stall => .ok s.stalled
    | .error (.fault f) => .error f

/-- The same for a form that has more to do: C does not return to a stall that it has left, and the form ends there. -/
def State.continueHere (s : State) (n : Nat) (r : Req) (body : Act Flow) : Except Fault State :=
  s.continueC n r fun s => if s.cur.inside.isSome && !s.cur.insideHere then .ok (.stay, s) else body s

/-- A remote `feed` goes on after an answer: with the header line, or with the result of its claim.
Log 72: DEDUCED, unsafe. -/
def State.resumeFeed (s : State) (n : Nat) (f : FM) (r : Req) : Except Fault State :=
  let s := s.flight (s.coreAt n).ctx r.tokIndex false
  match r.result with
  | some h => s.continueC n r fun s =>
      if r.status = 1 then .ok (.fall, s.wr f.d (feedEntry r.base.toNat r.slot h.toNat))
      else if f.hint = 1 then .ok (.fall, s.wr f.d (BitVec.allOnes 64))
      else feedEmpty f (cacheKey (some r.peer) ((r.segs.map fun g => lineNo g.addr).headD 0)) s
  | none => s.continueHere n r fun s =>
      let n := match r.segs, r.got with
        | g :: _, (_, _, d, _) :: _ => lineBytes d g.lineOff 1 % 32
        | _, _ => 0
      feedWith f r.base.toNat n s

/-! ### Waiting on a word (R346, R347) -/

/-- Recalls a line from its exclusive holder, as for RdS (R347). -/
def State.recallShared (s : State) (l : Nat) : State :=
  s.cores.foldl (fun s p => s.modCore p.1 fun c => c.modLine l fun e =>
    if e.cls ≠ 0 then e
    else { e with state := match e.state with | .m => .o | .o => .o | .e => .s | .s => .s }) s

/-- The record of the issuing core parks WAITING (R103, R104).
Log 73: DEDUCED, unsafe. -/
def State.parkRec (s : State) (n : Nat) (w : Waiting) : State := (s.suspendRec n .waiting w).vacate n

/-- The waits on a word: `op` numbers the condition, and `d` receives the value (R346).
Log 27: DEDUCED, unsafe. -/
def waitBody (i : Instr) (f : FM) (op : Nat) : Act Flow := fun s =>
  match s.suspendStop with
  | some e => .error e
  | none =>
    let c := s.cur
    let k := c.tok f.s1.toNat
    let off := fmOffset f (s.rd f.s2) 8
    let t := s.rd f.d
    match s.checkToken c.ctx k off 8 needR with
    | .error e => trap e 0 s
    | .ok ent =>
      if (ent.vbase.toNat + off) % 8 ≠ 0 then trap cBounds 0 s
      else match ent.elemSegs 0 off 8 with
        | [] => trap cBounds 0 s
        | g :: _ =>
          let pc := c.sc.pc
          let w := Waiting.signal c.ctx (tokIndex k) (homeAgent g.addr) g.addr t op f.d.toNat pc
          let s := s.noteToken s.core c.ctx (tokIndex k)
          if s.movedPart g then trap cStale 0 s
          else if s.isRemote g.frame then
            if !s.hasRoute g.frame.peer then trap cPeer (g.frame.peer % 4096 * 16) s
            else if s.fab.reconf ≠ .run ∨ s.windowFull (dieOf s.core) g.frame.peer ∨
                s.lineLeaving s.core (cacheKey (some g.frame.peer) (lineNo g.addr)) then .error .stall
            else match s.cleanFirst f (tokIndex k) g with
            | some s => .ok (.stay, s)
            | none =>
              let s := s.modCur fun c => c.dropLine (cacheKey (some g.frame.peer) (lineNo g.addr))
              let (id, s) := s.takeId (dieOf s.core) g.frame.peer
              let p := { s.reqPacket s.core .c 2 g.frame.peer 3 f.cls.toNat (lineNo g.addr) with
                id := id, op := 13 + 16 * 8,
                body := [BitVec.ofNat 64 g.lineOff, t, BitVec.ofNat 64 op, pageWord c.ctx g.frame,
                  BitVec.ofNat 64 c.recDie, BitVec.ofNat 64 c.recSlot, s.viewWord c.cont.bview, c.cont.bview] }
              let r := { s.newReq i 7 0 0 t .none .none with
                tok := k, checked := true, tokIndex := tokIndex k, sent := true, segs := [g],
                await := [(g.frame.peer, lineNo g.addr)], id := some id, idDie := dieOf s.core, peer := g.frame.peer }
              let s := (s.sendNumbered p []).flight c.ctx (tokIndex k) true
              .ok (.stay, s.modCur fun c => { c with reqs := c.reqs ++ [r], cwait := .request })
          else if s.unmappedPart g then .error (.fault (.unmappedPhysical g.addr))
          else
            let l := lineNo g.addr
            let view : Option W64 := if g.frame.bundle then some c.cont.bview else none
            let s := if g.frame.hole then s else if g.frame.bundle then s.settle l else s.evictParts s.core [g]
            let (x, bad) := if g.frame.hole then (0, false) else s.wordAt l g.lineOff 8 view
            let v : W64 := BitVec.ofNat 64 x
            if bad then trap cPoison 0 s
            else if waitHolds op v t then .ok (.fall, s.wr f.d v)
            else if g.frame.hole then .ok (.leave, s.parkRec s.core w)
            else if 16384 ≤ (s.homes.waiters.filter fun q => homeAgent q.addr = homeAgent g.addr).length then
              .error .stall
            else
              let s := s.recallShared l
              let s : State := { s with homes := { s.homes with
                waiters := s.homes.waiters ++ [⟨g.addr, c.recDie, c.recSlot, 0, t, op, view⟩] } }
              .ok (.leave, s.parkRec s.core w)

/-- SIGWAIT (R346). -/
def execSigwait (f : FM) (s : State) : Outcome State Fault Refusal :=
  issue f.g false false (waitBody (.sigwait f) f 0) s

/-- AWAIT (R346): hint 0 waits for a change, hint 1 for equality. -/
def execAwait (f : FM) (s : State) : Outcome State Fault Refusal :=
  issue f.g false false (waitBody (.await f) f (if f.hint = 1 then 2 else 1)) s

/-- The record of a core parks at the remote home that has answered its wait (R347); a stall that C has left ends. -/
def State.parkRemote (s : State) (n : Nat) (f : FM) (op : Nat) (r : Req) : State :=
  (s.modCore n fun c => c.dropReq r.num).atReq n r.num fun s =>
    let s := s.modCore n fun c => { c with cwait := .none }
    let c := s.coreAt n
    let a := (r.segs.map (·.addr)).headD 0
    if c.inside.isSome then s
    else s.parkRec n (.signal c.ctx r.tokIndex (r.peer + 16) a r.xval op f.d.toNat r.pc)

/-- A remote wait goes on after its answer: it met poison (8 or more), the condition held (status 1), the record is parked at the
remote home (0), or that home had no room (2) and the form issues again. The record of a C that runs a handler parks when C
returns to the form.
Log 72: DEDUCED, unsafe. -/
def State.resumeWait (s : State) (n : Nat) (f : FM) (op : Nat) (r : Req) : Except Fault State :=
  let s := s.flight (s.coreAt n).ctx r.tokIndex false
  if 8 ≤ r.status then s.continueC n r fun s => trap cPoison 0 s
  else if r.status = 1 then s.continueC n r fun s => .ok (.fall, s.wr f.d (r.result.getD 0))
  else if r.status = 2 then s.continueC n r fun s => .ok (.stay, s)
  else match (s.coreAt n).frozenAt r.num with
    | some z => .ok (if z.here then s else s.parkRemote n f op r)
    | none => .ok (s.parkRemote n f op r)

/-- A waiter that is parked at another chip is taken away there. -/
def State.unpark (s : State) (peer addr die slot : Nat) : State :=
  s.send { s.packet 6 peer 6 with
    line := lineNo addr, op := 5, body := [BitVec.ofNat 64 addr, BitVec.ofNat 64 die, BitVec.ofNat 64 slot] }

/-- C has returned to a wait that its home has parked meanwhile: the record parks, or the form issues again when its token
has been revoked since (R347).
Log 79: DEDUCED, unsafe. -/
def State.parkKept (s : State) (n : Nat) : State :=
  let c := s.coreAt n
  match c.reqs.find? fun r => r.kept && c.cwait = .request && r.num = c.waitsAt with
  | some r =>
    let e := s.cab c.ctx r.tokIndex
    if e.state ≠ .live ∨ e.gen ≠ tokGen r.tok then
      (s.modCore n fun c => { c.dropReq r.num with cwait := .none }).unpark r.peer ((r.segs.map (·.addr)).headD 0) c.recDie c.recSlot
    else match r.instr with
    | .sigwait f => s.parkRemote n f 0 r
    | .await f => s.parkRemote n f (if f.hint = 1 then 2 else 1) r
    | _ => s
  | none => s

/-- C's outstanding request goes on after an answer (R172). -/
def State.answerC (s : State) (n : Nat) (r : Req) : Except Fault State :=
  match r.instr with
  | .feed f => s.resumeFeed n f r
  | .sigwait f => s.resumeWait n f 0 r
  | .await f => s.resumeWait n f (if f.hint = 1 then 2 else 1) r
  | _ => .ok s

/-! ### Barriers and phases (R348 to R350) -/

/-- The value of a counter of a group. -/
def countOf {κ : Type} [DecidableEq κ] (l : List (κ × BitVec 32)) (k : κ) : BitVec 32 :=
  ((l.find? fun p => p.1 = k).map (·.2)).getD 0

/-- Sets a counter of a group. -/
def setCount {κ : Type} [DecidableEq κ] (l : List (κ × BitVec 32)) (k : κ) (v : BitVec 32) :
    List (κ × BitVec 32) := (l.filter fun p => p.1 ≠ k) ++ [(k, v)]

/-- The signed 32-bit difference a - b is not negative.
Log 67: DEDUCED, safe. -/
def atLeast (a b : BitVec 32) : Bool := !(a - b).getLsbD 31

/-- The group that an FI form names, when the issuing core is a member of it (R348). -/
def State.formGroup (s : State) (f : FI) : Option (GroupKey × Group) :=
  let c := s.cur
  let i := f.imm.toNat % 256
  match s.groupAt c.launchDie c.launch i with
  | some g => if g.has s.core then some (⟨c.launchDie, c.launch, i⟩, g) else none
  | none => none

/-- Every member of the group has arrived at count `b`, as the core knows it (R349, R111). -/
def State.barrierMet (s : State) (k : GroupKey) (g : Group) (b : BitVec 32) : Bool :=
  g.list.all fun m => atLeast (if m = s.core then countOf s.cur.bars k else countOf s.cur.heardBars (k, m)) b

/-- The second stall of `gbar`.
Log 67: DEDUCED, safe. -/
def gbarWait (f : FI) (k : GroupKey) (g : Group) (b : BitVec 32) : Act Flow := fun s =>
  if s.barrierMet k g b then
    .ok (.fall, (s.modCur fun c => { c with arrived := none }).wr f.d (b.setWidth 64))
  else .ok (.stay, s)

/-- GBAR (R348, R349).
Log 67: DEDUCED, safe. -/
def execGbar (f : FI) (s : State) : Outcome State Fault Refusal :=
  issue f.g false false (fun s =>
    match s.formGroup f with
    | none => trap cIllegal 0 s
    | some (k, g) =>
      let c := s.cur
      match c.arrived with
      | some (k', b) => if k' = k then gbarWait f k g b s else .error .stall
      | none =>
        if c.loads .c ≠ 0 ∨ c.stores .c ≠ 0 ∨ c.loads .a ≠ 0 ∨ c.stores .a ≠ 0 then .error .stall
        else
          let b := countOf c.bars k + 1
          let s := s.modCur fun c => { c with bars := setCount c.bars k b, arrived := some (k, b) }
          let s := s.post ((g.list.filter fun m => m ≠ s.core).map fun m =>
            .barrierCountArrival m s.core k b)
          gbarWait f k g b s) s

/-- The neighbours of a member in the ring of its group (R110). -/
def Group.neighbours (g : Group) (core : Nat) : List Nat :=
  let l := g.list
  let k := l.length
  let i := l.idxOf core
  if k ≤ 1 then [] else [l.getD ((i + k - 1) % k) core, l.getD ((i + 1) % k) core]

/-- PHASE (R348, R350, R110).
Log 67: DEDUCED, safe. -/
def execPhase (f : FI) (s : State) : Outcome State Fault Refusal :=
  issue f.g false false (fun s =>
    match s.formGroup f with
    | none => trap cIllegal 0 s
    | some (k, g) =>
      let c := s.cur
      let v := countOf c.phases k + 1
      let nb := g.neighbours s.core
      if nb.all fun m => atLeast (countOf c.heardPhases (k, m) + BitVec.ofNat 32 g.lead) v then
        let s := s.modCur fun c => { c with phases := setCount c.phases k v }
        let s := s.post (nb.eraseDups.map fun m => .phaseCountArrival m s.core k v)
        .ok (.fall, s.wr f.d (v.setWidth 64))
      else .error .stall) s

/-- PHASE_COUNT_ARRIVAL (R111).
Log 67: DEDUCED, safe. -/
def execPhaseCountArrival (dst src : Nat) (group : GroupKey) (value : BitVec 32) (s : State) :
    Outcome State Fault Refusal :=
  .next (s.modCore dst fun c => { c with heardPhases := setCount c.heardPhases (group, src) value })

/-- BARRIER_COUNT_ARRIVAL (R349).
Log 67: DEDUCED, safe. -/
def execBarrierCountArrival (dst src : Nat) (group : GroupKey) (value : BitVec 32) (s : State) :
    Outcome State Fault Refusal :=
  .next (s.modCore dst fun c => { c with heardBars := setCount c.heardBars (group, src) value })

/-! ### The fetch of a line (R30, R31) -/

/-- The checks of R31 on the bits of a line, and then the stream has it. -/
def State.takeLine (s : State) (n : Nat) (st : Stream) (line : BitVec 512) : State :=
  let v := (s.coreAt n).stream st
  let code : Nat := (line.extractLsb' 29 3).toNat
  let order := if code ≠ streamCode st then 2
    else if line.extractLsb' 24 4 ≠ 0 then 3
    else if line.getLsbD 28 ≠ v.residual then 4 else 0
  if order ≠ 0 then s.raiseAt n st { code := cIllegal, info := order }
  else s.modCore n fun c => c.modStream st fun v => { v with line := some line, lineAt := lineOf v.pc }

/-- The sectors of a remote line that a fetch reads (R358). -/
def fetchSect (segs : List Seg) (p : Nat × Nat) : Nat :=
  sectorsOf ((segs.filter fun g => g.frame.peer = p.1 && lineNo g.addr = p.2 && !g.frame.hole).foldl
    (fun m g => m ||| byteMask g.lineOff g.len) 0)

/-- The bytes of a fetched line, from its homes here and from the lines that have arrived. -/
def State.fetchBytes (s : State) (f : Fetch) : List Byte :=
  f.segs.flatMap fun g =>
    if g.frame.hole then List.replicate g.len 0
    else if s.isRemote g.frame then
      bytesOf g.len (lineBytes ((gotLine f.got g.frame.peer (lineNo g.addr)).map (·.1) |>.getD 0) g.lineOff g.len)
    else s.physBytes g.addr g.len

/-- LINE_FETCH (R30 to R32): a stream that fell off its chain raises CHAIN_END; any other reads the line of
its PC and checks it. A line of another chip is asked for, and read at one point where it lies in one page.
Log 21: DEDUCED, unsafe. -/
def execLineFetch (core : Nat) (str : Stream) (s : State) : Outcome State Fault Refusal :=
  let c := s.coreAt core
  let v := c.stream str
  if c.mode ≠ .running ∨ v.awaiting.isSome ∨ v.line.isSome then .next s
  else if v.fell then .next (s.raiseAt core str { code := cChainEnd })
  else match s.launchAt c.launchDie c.launch with
    | none => .next (s.raiseAt core str { code := cStale })
    | some l =>
      let a := (lineOf v.pc).toNat
      match s.checkOn core c.ctx l.image (if v.residual then 0 else a) (if v.residual then 0 else 64) needX with
      | .error e => .next (s.raiseAt core str { code := e })
      | .ok e =>
        let s := s.noteToken core c.ctx (tokIndex l.image)
        if v.residual then
          match (l.residual.map fun r => r.lines).getD [] |>.drop (a / 64) with
          | line :: _ => .next (s.takeLine core str line)
          | [] => .next (s.raiseAt core str { code := cBounds })
        else match s.entUnmapped e a 64 with
          | some p => .fault (.unmappedPhysical p)
          | none =>
            let segs := e.elemSegs 0 a 64
            let needs := (segs.filterMap fun g =>
              if s.isRemote g.frame then some (g.frame.peer, lineNo g.addr) else none).eraseDups
            if segs.any s.movedPart then .next (s.raiseAt core str { code := cStale })
            else if needs.isEmpty then
              .next (s.takeLine core str (BitVec.ofNat 512 (natOfBytes (s.entBytes e a 64))))
            else match needs.find? fun p => !s.hasRoute p.1 with
              | some p => .next (s.raiseAt core str { code := cPeer, info := p.1 % 4096 * 16 })
              | none =>
                if s.fab.reconf ≠ .run then .next s
                else
                  let read : Nat × Nat → Packet := fun p => { s.reqPacket core str 0 p.1 1 0 p.2 with
                    sect := fetchSect segs p
                    body := [BitVec.allOnes 64, s.viewWord 0, pageWord c.ctx (frameOf segs p.1 p.2), BitVec.ofNat 64 (2 + streamCode str)] }
                  -- the two lines of a page in which a code line lies are read as one
                  let s := if oneRun needs && (segs.map (·.frame)).eraseDups.length = 1
                    then s.send (packetLines (read (needs.getD 0 (0, 0))) needs.length)
                    else needs.foldl (fun s p => s.send (read p)) s
                  let s := s.flight c.ctx (tokIndex l.image) true
                  .next (s.modCore core fun c => c.modStream str fun v => { v with
                    awaiting := some ⟨lineOf v.pc, tokIndex l.image, segs, needs, []⟩ })

end Sys2Proof.Machine
end

