-- ==== Sys2Proof/Machine/Tokens.lean ====
section
/-! DEFINITION. Translation, the Cabinet and revocation: the walk and its refusals (R159 to R162, R167,
R168), pins (R169), the entry states (R163 to R166), the token instructions (R199 to R203), the steps of a
revocation (R173 to R175), and the supervisor forms on Cabinets, TLBs and page classes (R396, R397). -/

namespace Sys2Proof.Machine

open Host (Outcome)

/-! ### Status codes (R167) -/

/-- OK. -/
def stOk : Nat := 0
/-- PARTIAL. -/
def stPartial : Nat := 1
/-- NONCANON. -/
def stNonCanon : Nat := 2
/-- RANGE. -/
def stRange : Nat := 3
/-- NOMAP. -/
def stNoMap : Nat := 4
/-- BADPTE. -/
def stBadPte : Nat := 5
/-- PERM. -/
def stPerm : Nat := 6
/-- BADFRAME. -/
def stBadFrame : Nat := 7
/-- NOENTRY. -/
def stNoEntry : Nat := 8
/-- NOROOM. -/
def stNoRoom : Nat := 9
/-- RETIRED. -/
def stRetired : Nat := 10
/-- UNREACHABLE. -/
def stUnreachable : Nat := 11

/-! ### The walk (R159 to R162) -/

/-- The bits of the page that a leaf of a level maps, and the lowest bit of the level's index. -/
def levelShift (level : Nat) : Nat := if level = 0 then 46 else if level = 1 then 36 else if level = 2 then 26 else 16

/-- The number of index bits of a level. -/
def levelBits (level : Nat) : Nat := if level = 0 then 11 else 10

/-- The leaf that word 0 and word 1 of an entry describe, for the page that holds `va` (R161), or the
refusal. -/
def readLeaf (ctx level va w0 w1 : Nat) : Except Nat TlbEntry :=
  let bits := levelShift level
  let addr := bitsOf w0 39 14 * 2 ^ 14
  let mode := bitsOf w0 56 55
  if level = 0 ∨ bitsOf w0 54 53 = 3 ∨ addr % 2 ^ bits ≠ 0 then .error stBadPte
  else .ok
    { ctx := ctx
      frame :=
        { vpage := va / 2 ^ bits * 2 ^ bits, bits := bits, hole := !bitOf w0 61, mode := mode,
          cls := bitsOf w0 54 53, bundle := bitOf w0 52, zpage := bitOf w0 51,
          peer := if mode = 0 then 0 else bitsOf w1 63 52, addr := addr }
      perm := BitVec.ofNat 4 (bitsOf w0 60 57)
      present := bitOf w0 61
      tier := bitsOf w0 50 50 }

/-- The walk for the page that holds `va`, from the table at `table` of a level (R159, R161, R167). A table that lies where
no memory is reads as zeros, which ends the walk in NOMAP.
Log 48: DEDUCED, unsafe. -/
def State.walkFrom (s : State) (ctx va : Nat) : Nat → Nat → Nat → Except Nat TlbEntry
  | 0, _, _ => .error stBadPte
  | fuel + 1, level, table =>
    let i := va / 2 ^ levelShift level % 2 ^ levelBits level
    let w0 := s.physNat (table + 16 * i) 8
    let w1 := s.physNat (table + 16 * i + 8) 8
    if !bitOf w0 63 then .error stNoMap
    else if bitsOf w0 49 40 ≠ 0 ∨ bitsOf w0 13 0 ≠ 0 ∨ bitsOf w1 51 0 ≠ 0 then .error stBadPte
    else if bitOf w0 62 then readLeaf ctx level va w0 w1
    else if level = 3 ∨ bitsOf w0 61 50 ≠ 0 ∨ w1 ≠ 0 then .error stBadPte
    else s.walkFrom ctx va fuel (level + 1) (bitsOf w0 39 14 * 2 ^ 14)

/-- The leaf for a page: none while the context has no page tables (R160); otherwise the die's TLB when it holds it,
or a walk, which enters the TLB (R162).
Log 48: DEDUCED, unsafe. -/
def State.leafOf (s : State) (die ctx va : Nat) : Except Nat TlbEntry × State :=
  let p := (s.ctxAt ctx).ptbase
  if !p.getLsbD 63 then (.error stNoMap, s)
  else match (s.dieAt die).tlb.find? fun t =>
      t.ctx = ctx && t.frame.vpage ≤ va && va < t.frame.vpage + 2 ^ t.frame.bits with
  | some t => (.ok t, s)
  | none => match s.walkFrom ctx va 4 0 (bitsOf p.toNat 39 15 * 2 ^ 15) with
    | .error e => (.error e, s)
    | .ok t => (.ok t, s.modDie die fun d => { d with tlb := (t :: d.tlb).take 65536 })

/-- A frame lies in memory of its home (R14, R167). -/
def Frame.good (f : Frame) : Bool := isMapped f.addr && isMapped (f.addr + 2 ^ f.bits - 1)

/-- The checks at a page's leaf, in the order of R167. -/
def State.checkLeaf (s : State) (want : BitVec 4) (t : TlbEntry) : Option Nat :=
  if want &&& ~~~t.perm ≠ 0 then some stPerm
  else if !t.present ∧ want ≠ needR then some stPartial
  else if !t.frame.good then some stBadFrame
  else if t.frame.mode ≠ 0 ∧ t.frame.peer ≠ s.ownPeer ∧ !s.hasRoute t.frame.peer then some stUnreachable
  else none

/-- The pages of [va, stop), in ascending order, or the first refusal (R167). -/
def State.walkPages (s : State) (die ctx : Nat) (want : BitVec 4) (stop : Nat) :
    Nat → Nat → List Frame → Except Nat (List Frame) × State
  | 0, _, acc => (.ok acc, s)
  | fuel + 1, va, acc =>
    if stop ≤ va then (.ok acc, s)
    else match s.leafOf die ctx va with
      | (.error e, s) => (.error e, s)
      | (.ok t, s) => match s.checkLeaf want t with
        | some e => (.error e, s)
        | none => s.walkPages die ctx want stop fuel (t.frame.vpage + 2 ^ t.frame.bits) (acc ++ [t.frame])

/-- The number of top descriptors of an extent (R168). -/
def chunkCount (vb len : Nat) : Nat := (vb + len - 1) / 2 ^ 26 - vb / 2 ^ 26 + 1

/-- The frame-list units of an extent (R168).
Log 23: DESIGN CHOICE, safe. -/
def frameUnits (vb len : Nat) (frames : List Frame) : Nat :=
  let nchunk := chunkCount vb len
  let subs := ((frames.filter fun f => f.bits = 16).map fun f => f.vpage / 2 ^ 26).eraseDups.length
  (8 * nchunk + 4095) / 4096 + 2 * subs

/-- A frame descriptor (R168) of a page's leaf fields for an address. -/
def Frame.descriptor (f : Frame) (addr : Nat) : W64 :=
  BitVec.ofNat 64 (natOfBool f.hole * 2 ^ 63 + f.mode * 2 ^ 60 + f.cls * 2 ^ 58 + natOfBool f.bundle * 2 ^ 57 +
    natOfBool f.zpage * 2 ^ 56 + (if f.mode = 0 then 0 else f.peer) * 2 ^ 44 + addr / 2 ^ 13 * 2 ^ 13)

/-- The virtual address of chunk `k` of an extent. -/
def CabEntry.chunkAt (e : CabEntry) (k : Nat) : Nat := (e.vbase.toNat / 2 ^ 26 + k) * 2 ^ 26

/-- The top list of an entry of a context (R168): a descriptor for each chunk, of its frame or of its sub-list.
Log 23: DESIGN CHOICE, safe. -/
def CabEntry.topList (e : CabEntry) (ctx i : Nat) : List W64 :=
  (List.range e.nchunk).map fun k =>
    let c := e.chunkAt k
    match e.frames.find? fun f => f.vpage < c + 2 ^ 26 && c < f.vpage + 2 ^ f.bits with
    | none => 0
    | some f =>
      if f.bits = 16 then BitVec.ofNat 64 (2 ^ 62 + (Config.subListAt ctx i e.gen k).toNat * 2 ^ 13)
      else f.descriptor (f.addr + (c - f.vpage))

/-- The sub-list of chunk `k` of an entry (R168): the descriptors of its pages of 64 KiB, zero for those that the extent
does not touch. -/
def CabEntry.subList (e : CabEntry) (k : Nat) : List W64 :=
  (List.range 1024).map fun j =>
    match e.frames.find? fun f => f.bits = 16 && f.vpage = e.chunkAt k + j * 2 ^ 16 with
    | some f => f.descriptor f.addr
    | none => 0

/-- The operand refusals (R167, first step). -/
def operandStatus (vb len : Nat) (want : BitVec 4) : Nat :=
  if 2 ^ 57 ≤ vb then stNonCanon
  else if len = 0 ∨ 2 ^ 40 < len ∨ 2 ^ 57 < vb + len then stRange
  else if want = 0 then stPerm
  else stOk

/-! ### Pins (R169) -/

/-- Adds to or takes from the pin count of a frame of this module. -/
def State.pin (s : State) (addr : Nat) (up : Bool) : State :=
  let k := addr / 65536
  let n := SMap.get 0 s.homes.pins k
  { s with homes := { s.homes with pins := SMap.set 0 s.homes.pins k (if up then n + 1 else n - 1) } }

/-- A home learns how a page is mapped when an entry pins its frame: mapped without B while no entry held it, its lines hold
no versions any more, so that a page that is mapped with B afterwards begins with the frame's contents (R316).
Log 42: DEDUCED, unsafe. -/
def State.mapFrame (s : State) (addr bits : Nat) (bundle : Bool) : State :=
  if bundle ∨ SMap.get 0 s.homes.pins (addr / 65536) ≠ 0 then s else s.clearBLines addr (2 ^ bits)

/-- A pin (op 1) or unpin (op 2) request of a core's die to a frame's remote home; a translation's carries its tag, and the
second word how the page is mapped. -/
def State.pinPacket (s : State) (core : Nat) (f : Frame) (op tag : Nat) : Packet :=
  { s.packet 6 f.peer 6 with
    sdie := dieOf core, score := core % 32, sstr := 0, line := lineNo f.addr, op := op
    body := [BitVec.ofNat 64 tag, BitVec.ofNat 64 (natOfBool f.bundle + 2 * f.bits)] }

/-- Pins or unpins the frames of a list whose home is on this module, and sends the requests for the
others; holes carry no pin.
Log 33: DEDUCED, unsafe. -/
def State.pinAll (s : State) (core : Nat) (frames : List Frame) (up : Bool) (tag : Nat := 0) : State :=
  frames.foldl (fun s f =>
    if f.hole then s
    else if s.isRemote f then s.send (s.pinPacket core f (if up then 1 else 2) tag)
    else if up then (s.mapFrame f.addr f.bits f.bundle).pin f.addr true
    else s.pin f.addr false) s

/-! ### Entries -/

/-- The code of an entry's state (R165). -/
def CabState.code : CabState → Nat
  | .free => 0
  | .busy => 1
  | .live => 2
  | .draining => 3
  | .stale => 4
  | .retired => 5

/-- The ctl word of an entry (R163). -/
def CabEntry.ctl (e : CabEntry) : W64 :=
  BitVec.ofNat 64 (e.state.code * 2 ^ 61 + e.gen * 2 ^ 28 + e.rights.toNat * 2 ^ 24 + natOfBool e.holes * 2)

/-- The 64 bytes of an entry in the Cabinet, as eight words (R163). -/
def CabEntry.words (e : CabEntry) : List W64 :=
  [e.vbase, e.length, e.ctl, e.flist, BitVec.ofNat 64 e.nchunk, 0, 0, 0]

/-- A word of the Cabinet of a context, by its physical address (R163, R410): the Cabinet lies in protected memory, which
no access of a program reaches.
Log 22: DESIGN CHOICE, unsafe. -/
def State.cabinetWord (s : State) (ctx a : Nat) : W64 :=
  let o := a - (s.ctxAt ctx).cabinetAt
  (s.cab ctx (o / 64)).words.getD (o % 64 / 8) 0

/-- The largest generation. -/
def maxGen : Nat := 0xFFFFFF

/-- The lowest-numbered FREE entry whose generation can rise; FREE entries before it whose generation
cannot are retired (R165 to R167). -/
def State.chooseEntry (s : State) (ctx : Nat) : Option Nat × State :=
  let rec go (fuel i : Nat) (s : State) : Option Nat × State :=
    match fuel with
    | 0 => (none, s)
    | f + 1 =>
      if 4096 ≤ i then (none, s)
      else
        let e := s.cab ctx i
        if e.state ≠ .free then go f (i + 1) s
        else if e.gen = maxGen then go f (i + 1) (s.modCab ctx i fun e => { e with state := .retired })
        else (some i, s)
  go 4096 0 s

/-- Releases the frame list of an entry: its units return to the pool. -/
def State.releaseFrames (s : State) (ctx i : Nat) : State :=
  let u := (s.cab ctx i).units
  (s.modCab ctx i fun e => { e with frames := [], units := 0, flist := 0, nchunk := 0 }).modCtx ctx fun c =>
    { c with frameUsed := c.frameUsed - u }

/-- A revocation's signal word gains 1, and the count on its entry is given back (R173, R396). -/
def State.revoked (s : State) (l : List SigRef) : State :=
  l.foldl (fun s g => s.signalWord 0 g 1 [2, g.ctx, tokIndex g.tok]) s

/-- Revocation wakes the waiters of an entry, whose form issues again, and the context's sleeping feeds
(R158, R347).
Log 33: DEDUCED, unsafe. -/
def State.wakeRevoked (s : State) (ctx i : Nat) : State :=
  let s := (List.range 4).foldl (fun s d =>
    (s.dieAt d).recs.foldl (fun s p =>
      match p.2.state, p.2.wait with
      | .waiting, .signal c k home addr _ _ _ pc =>
        if c = ctx ∧ k = i ∧ !s.events.contains (.waiterWake d p.1) then
          let s := s.modRec d p.1 fun r => { r with pc := pc }
          -- a waiter that is parked at another chip is taken away there
          let s := if 16 ≤ home then s.unpark (home - 16) addr d p.1 else s
          let s : State := { s with homes := { s.homes with
            waiters := s.homes.waiters.filter fun w =>
              !(w.addr = addr && w.recDie = d && w.recSlot = p.1 && w.peer = 0) } }
          s.post [.waiterWake d p.1]
        else s
      | _, _ => s) s) s
  s.post ((s.homes.feedSleepers.filter fun p => p.1 < 128 && (s.coreAt p.1).ctx = ctx).map fun p => .feedWake p.1)

/-- Step 1 of R173 on a LIVE entry, and the events of steps 2 to 4. -/
def State.startDrain (s : State) (ctx i : Nat) (kind : DrainKind) (waiters : List SigRef) : State :=
  let s := s.modCab ctx i fun e =>
    { e with state := .draining, drain := kind, retire := e.gen == maxGen,
             gen := if e.gen = maxGen then e.gen else e.gen + 1, waiters := waiters }
  let s := s.wakeRevoked ctx i
  let holders := (s.cores.filter fun p => (p.2.cachedEntry ctx i).isSome).map fun p =>
    Event.shootDown p.1 ctx i
  s.post (holders ++ [.drainComplete ctx i])

/-! ### The operations on an entry (R165, R175) -/

/-- C waits for an operation on an entry: one that is queued behind others, or one that is under way (R175). -/
def CWait.onEntry (i : Nat) (queued : Bool) : CWait → Bool
  | .translation _ _ j _ _ _ _ _ _ _ => j == i && !queued
  | .drain _ _ j kind => j == i && ((kind == 3) == queued)
  | _ => false

/-- C waits for nothing yet: the form issues. -/
def CWait.nothing (w : CWait) : Bool := w = .none

/-- C's status is written and C goes on from the wait that `p` accepts (R199). -/
def State.answerStatus (s : State) (core d st : Nat) (p : CWait → Bool) : State :=
  s.atWait core p fun s =>
    let s := s.modCore core fun c => { c.setScalar .c d (BitVec.ofNat 64 st) with cwait := .none }
    ({ s with core := core, str := .c }).advance false

/-- An operation on the entry waits for the one under way. -/
def CabEntry.waits (e : CabEntry) : Bool := e.state = .busy || e.state = .draining

/-- An operation joins those that wait on an entry. -/
def State.joinLater (s : State) (ctx i : Nat) (op : LaterOp) : State :=
  s.modCab ctx i fun e => { e with later := e.later ++ [op] }

/-- A core waits for an operation of its on an entry: kind 1 `tdrop`, 2 `refresh`, 3 either in the queue. -/
def State.waitsFor (s : State) (core d k i kind : Nat) (p : CWait → Bool) : State :=
  s.atWait core p fun s => s.modCore core fun c => { c with cwait := .drain d k i kind }

/-- C's translation of an entry begins at the wait that `p` accepts: the entry is BUSY. -/
def State.beginXlatOn (s : State) (core d k i : Nat) (vb len : W64) (want : BitVec 4) (fresh : Bool) (p : CWait → Bool) :
    State :=
  let s := s.modCab (s.coreAt core).ctx i fun e => { e with state := .busy }
  let s := s.atWait core p fun s =>
    s.modCore core fun c => { c with cwait := .translation d k i vb len want fresh [] 0 false }
  s.post [.translationComplete core]

/-- The status of a `refresh` that changes nothing (R201). -/
def CabEntry.refreshStatus (e : CabEntry) (t : W64) : Option Nat :=
  if e.state = .retired then some stRetired
  else if e.state = .free ∨ e.gen ≠ tokGen t then some stNoEntry
  else none

/-- The status of a `tdrop` that changes nothing (R202). -/
def CabEntry.tdropStatus (e : CabEntry) (t : W64) : Option Nat :=
  match e.state with
  | .retired => some stRetired
  | .live => if e.gen = tokGen t then none else some stNoEntry
  | .stale => if e.gen = tokGen t ∨ e.gen = tokGen t + 1 then none else some stNoEntry
  | _ => some stNoEntry

/-- A `refresh` acts on an entry that is LIVE or STALE (R201). -/
def State.refreshEntry (s : State) (core d k i : Nat) (p : CWait → Bool) : State :=
  let ctx := (s.coreAt core).ctx
  let e := s.cab ctx i
  if e.state = .live then (s.waitsFor core d k i 2 p).startDrain ctx i .refresh []
  else s.beginXlatOn core d k i e.vbase e.length e.rights false p

/-- An operation acts on the state of an entry, which no other is changing. -/
def State.operate (s : State) (ctx i : Nat) (op : LaterOp) : State :=
  let e := s.cab ctx i
  let p := CWait.onEntry i true
  match op with
  | .revoke g => if e.state = .live then s.startDrain ctx i .revoke [g] else s.revoked [g]
  | .refresh n d k t => match e.refreshStatus t with
    | some st => s.answerStatus n d st p
    | none => s.refreshEntry n d k i p
  | .tdrop n d k t => match e.tdropStatus t with
    | some st => s.answerStatus n d st p
    | none =>
      if e.state = .live then (s.waitsFor n d k i 1 p).startDrain ctx i .drop []
      else (s.modCab ctx i fun e => { e with state := .free }).answerStatus n d stOk p

/-- The operations that waited for one on an entry act in turn, each on the state that the one before it leaves, until one
is under way again (R175). -/
def State.runLater (s : State) (ctx i : Nat) : State :=
  let l := (s.cab ctx i).later
  let s := s.modCab ctx i fun e => { e with later := [] }
  l.foldl (fun s op => if (s.cab ctx i).waits then s.joinLater ctx i op else s.operate ctx i op) s

/-! ### Completing a translation -/

/-- A translation ends refused: FREE for `xlat`, STALE for `refresh` (R165). -/
def State.refuseXlat (s : State) (core d i : Nat) (fresh : Bool) (st : Nat) : State :=
  let ctx := (s.coreAt core).ctx
  let s := s.modCab ctx i fun e => { e with state := if fresh then .free else .stale }
  (s.answerStatus core d st (CWait.onEntry i false)).runLater ctx i

/-- A translation succeeds: the entry is LIVE and the token is written (R165, R200, R201). -/
def State.acceptXlat (s : State) (core d k i : Nat) (want : BitVec 4) (fresh : Bool) : State :=
  let ctx := (s.coreAt core).ctx
  let s := s.modCab ctx i fun e => { e with state := .live, gen := if fresh then e.gen + 1 else e.gen }
  let t := mkToken i (s.cab ctx i).gen want
  ((s.modCore core fun c => c.setTok k t).answerStatus core d stOk (CWait.onEntry i false)).runLater ctx i

/-- C waits for the walk of a translation, whose pin requests have not been sent. -/
def CWait.walks : CWait → Bool
  | .translation _ _ _ _ _ _ _ left _ _ => left.isEmpty
  | _ => false

/-- TRANSLATION_COMPLETE (R167 to R169): the walk, the frame lists, the pins, then the status and the
token. With frames on other chips it waits for their homes.
Log 23: DESIGN CHOICE, safe. -/
def execTranslationComplete (core : Nat) (s : State) : Outcome State Fault Refusal :=
  let ctx := (s.coreAt core).ctx
  match (s.coreAt core).waitOf CWait.walks with
  | .translation d k i vb len want fresh [] _ _ =>
    if (s.cab ctx i).state ≠ .busy then .next s
    else
      let n := len.toNat / 65536 + 2
      match s.walkPages (dieOf core) ctx want (vb.toNat + len.toNat) n vb.toNat [] with
      | (.error st, s) => .next (s.refuseXlat core d i fresh st)
      | (.ok frames, s) =>
        let u := frameUnits vb.toNat len.toNat frames
        let x := s.ctxAt ctx
        if x.frameUnits < x.frameUsed + u then .next (s.refuseXlat core d i fresh stNoRoom)
        else
          let s := s.modCtx ctx fun c => { c with frameUsed := c.frameUsed + u }
          let s := s.modCab ctx i fun e =>
            { e with vbase := vb, length := len, rights := want, frames := frames, units := u,
                     nchunk := chunkCount vb.toNat len.toNat,
                     flist := BitVec.ofNat 64 ((Config.frameListAt ctx i (if fresh then e.gen + 1 else e.gen)).toNat * 8),
                     holes := frames.any (·.hole) }
          let far := (frames.filter fun f => !f.hole && s.isRemote f).map fun f => (f.peer, lineNo f.addr)
          let s := s.pinAll core frames true s.time
          if far.isEmpty then .next (s.acceptXlat core d k i want fresh)
          else .next (s.atWait core (CWait.onEntry i false) fun s => s.modCore core fun c =>
            { c with cwait := .translation d k i vb len want fresh far s.time false })
  | _ => .next s

/-- The translation goes on after an answer to a pin request: with the last, it ends. -/
def State.pinsLeft (s : State) (core d k i : Nat) (vb len : W64) (want : BitVec 4) (fresh : Bool)
    (left : List (Nat × Nat)) (tag : Nat) (failed : Bool) : State :=
  if !left.isEmpty then
    s.atWait core (CWait.onEntry i false) fun s =>
      s.modCore core fun c => { c with cwait := .translation d k i vb len want fresh left tag failed }
  else if failed then (s.releaseFrames (s.coreAt core).ctx i).refuseXlat core d i fresh stUnreachable
  else s.acceptXlat core d k i want fresh

/-- The frames of a list but for those at the lines of `left`, each once. -/
def framesBut (frames : List Frame) (left : List (Nat × Nat)) : List Frame :=
  left.foldl (fun l p => match l.find? fun f => f.peer = p.1 && lineNo f.addr = p.2 && f.mode ≠ 0 && !f.hole with
    | some f => l.erase f
    | none => l) frames

/-- C waits for the answer to a pin request. -/
def CWait.pins (peer line tag : Nat) : CWait → Bool
  | .translation _ _ _ _ _ _ _ left tag' _ => tag == tag' && left.contains (peer, line)
  | _ => false

/-- A home answers a pin request of a translation under way (R169); after a refusal the pin is released at once (R167).
An answer to any other request says nothing. -/
def State.pinAnswered (s : State) (core peer line tag : Nat) : State :=
  match (s.coreAt core).waitOf (CWait.pins peer line tag) with
  | .translation d k i vb len want fresh left _ failed =>
      let s := if failed then
          s.send { s.packet 6 peer 6 with sdie := dieOf core, score := core % 32, line := line, op := 2, body := [0] }
        else s
      s.pinsLeft core d k i vb len want fresh (left.erase (peer, line)) tag failed
  | _ => s

/-- A pin request of a translation is handed back undelivered: every pin that it has taken is released, and with the last
answer the status is UNREACHABLE (R167). -/
def State.pinFailed (s : State) (core peer line tag : Nat) : State :=
  match (s.coreAt core).waitOf (CWait.pins peer line tag) with
  | .translation d k i vb len want fresh left _ failed =>
      let s := if failed then s
        else s.pinAll core (framesBut (s.cab (s.coreAt core).ctx i).frames left) false
      s.pinsLeft core d k i vb len want fresh (left.erase (peer, line)) tag true
  | _ => s

/-- The translations of a core whose continuation ends are refused: their pins are released, those under way too. -/
def State.cancelXlat (s : State) (core : Nat) : State :=
  let ctx := (s.coreAt core).ctx
  (s.coreAt core).waits.foldl (fun s w => match w with
    | .translation _ _ i _ _ _ fresh left _ failed =>
      let frames := (s.cab ctx i).frames
      let s := if failed then s else s.pinAll core (if left.isEmpty then [] else frames) false
      (s.releaseFrames ctx i).modCab ctx i fun e => { e with state := if fresh then .free else .stale }
    | _ => s) s

/-! ### The token instructions -/

/-- XLAT (R200). -/
def execXlat (f : F3) (s : State) : Outcome State Fault Refusal :=
  issue f.g false false (fun s =>
    let vb := s.rd f.s1
    let len := s.rd f.s2
    let st := operandStatus vb.toNat len.toNat f.fn
    if st ≠ stOk then .ok (.fall, s.wr f.d (BitVec.ofNat 64 st))
    else match s.chooseEntry s.cur.ctx with
      | (none, s) => .ok (.fall, s.wr f.d (BitVec.ofNat 64 stNoEntry))
      | (some i, s) => .ok (.stay, s.beginXlatOn s.core f.d.toNat f.fmt.toNat i vb len f.fn true CWait.nothing)) s

/-- REFRESH (R201): it waits in arrival order while another operation on its entry is under way (R175). -/
def execRefresh (f : F3) (s : State) : Outcome State Fault Refusal :=
  issue f.g false false (fun s =>
    let t := s.cur.tok f.fmt.toNat
    let i := tokIndex t
    let e := s.cab s.cur.ctx i
    if e.waits then
      .ok (.stay, (s.joinLater s.cur.ctx i (.refresh s.core f.d.toNat f.fmt.toNat t)).waitsFor s.core f.d.toNat
        f.fmt.toNat i 3 CWait.nothing)
    else match e.refreshStatus t with
      | some st => .ok (.fall, s.wr f.d (BitVec.ofNat 64 st))
      | none => .ok (.stay, s.refreshEntry s.core f.d.toNat f.fmt.toNat i CWait.nothing)) s

/-- TDROP (R202): it waits in arrival order while another operation on its entry is under way (R175). -/
def execTdrop (f : F3) (s : State) : Outcome State Fault Refusal :=
  issue f.g false false (fun s =>
    let t := s.cur.tok f.fmt.toNat
    let i := tokIndex t
    let e := s.cab s.cur.ctx i
    if e.waits then
      .ok (.stay, (s.joinLater s.cur.ctx i (.tdrop s.core f.d.toNat f.fmt.toNat t)).waitsFor s.core f.d.toNat
        f.fmt.toNat i 3 CWait.nothing)
    else match e.tdropStatus t with
      | some st => .ok (.fall, s.wr f.d (BitVec.ofNat 64 st))
      | none =>
        if e.state = .live then
          .ok (.stay, (s.waitsFor s.core f.d.toNat f.fmt.toNat i 1 CWait.nothing).startDrain s.cur.ctx i .drop [])
        else
          .ok (.fall, (s.modCab s.cur.ctx i fun e => { e with state := .free }).wr f.d (BitVec.ofNat 64 stOk))) s

/-- The entry that the token in a K register names, for `tquery` (R203). -/
def State.queryEntry (s : State) (f : F3) : CabEntry := s.cab s.cur.ctx (tokIndex (s.cur.tok f.fmt.toNat))

/-- TQUERY_CTL (R203). -/
def execTqueryCtl (f : F3) (s : State) : Outcome State Fault Refusal :=
  issueSet f.g (fun s => s.wr f.d (s.queryEntry f).ctl) s

/-- TQUERY_VBASE (R203). -/
def execTqueryVbase (f : F3) (s : State) : Outcome State Fault Refusal :=
  issueSet f.g (fun s => s.wr f.d (s.queryEntry f).vbase) s

/-- TQUERY_LEN (R203). -/
def execTqueryLen (f : F3) (s : State) : Outcome State Fault Refusal :=
  issueSet f.g (fun s => s.wr f.d (s.queryEntry f).length) s

/-- TQUERY_CUR (R203). -/
def execTqueryCur (f : F3) (s : State) : Outcome State Fault Refusal :=
  issueSet f.g (fun s =>
    let t := s.cur.tok f.fmt.toNat
    let e := s.queryEntry f
    let cur := if e.state = .free ∨ e.state = .retired then 0
      else mkToken (tokIndex t) e.gen (tokRights t &&& e.rights)
    (s.modCur fun c => c.setTok f.fmt.toNat cur).wr f.d e.ctl) s

/-- TQUERY_GET (R203). -/
def execTqueryGet (f : F3) (s : State) : Outcome State Fault Refusal :=
  issueSet f.g (fun s => s.wr f.d (s.cur.tok f.fmt.toNat)) s

/-- TQUERY_SET (R203). -/
def execTquerySet (f : F3) (s : State) : Outcome State Fault Refusal :=
  issueSet f.g (fun s => let v := s.rd f.d; s.modCur fun c => c.setTok f.fmt.toNat v) s

/-! ### Shoot-downs and drains -/

/-- Stored bytes of the frames of an entry are on their way to a remote home.
Log 24: DESIGN CHOICE, unsafe. -/
def State.entryLeaving (s : State) (e : CabEntry) : Bool :=
  s.fab.writing.any fun q => e.holdsKey s.ownPeer q.2

/-- SHOOT_DOWN (R173): the core removes the entry from its token cache. Stored bytes of SC, CP and mode CACHE lines of the
entry that it still holds reach their homes first, so that none performs after the revocation. A waiter or a `feed` that a
check before the shoot-down has let sleep wakes (R158, R347).
Log 22: DESIGN CHOICE, unsafe. -/
def execShootDown (core ctx index : Nat) (s : State) : Outcome State Fault Refusal :=
  let s := s.flushEntry core (s.tokenEntry core ctx index)
  .next ((s.modCore core fun c => { c with tcache := c.tcache.filter fun p => p.1 ≠ (ctx, index) }).wakeRevoked ctx index)

/-- The core of a context that waits for the drain of an entry. -/
def State.drainer (s : State) (ctx i : Nat) : Option (Nat × Nat × Nat × Nat) :=
  (s.cores.filterMap fun p =>
    match p.2.waitOf (CWait.onEntry i false) with
    | .drain d k _ kind => if p.2.ctx = ctx then some (p.1, d, k, kind) else none
    | _ => none).head?

/-- Step 4 of R173 and what follows it, once every in-flight count is zero (R165, R166). A wait whose request was in flight
may have parked meanwhile, and wakes (R347). -/
def State.drained (s : State) (ctx i : Nat) : State :=
  let e := s.cab ctx i
  let w := s.drainer ctx i
  let p := CWait.onEntry i false
  let core := (w.map fun q => q.1).getD 0
  let s := ((s.wakeRevoked ctx i).pinAll core e.frames false).releaseFrames ctx i
  let set : CabState → State → State := fun st s =>
    s.modCab ctx i fun e => { e with state := st, retire := false, waiters := [] }
  match e.drain, w with
  | .revoke, _ =>
    ((set (if e.retire then .retired else .stale) s).revoked e.waiters).runLater ctx i
  | .drop, some (n, d, _, _) =>
    let s := set (if e.retire then .retired else .free) s
    (s.answerStatus n d (if e.retire then stRetired else stOk) p).runLater ctx i
  | .drop, none => (set (if e.retire then .retired else .free) s).runLater ctx i
  | .refresh, some (n, d, k, _) =>
    if e.retire then ((set .retired s).answerStatus n d stRetired p).runLater ctx i
    else
      (set .busy s).beginXlatOn n d k i e.vbase e.length e.rights false p
  | .refresh, none =>
    -- the continuation has ended: from BUSY, its translation is refused
    if e.retire then (set .retired s).runLater ctx i else (set .stale (set .busy s)).runLater ctx i

/-- DRAIN_COMPLETE (R173): the entry moves on once no core caches it, its in-flight counts are zero and the stored bytes
of its frames have reached their homes; until then the event stays due.
Log 9: DESIGN CHOICE, safe. 22: DESIGN CHOICE, unsafe. -/
def execDrainComplete (ctx index : Nat) (s : State) : Outcome State Fault Refusal :=
  let e := s.cab ctx index
  if e.state ≠ .draining then .next s
  else if e.inflight ≠ 0 ∨ s.cores.any fun p => (p.2.cachedEntry ctx index).isSome ∨ s.entryLeaving e then
    .next (s.post [.drainComplete ctx index])
  else .next (s.drained ctx index)

/-! ### Pins and pages at a home -/

/-- PIN_REQUEST (R169): the home adds one to the frame's pin count and answers. -/
def execPinRequest (p : Packet) (s : State) : Outcome State Fault Refusal :=
  let w := (p.body.getD 1 0).toNat
  let s := (s.mapFrame (p.line * 128) (w / 2) (w % 2 = 1)).pin (p.line * 128) true
  .next (s.send { s.packet 4 p.src 4 with
    sdie := p.sdie, score := p.score, sstr := p.sstr, line := p.line, op := 1, body := p.body })

/-- UNPIN_REQUEST (R169): the home takes one from the frame's pin count. -/
def execUnpinRequest (p : Packet) (s : State) : Outcome State Fault Refusal :=
  .next (s.pin (p.line * 128) false)

/-- TIER_MOVE (R178): the home records where the page now lies; its frame address, its pins and every
result stay as they are. -/
def execTierMove (frame size dest : Nat) (s : State) : Outcome State Fault Refusal :=
  .next { s with homes := { s.homes with
    tiers := (frame, size, dest) :: s.homes.tiers.filter fun q => q.1 ≠ frame } }

/-! ### The supervisor forms (R396, R397) -/

/-- The context exists. -/
def State.ctxLive (s : State) (c : Nat) : Bool := (s.ctxAt c).live

/-- REVOKE (R396, R173, R175): one that meets the drain of another `revoke` shares it, whatever else waits there. -/
def execRevoke (f : F3) (s : State) : Outcome State Fault Refusal :=
  issue f.g true false (fun s =>
    let t := (s.rd f.s1).toNat
    let ctx := t % 1024
    let i := t / 2 ^ 52
    let tok := s.cur.tok f.s2.toNat
    let off := s.rd f.d
    if bitsOf t 51 10 ≠ 0 then trap cIllegal 0 s
    else match s.checkToken s.cur.ctx tok off.toNat 8 needA with
      | .error e => trap e 0 s
      | .ok _ =>
        if off.toNat % 8 ≠ 0 then trap cBounds 0 s
        else
          let g : SigRef := ⟨s.cur.ctx, tok, off, 0⟩
          let s := s.flight s.cur.ctx (tokIndex tok) true
          if !s.ctxLive ctx then .ok (.fall, s.revoked [g])
          else
            let e := s.cab ctx i
            if e.state = .draining ∧ e.drain = .revoke then
              .ok (.fall, s.modCab ctx i fun e => { e with waiters := e.waiters ++ [g] })
            else if e.waits then .ok (.fall, s.joinLater ctx i (.revoke g))
            else .ok (.fall, s.operate ctx i (.revoke g))) s

/-- GRANT (R396).
Log 33: DEDUCED, unsafe. -/
def execGrant (f : F3) (s : State) : Outcome State Fault Refusal :=
  issue f.g true false (fun s =>
    let t := (s.rd f.s1).toNat
    let ctx := t % 1024
    let want := BitVec.ofNat 4 (t / 2 ^ 24)
    let tok := s.cur.tok f.s2.toNat
    let refuse : Nat → State → Except Stop (Flow × State) := fun st s =>
      .ok (.fall, s.wr f.d (BitVec.ofNat 64 st))
    if bitsOf t 63 28 ≠ 0 ∨ bitsOf t 23 10 ≠ 0 then trap cIllegal 0 s
    else match s.checkToken s.cur.ctx tok 0 0 0 with
      | .error e => trap e 0 s
      | .ok src =>
        if want = 0 ∨ want &&& ~~~src.rights ≠ 0 then refuse stPerm s
        else if !s.ctxLive ctx then refuse stNoEntry s
        else match s.chooseEntry ctx with
          | (none, s) => refuse stNoEntry s
          | (some i, s) =>
            let x := s.ctxAt ctx
            if x.frameUnits < x.frameUsed + src.units then refuse stNoRoom s
            else
              let s := s.modCtx ctx fun c => { c with frameUsed := c.frameUsed + src.units }
              let s := s.modCab ctx i fun e =>
                { e with vbase := src.vbase, length := src.length, frames := src.frames, units := src.units,
                         nchunk := src.nchunk, flist := BitVec.ofNat 64 ((Config.frameListAt ctx i (e.gen + 1)).toNat * 8),
                         holes := src.holes, rights := want, state := .live, gen := e.gen + 1 }
              let s := s.pinAll s.core src.frames true
              .ok (.fall, s.wr f.d (mkToken i (s.cab ctx i).gen want))) s

/-- TCFLUSH (R396, R162).
Log 48: DEDUCED, unsafe. -/
def execTcflush (f : F3) (s : State) : Outcome State Fault Refusal :=
  issue f.g true false (fun s =>
    let t := (s.rd f.s1).toNat
    if 1024 ≤ t then trap cIllegal 0 s
    else .ok (.fall, (List.range 4).foldl (fun s d =>
      s.modDie d fun x => { x with tlb := x.tlb.filter fun e => e.ctx ≠ t }) s)) s

/-- Step 1 of R314 at a home of this module: every copy of the page in the package is written back and
invalidated, and the class is recorded. -/
def State.setPageClass (s : State) (base size cls : Nat) : State :=
  let s := s.cores.foldl (fun s p =>
    p.2.lines.foldl (fun s q =>
      if base ≤ q.1 * 128 ∧ q.1 * 128 < base + size then s.evict p.1 q.1 else s) s) s
  { s with homes := { s.homes with
    pageClass := (base, size, cls) :: s.homes.pageClass.filter fun q => q.1 ≠ base ∨ q.2.1 ≠ size } }

/-- PGCLASS (R397, R314). -/
def execPgclass (f : F3) (s : State) : Outcome State Fault Refusal :=
  issue f.g true false (fun s =>
    let a := (s.rd f.s1).toNat
    let d := (s.rd f.d).toNat
    let peer := d / 2 ^ 52
    let code := d % 4
    let size := 2 ^ (16 + 10 * code)
    if code = 3 ∨ a % size ≠ 0 ∨ !isMapped a ∨ !isMapped (a + size - 1) then trap cIllegal 0 s
    else if peer = s.ownPeer then .ok (.fall, s.setPageClass a size f.fn.toNat)
    else if !s.hasRoute peer then trap cPeer (peer * 16) s
    else if s.fab.reconf ≠ .run then .error .stall
    else
      let s := s.send { s.packet 6 peer 6 with
        sdie := dieOf s.core, score := s.core % 32, line := lineNo a, op := 4 + 16 * f.fn.toNat,
        body := [BitVec.ofNat 64 size] }
      .ok (.stay, s.modCur fun c => { c with cwait := .management 0 1 })) s

end Sys2Proof.Machine
end

