-- ==== Sys2Proof/Machine/Bundles.lean ====
section
/-! DEFINITION. Bundles: the Wardrobe records of this chip and their transitions (R320, R321), commit stamps
and notices (R322, R323), and the forms `bnew`, `bjoin`, `bseal`, `babort`, `bview` and `bcheck` (R329 to
R335). -/

namespace Sys2Proof.Machine

open Host (Outcome)

/-! ### Records at home (R321) -/

/-- A record of this chip's Wardrobe, when it is not FREE. -/
def State.ward (s : State) (i : Nat) : Option Wardrobe := SMap.find s.homes.wardrobe i
/-- Puts a record back. -/
def State.setWard (s : State) (i : Nat) (r : Wardrobe) : State :=
  { s with homes := { s.homes with wardrobe := SMap.put s.homes.wardrobe i r } }

/-- The lowest FREE record, if any. -/
def Homes.freeRecord (h : Homes) : Option Nat :=
  let i := h.wardrobe.foldl (fun k p => if p.1 = k then k + 1 else k) 0
  if i < 65536 then some i else none

/-- `bnew` at its home (R330): the name, or all ones when no record is FREE. -/
def State.recordNew (s : State) (parties domain : Nat) : W64 × State :=
  match s.homes.freeRecord with
  | none => (BitVec.allOnes 64, s)
  | some i =>
    (BitVec.ofNat 64 (s.ownPeer * 2 ^ 20 + i),
     s.setWard i ⟨1, domain, parties, 0, 0, 0, false, 0, [], [], none, 0, false, []⟩)

/-- `bjoin` at its home (R331); none when it raises BUNDLE. `who` is the caller. -/
def State.recordJoin (s : State) (name domain : Nat) (who : Nat × Nat) (e : Companion) : Option State :=
  match s.ward (nameIndex name) with
  | none => none
  | some r =>
    if r.domain ≠ domain ∨ r.state ≠ 1 ∨ 64 ≤ r.companions.length then none
    else if r.joiners.contains who then
      some (s.setWard (nameIndex name) { r with companions := r.companions ++ [e] })
    else if r.joined = r.parties then none
    else some (s.setWard (nameIndex name)
      { r with joined := r.joined + 1, joiners := r.joiners ++ [who], companions := r.companions ++ [e] })

/-- The other chips of the group, whose lines a bundle may have written. -/
def State.others (s : State) : List Nat := s.fab.members.filter (· ≠ s.ownPeer)

/-- Every other chip of the group is told of a record: 15 that its bundle is aborted, 7 that the record is to be freed. -/
def State.tellOthers (s : State) (op : Nat) (body : List W64) : State :=
  s.others.foldl (fun s p => s.send { s.packet 6 p 6 with op := op, body := body }) s

/-- An ABORTED record whose joined participants are all released is due to be freed; so is a COMMITTED
one (R321). -/
def State.freeWhenDone (s : State) (i : Nat) : State :=
  match s.ward i with
  | some r => if r.state = 3 ∨ (r.state = 4 ∧ r.joined ≤ r.released) then s.post [.recordFree i] else s
  | none => s

/-- Discards the pending versions that a bundle has on this chip (R318). -/
def State.discardPending (s : State) (name : Nat) : State :=
  (s.pendingLines name).foldl (fun s l => s.setBLine l { s.bLine l with pending := none }) s

/-- OPEN becomes ABORTED (R321): the pending versions are discarded here, and every other chip of the group is told, whose
acknowledgements the answers of this and of later requests await, so that no later store of the bundle changes anything
(R318, R333). -/
def State.recordAborted (s : State) (i : Nat) (r : Wardrobe) : State :=
  let name := s.ownPeer * 2 ^ 20 + i
  let s := s.setWard i { r with state := 4, acks := s.others.length }
  ((s.discardPending name).tellOthers 15 [BitVec.ofNat 64 name]).freeWhenDone i

/-- The answer of an ABORTED record: at once when every other chip knows of the abort, otherwise with the last
acknowledgement. -/
def State.abortAnswer (s : State) (i : Nat) (who : Nat × Nat) (v : W64) : Option W64 × State :=
  match s.ward i with
  | some r =>
    if r.acks = 0 ∨ r.ending then (some v, s)
    else (none, s.setWard i { r with answers := r.answers ++ [(who.1, who.2, v)] })
  | none => (some v, s)

/-- The result word of a `bseal` that committed its bundle (R332). -/
def sealWord (stamp : Nat) : W64 := BitVec.ofNat 64 (2 ^ 62 + stamp % 2 ^ 48)
/-- The result word of a `bseal` of an ABORTED bundle. -/
def abortWord : W64 := BitVec.ofNat 64 (2 ^ 63)

/-- The home asks the sequencer for the stamp of a bundle (R322). -/
def State.wantStamp (s : State) (name : Nat) : State :=
  match s.homes.sequencer with
  | some p => s.send { s.packet 6 p 6 with op := 3, body := [BitVec.ofNat 64 name] }
  | none => s

/-- The next stamp, when this chip is the sequencer of its group or stands alone (R322). -/
def State.ownStamp (s : State) : Option (Nat × State) :=
  if s.homes.sequencer.getD s.ownPeer = s.ownPeer then
    some (s.homes.nextStamp, { s with homes := { s.homes with nextStamp := s.homes.nextStamp + 1 } })
  else none

/-- SEALING becomes COMMITTED with its stamp, and every chip of the group is told (R321, R322). -/
def State.recordCommit (s : State) (name stamp : Nat) : State :=
  match s.ward (nameIndex name) with
  | some r =>
    ((s.setWard (nameIndex name) { r with state := 3, stamp := stamp, sealer := none }).broadcastNotice
      name stamp).freeWhenDone (nameIndex name)
  | none => s

/-- `bseal` at its home (R332): the result word, or none while the commit waits for its stamp. `last` says
that the continuation is released; `who` is the peer and core that await the answer. -/
def State.recordSeal (s : State) (name : Nat) (last : Bool) (who : Nat × Nat) : Option W64 × State :=
  let i := nameIndex name
  match s.ward i with
  | none => (some 0, s)
  | some r =>
    let r := if last then { r with sealedN := r.sealedN + 1, released := r.released + 1 } else r
    if r.state = 4 then ((s.setWard i r).freeWhenDone i).abortAnswer i who abortWord
    else if r.state = 1 ∧ last ∧ r.sealedN = r.parties then
      if r.conflict then (s.recordAborted i r).abortAnswer i who abortWord
      else
        let s := s.setWard i { r with state := 2, sealer := some who }
        match s.ownStamp with
        | some (t, s) => (some (sealWord t), s.recordCommit name t)
        | none => (none, s.wantStamp name)
    else (some 0, s.setWard i r)

/-- `babort` at its home (R333); `who` is the peer and core that await the answer. -/
def State.recordAbort (s : State) (name : Nat) (last : Bool) (who : Nat × Nat) : Option W64 × State :=
  let i := nameIndex name
  match s.ward i with
  | none => (some 0, s)
  | some r =>
    let r := if last then { r with released := r.released + 1 } else r
    (if r.state = 1 then s.recordAborted i r else (s.setWard i r).freeWhenDone i).abortAnswer i who 0

/-- A participant is released because its continuation has been ended (R321). -/
def State.recordRelease (s : State) (name : Nat) : State :=
  let i := nameIndex name
  match s.ward i with
  | none => s
  | some r => (s.setWard i { r with released := r.released + 1 }).freeWhenDone i

/-- `bcheck` at its home (R335). -/
def State.recordCheck (s : State) (name domain : Nat) : W64 :=
  match s.ward (nameIndex name) with
  | some r => if r.domain = domain then BitVec.ofNat 64 (r.state * 2 ^ 61 + r.stamp % 2 ^ 48) else 0
  | none => 0

/-- RECORD_FREE (R321): the lines of a decided bundle have settled, or its pending versions have been discarded, here and
on every other chip of the group, which acknowledges it; then the record is FREE.
Log 9: DESIGN CHOICE, safe. 42: DEDUCED, unsafe. -/
def execRecordFree (index : Nat) (s : State) : Outcome State Fault Refusal :=
  match s.ward index with
  | none => .next s
  | some r =>
    let name := s.ownPeer * 2 ^ 20 + index
    if r.ending ∨ r.acks ≠ 0 ∨ !(r.state = 3 ∨ (r.state = 4 ∧ r.joined ≤ r.released)) then .next s
    else
      let s := s.settleAll name
      if s.others.isEmpty then
        .next { s with homes := { s.homes with wardrobe := SMap.erase s.homes.wardrobe index } }
      else
        .next ((s.setWard index { r with ending := true, acks := s.others.length }).tellOthers 7
          [BitVec.ofNat 64 name, BitVec.ofNat 64 r.state, BitVec.ofNat 64 r.stamp])

/-! ### The forms (R329) -/

/-- C has its answer: the register d and the binding table change as the form says, and C goes on. Forms: 0
`bnew`, 1 `bjoin`, 2 `bseal`, 3 `babort`, 4 `bcheck`. A `bjoin` that its home turned away raises BUNDLE. -/
def State.bundleAnswer (s : State) (n d cls name form : Nat) (v : W64) (ok : Bool) : State :=
  let s := s.modCore n fun c => { c with cwait := .none }
  let s : State := { s with core := n, str := .c }
  let s1 := s.modCore n fun c =>
    if form = 1 then { c with binds := SMap.put c.binds cls name }
    else if form = 2 then ({ c with binds := SMap.erase c.binds cls }).setScalar .c d v
    else if form = 3 then { c with binds := SMap.erase c.binds cls }
    else c.setScalar .c d v
  if ok then s1.advance false else s.raise { code := cBundle }

/-- C waits at a bundle form. -/
def CWait.isBundle : CWait → Bool
  | .bundle _ _ _ _ => true
  | _ => false

/-- An answer of a remote home to the bundle form that C waits at. -/
def State.bundleAnswered (s : State) (n : Nat) (v : W64) (ok : Bool) : State :=
  s.atWait n CWait.isBundle fun s => match (s.coreAt n).cwait with
    | .bundle d cls name form => s.bundleAnswer n d cls name form v ok
    | _ => s

/-- The request of a bundle form is handed back undelivered (R329).
Log 72: DEDUCED, unsafe. -/
def State.bundleFailed (s : State) (n peer : Nat) : State :=
  s.atWait n CWait.isBundle fun s => match (s.coreAt n).cwait with
    | .bundle _ _ _ _ =>
      let s := s.modCore n fun c => { c with cwait := .none }
      State.raise { s with core := n, str := .c } { code := cPeer, info := peer % 4096 * 16 }
    | _ => s

/-- The request packet of a bundle form to a remote home. -/
def State.recordPacket (s : State) (peer op : Nat) (body : List W64) : Packet :=
  { s.packet 6 peer 6 with sdie := dieOf s.core, score := s.core % 32, op := op, body := body }

/-- A form reaches the home of its record: here, where `here` gives the answer (none while it is awaited),
or at another chip. -/
def atRecordHome (peer op : Nat) (body : List W64) (d cls name form : Nat)
    (here : State → Option (W64 × Bool) × State) : Act Flow := fun s =>
  let wait : State → State := fun s => s.modCur fun c => { c with cwait := .bundle d cls name form }
  if peer = s.ownPeer then
    match here s with
    | (some (v, ok), s) => .ok (.leave, s.bundleAnswer s.core d cls name form v ok)
    | (none, s) => .ok (.stay, wait s)
  else if !s.hasRoute peer then trap cPeer (peer % 4096 * 16) s
  else if s.fab.reconf ≠ .run then .error .stall
  else .ok (.stay, wait (s.send (s.recordPacket peer op body)))

/-- The bundle domain of the issuing context (R320). -/
def State.curDomain (s : State) : Nat := s.curCtx.bundleDomain

/-- The number of the continuation of a core, as its bundles know it.
Log 42: DEDUCED, unsafe. -/
def State.continuation (s : State) (n : Nat) : Nat :=
  let c := s.coreAt n
  ((s.recAt c.recDie c.recSlot).map fun r => r.uid * 4 + c.recDie).getD 0

/-- No other class of the continuation is bound to the bundle (R321). -/
def Core.lastBound (c : Core) (cls name : Nat) : Bool :=
  c.binds.all fun p => p.1 = cls || p.2 != name

/-- The checks of a name in a register (R331).
Log 42: DEDUCED, unsafe. -/
def badName (t : W64) : Bool := t.toNat / 2 ^ 53 ≠ 0 || t.toNat / 2 ^ 16 % 16 ≠ 0

/-- BNEW (R330). -/
def execBnew (f : FI) (s : State) : Outcome State Fault Refusal :=
  issue f.g false false (fun s =>
    let p := f.imm.toNat % 256
    let peer := (s.rd f.s1).toNat
    if p = 0 ∨ 64 < p then trap cIllegal 0 s
    else if 4096 ≤ peer then trap cBundle 0 s
    else atRecordHome peer 10 [BitVec.ofNat 64 p, BitVec.ofNat 64 s.curDomain] f.d.toNat 0 0 0
      (fun s => let (v, t) := s.recordNew p s.curDomain; (some (v, true), t)) s) s

/-- BJOIN (R331). -/
def execBjoin (f : FM) (s : State) : Outcome State Fault Refusal :=
  issue f.g false false (fun s =>
    let t := s.rd f.d
    let name := t.toNat % 2 ^ 32
    let n := t.toNat / 2 ^ 32 % 2 ^ 21
    let c := s.cur
    let tok := c.tok f.s1.toNat
    let o := fmOffset f (s.rd f.s2) 128
    let cls := f.cls.toNat
    if badName t ∨ n = 0 then trap cBundle 0 s
    else match s.checkToken c.ctx tok o (128 * n) needW with
      | .error e => trap e 0 s
      | .ok ent =>
        let at_ := ent.vbase.toNat + o
        if ent.frames.any fun g => !g.bundle && g.vpage < at_ + 128 * n && at_ < g.vpage + 2 ^ g.bits then trap cBundle 0 s
        else if (c.bound cls).isSome ∧ c.bound cls ≠ some name then trap cBundle 0 s
        else
          let who := s.continuation s.core
          let s := s.noteToken s.core c.ctx (tokIndex tok)
          atRecordHome (namePeer name) 11
            [BitVec.ofNat 64 name, BitVec.ofNat 64 s.curDomain, BitVec.ofNat 64 who, BitVec.ofNat 64 c.ctx, tok,
              BitVec.ofNat 64 o, BitVec.ofNat 64 n] 0 cls name 1
            (fun s => match s.recordJoin name s.curDomain (s.ownPeer, who) ⟨s.ownPeer, c.ctx, tok, o, n⟩ with
              | some t => (some (0, true), t)
              | none => (some (0, false), s)) s) s

/-- A job that its C stream posted in a class has not completed (R332). -/
def Core.jobsInClass (c : Core) (cls : Nat) : Bool :=
  c.jobs.any fun p => p.2.poster ≠ 0 && p.2.cls = cls && p.2.state ≠ .done

/-- BSEAL (R332).
Log 42: DEDUCED, unsafe. -/
def execBseal (f : FI) (s : State) : Outcome State Fault Refusal :=
  issue f.g false false (fun s =>
    let cls := f.imm.toNat % 16
    let c := s.cur
    match c.bound cls with
    | none => trap cBundle 0 s
    | some name =>
      if !c.sa.idle || c.stores .a ≠ 0 || c.jobsInClass cls then .error .stall
      else
        let last := c.lastBound cls name
        atRecordHome (namePeer name) 12 [BitVec.ofNat 64 name, BitVec.ofNat 64 (natOfBool last)]
          f.d.toNat cls name 2
          (fun s =>
            let (v, t) := s.recordSeal name last (s.ownPeer, s.core)
            (v.map fun x => (x, true), t)) s) s

/-- BABORT (R333). -/
def execBabort (f : FI) (s : State) : Outcome State Fault Refusal :=
  issue f.g false false (fun s =>
    let cls := f.imm.toNat % 16
    let c := s.cur
    match c.bound cls with
    | none => trap cBundle 0 s
    | some name =>
      let last := c.lastBound cls name
      atRecordHome (namePeer name) 13 [BitVec.ofNat 64 name, BitVec.ofNat 64 (natOfBool last)] 0 cls name 3
        (fun s =>
          let (v, t) := s.recordAbort name last (s.ownPeer, s.core)
          (v.map fun x => (x, true), t)) s) s

/-- sys.bview becomes a word, and d receives the complete-through stamp (R334). -/
def State.setView (s : State) (d : BitVec 7) (v : W64) : State :=
  (s.modCur fun c => { c with cont := { c.cont with bview := v } }).wr d (BitVec.ofNat 64 s.homes.complete)

/-- BVIEW_NOW (R334). -/
def execBviewNow (f : FI) (s : State) : Outcome State Fault Refusal :=
  issueSet f.g (fun s => s.setView f.d (BitVec.ofNat 64 (2 ^ 63 + s.homes.complete % 2 ^ 48))) s

/-- BVIEW_SET (R334). -/
def execBviewSet (f : FI) (s : State) : Outcome State Fault Refusal :=
  issue f.g false false (fun s =>
    let v := (s.rd f.s1).toNat
    if 2 ^ 48 ≤ v ∨ s.homes.complete < v then trap cView 0 s
    else .ok (.fall, s.setView f.d (BitVec.ofNat 64 (2 ^ 63 + v)))) s

/-- BVIEW_CLR (R334). -/
def execBviewClr (f : FI) (s : State) : Outcome State Fault Refusal :=
  issueSet f.g (fun s => s.setView f.d 0) s

/-- BCHECK (R335).
Log 42: DEDUCED, unsafe. -/
def execBcheck (f : FI) (s : State) : Outcome State Fault Refusal :=
  issue f.g false false (fun s =>
    let t := s.rd f.s1
    let name := t.toNat % 2 ^ 32
    if badName t then trap cBundle 0 s
    else atRecordHome (namePeer name) 14 [BitVec.ofNat 64 name, BitVec.ofNat 64 s.curDomain] f.d.toNat 0 name 4
      (fun s => (some (s.recordCheck name s.curDomain, true), s)) s) s

/-- BCHECK_CLS (R335). -/
def execBcheckCls (f : FI) (s : State) : Outcome State Fault Refusal :=
  issueSet f.g (fun s =>
    s.wr f.d (match s.cur.bound (f.imm.toNat % 16) with
      | some name => BitVec.ofNat 64 name
      | none => BitVec.allOnes 64)) s

/-! ### Events of a record's home and of the sequencer -/

/-- The answer of a record's home to a peer's request. -/
def State.recordReply (s : State) (p : Packet) (v : W64) (ok : Bool) : State :=
  s.send { s.packet 4 p.src 4 with
    sdie := p.sdie, score := p.score, sstr := p.sstr, op := 5, body := [v, BitVec.ofNat 64 (natOfBool !ok)] }

/-- The answer to a form that waits at a record of this chip, here or at another chip. -/
def State.formAnswer (s : State) (peer core : Nat) (v : W64) : State :=
  if peer = s.ownPeer then s.bundleAnswered core v true
  else s.send { s.packet 4 peer 4 with sdie := core / 32, score := core % 32, op := 5, body := [v, 0] }

/-- Another chip has acknowledged what it was told of a record: with the last of them the answers that waited are sent, or
the record is FREE (R321). -/
def State.recordAck (s : State) (name : Nat) : State :=
  let i := nameIndex name
  match s.ward i with
  | none => s
  | some r =>
    if r.acks = 0 then s
    else if 1 < r.acks then s.setWard i { r with acks := r.acks - 1 }
    else if r.ending then { s with homes := { s.homes with wardrobe := SMap.erase s.homes.wardrobe i } }
    else
      let s := s.setWard i { r with acks := 0, answers := [] }
      (r.answers.foldl (fun s a => s.formAnswer a.1 a.2.1 a.2.2) s).freeWhenDone i

/-- The state of a record of this chip, as a home of one of its lines on another chip is told (R318, R323). -/
def State.tellFate (s : State) (peer name : Nat) : State :=
  let (code, stamp) := s.bundleFate name
  s.send { s.packet 4 peer 4 with
    op := 12, body := [BitVec.ofNat 64 name, BitVec.ofNat 64 code, BitVec.ofNat 64 stamp] }

/-- What the home of a record has told this chip is kept, and the lines of the bundle here settle. -/
def State.learnFate (s : State) (name code stamp : Nat) : State := (s.setFate name code stamp).settleAll name

/-- The home of a record answers what this chip has asked of it; of a bundle that this chip has not asked about it says
nothing.
Log 42: DEDUCED, unsafe. -/
def State.fateAnswer (s : State) (name code stamp : Nat) : State :=
  if (s.bundleFate name).1 = fateAsked then s.learnFate name code stamp else s

/-- An answer of the record's home is on its way: what it says of the record's end waits behind it, so that no answer is
taken for one about a later bundle of the same name (R318, R321).
Log 42: DEDUCED, unsafe. -/
def State.answerDue (s : State) (p : Packet) : Bool :=
  (p.op = 7 || p.op = 15) && (s.bundleFate (p.body.getD 0 0).toNat).1 = fateAsked

/-- BUNDLE_RECORD_REQUEST (R321, R329): a record's home serves a peer's request, by its op: 6 its state, 8 a release, 9 a
conflict, 10 `bnew`, 11 `bjoin`, 12 `bseal`, 13 `babort`, 14 `bcheck`; a chip hears of another's record: 7 that it is to
be freed, 15 that its bundle has been aborted; 5 takes a parked waiter away (R347); an op of 4 mod 16 is a `pgclass` of
the class in its upper bits (R314, R397). -/
def execBundleRecordRequest (p : Packet) (s : State) : Outcome State Fault Refusal :=
  let w : Nat → Nat := fun i => (p.body.getD i 0).toNat
  let name := w 0
  let who := (p.src, p.sdie * 32 + p.score)
  let late : Option W64 × State → State := fun r => match r with
    | (some v, t) => t.recordReply p v true
    | (none, t) => t
  let ack : State → State := fun s => s.send { s.packet 4 p.src 4 with op := 13, body := [BitVec.ofNat 64 name] }
  .next (
    if s.answerDue p then s.post [.bundleRecordRequest p]
    else if p.op = 6 then s.tellFate p.src name
    else if p.op = 7 then ack ((s.learnFate name (w 1) (w 2)).forgetFate name)
    else if p.op = 8 then s.recordRelease name
    else if p.op = 9 then (s.flagRecord name).tellFate p.src name
    else if p.op = 10 then
      let (v, s) := s.recordNew (w 0) (w 1)
      s.recordReply p v true
    else if p.op = 11 then
      match s.recordJoin name (w 1) (p.src, w 2) ⟨p.src, w 3, p.body.getD 4 0, w 5, w 6⟩ with
      | some t => t.recordReply p 0 true
      | none => s.recordReply p 0 false
    else if p.op = 12 then late (s.recordSeal name (w 1 = 1) who)
    else if p.op = 13 then late (s.recordAbort name (w 1 = 1) who)
    else if p.op = 14 then s.recordReply p (s.recordCheck name (w 1)) true
    else if p.op = 15 then ack (s.learnFate name fateAborted 0)
    else if p.op = 5 then
      { s with homes := { s.homes with waiters := s.homes.waiters.filter fun q =>
          !(q.addr = w 0 && q.recDie = w 1 && q.recSlot = w 2 && q.peer = p.src + 1) } }
    else if p.op % 16 = 4 then
      (s.setPageClass (p.line * 128) (w 0) (p.op / 16)).send { s.packet 4 p.src 4 with
        sdie := p.sdie, score := p.score, op := 11 }
    else s)

/-- COMMIT_NOTICE (R323): a notice of another chip reaches the Hutch. -/
def execCommitNotice (name : BitVec 32) (stamp : Nat) (s : State) : Outcome State Fault Refusal :=
  .next (s.hearNotice name.toNat stamp)

/-- STAMP_REQUEST (R322): the sequencer issues the next stamp to a home. -/
def execStampRequest (peer : Nat) (name : BitVec 32) (s : State) : Outcome State Fault Refusal :=
  match s.ownStamp with
  | some (t, s) =>
    .next (s.send { s.packet 4 peer 4 with op := 6, body := [name.setWidth 64, BitVec.ofNat 64 t] })
  | none => .next s

/-- A stamp for a single-line bundle is kept for the store that waits. It is looked at once more: one that no store has
taken by then (its token has been revoked, its continuation has been ended) goes out in a notice of its own, so that every
chip's complete-through stamp passes over it (R322, R323).
Log 42: DEDUCED, unsafe. -/
def State.keepStamp (s : State) (name : BitVec 32) (stamp : Nat) : State :=
  let h := s.homes
  if stamp ≤ h.complete ∨ h.heard.contains stamp then s
  else if h.stamps.contains stamp then
    State.broadcastNotice { s with homes := { h with stamps := h.stamps.erase stamp } } s.singleName stamp
  else State.post { s with homes := { h with stamps := h.stamps ++ [stamp], asked := false } } [.stampReceived name stamp]

/-- STAMP_RECEIVED (R321, R322): a stamp of the sequencer reaches its home: for a single-line bundle it is
kept for the store that waits; a SEALING bundle commits, and the `bseal` that waits is answered. -/
def execStampReceived (name : BitVec 32) (stamp : Nat) (s : State) : Outcome State Fault Refusal :=
  if name.toNat = s.singleName then .next (s.keepStamp name stamp)
  else match s.ward (nameIndex name.toNat) with
    | some r =>
      if r.state ≠ 2 then .next s
      else
        let s := s.recordCommit name.toNat stamp
        match r.sealer with
        | some (peer, n) => .next (s.formAnswer peer n (sealWord stamp))
        | none => .next s
    | none => .next s

end Sys2Proof.Machine
end

