-- ==== Sys2Proof/Machine/Crypto.lean ====
section
/-! DEFINITION. The ciphers that the spec names: AES-256 and its GCM mode with a 96-bit IV (R274, R389), and
SHA-256 (R86, R419). -/

namespace Sys2Proof.Machine

/-! ### AES-256 (FIPS 197) -/

/-- Multiplication by x in GF(2^8). -/
def gfDouble (a : Nat) : Nat := if 128 ≤ a then (a * 2 % 256) ^^^ 0x1B else a * 2

/-- Multiplication in GF(2^8), over the bits of `b`. -/
def gfMul8 : Nat → Nat → Nat → Nat
  | 0, _, _ => 0
  | n + 1, a, b => (if b % 2 = 1 then a else 0) ^^^ gfMul8 n (gfDouble a) (b / 2)

/-- The inverse in GF(2^8), a^254; 0 for 0. -/
def gfInv (a : Nat) : Nat :=
  let m : Nat → Nat → Nat := gfMul8 8
  let a2 := m a a
  let a3 := m a2 a
  let a6 := m a3 a3
  let a12 := m a6 a6
  let a15 := m a12 a3
  let a30 := m a15 a15
  let a60 := m a30 a30
  let a120 := m a60 a60
  let a127 := m (m a120 a6) a
  m a127 a127

/-- A byte rotated left. -/
def rotByte (a k : Nat) : Nat := (a * 2 ^ k + a / 2 ^ (8 - k)) % 256

/-- The S-box of a byte. -/
def sboxOf (a : Nat) : Nat :=
  let b := gfInv a
  b ^^^ rotByte b 1 ^^^ rotByte b 2 ^^^ rotByte b 3 ^^^ rotByte b 4 ^^^ 0x63

/-- The S-box, byte `i` at bits [8i+7:8i]. -/
def sboxTable : Nat := natOfBytes ((List.range 256).map fun a => BitVec.ofNat 8 (sboxOf a))

/-- The S-box. -/
def sbox (a : Nat) : Nat := sboxTable / 2 ^ (8 * a) % 256

/-- XOR of two lists of bytes. -/
def xorBytes (a b : List Nat) : List Nat := List.zipWith (fun x y => x ^^^ y) a b

/-- The words of the key schedule, four bytes each, appended from word `i` on. -/
def keyWords (rcon : Nat) : Nat → Nat → List (List Nat) → List (List Nat)
  | 0, _, w => w
  | n + 1, i, w =>
    let prev := w.getD (i - 1) []
    let t :=
      if i % 8 = 0 then
        let r := (prev.drop 1 ++ prev.take 1).map sbox
        xorBytes r [rcon, 0, 0, 0]
      else if i % 8 = 4 then prev.map sbox
      else prev
    keyWords (if i % 8 = 0 then gfDouble rcon else rcon) n (i + 1) (w ++ [xorBytes (w.getD (i - 8) []) t])

/-- The 15 round keys of a 32-byte key, 16 bytes each. -/
def roundKeys (key : List Nat) : List (List Nat) :=
  let w := (List.range 8).map fun i => (key.drop (4 * i)).take 4
  let all := keyWords 1 52 8 w
  (List.range 15).map fun r => ((all.drop (4 * r)).take 4).flatten

/-- ShiftRows on a block held column by column. -/
def shiftRows (b : List Nat) : List Nat :=
  (List.range 16).map fun i => b.getD ((i + 4 * (i % 4)) % 16) 0

/-- MixColumns on a block. -/
def mixColumns (b : List Nat) : List Nat :=
  (List.range 16).map fun i =>
    let c := i / 4 * 4
    let at_ : Nat → Nat := fun k => b.getD (c + (i + k) % 4) 0
    gfDouble (at_ 0) ^^^ (gfDouble (at_ 1) ^^^ at_ 1) ^^^ at_ 2 ^^^ at_ 3

/-- The rounds after the first key addition. -/
def aesRounds : List (List Nat) → List Nat → List Nat
  | [], b => b
  | [k], b => xorBytes (shiftRows (b.map sbox)) k
  | k :: ks, b => aesRounds ks (xorBytes (mixColumns (shiftRows (b.map sbox))) k)

/-- One block of AES-256 under its round keys.
Log 76: DEDUCED, unsafe. -/
def aesBlock (ks : List (List Nat)) (b : List Nat) : List Nat :=
  match ks with
  | [] => b
  | k :: t => aesRounds t (xorBytes b k)

/-- A 256-bit key as 32 bytes, byte 0 in bits [7:0]. -/
def keyBytes (k : BitVec 256) : List Nat := (bytesOf 32 k.toNat).map (·.toNat)

/-! ### GCM (NIST SP 800-38D) -/

/-- A block as a number whose bit 127 is the first bit of its first byte. -/
def blockNat (b : List Nat) : Nat := b.foldl (fun acc x => acc * 256 + x) 0

/-- The bytes of such a number. -/
def blockBytes (v : Nat) : List Nat := (List.range 16).map fun i => v / 2 ^ (8 * (15 - i)) % 256

/-- Multiplication in GF(2^128): over the bits of `x` from the first. -/
def gcmMul : Nat → Nat → Nat → Nat → Nat
  | 0, _, _, z => z
  | n + 1, x, v, z =>
    let z := if x / 2 ^ n % 2 = 1 then z ^^^ v else z
    let v := if v % 2 = 1 then (v / 2) ^^^ (0xE1 * 2 ^ 120) else v / 2
    gcmMul n x v z

/-- One block of GHASH. -/
def ghashStep (h y : Nat) (b : List Nat) : Nat := gcmMul 128 (y ^^^ blockNat b) h 0

/-- GHASH over bytes, the last block padded with zeros.
Log 76: DEDUCED, unsafe. -/
def ghash (h : Nat) : Nat → Nat → List Nat → Nat
  | 0, y, _ => y
  | n + 1, y, l =>
    if l.isEmpty then y
    else
      let b := l.take 16
      ghash h n (ghashStep h y (b ++ List.replicate (16 - b.length) 0)) (l.drop 16)

/-- The counter block of a 96-bit IV. -/
def counterBlock (iv : List Nat) (n : Nat) : List Nat :=
  iv ++ [n / 2 ^ 24 % 256, n / 2 ^ 16 % 256, n / 2 ^ 8 % 256, n % 256]

/-- The key stream's XOR with bytes of a message, of which `l` starts at block `i`. -/
def ctrXor (ks : List (List Nat)) (iv : List Nat) : Nat → Nat → List Nat → List Nat
  | 0, _, _ => []
  | n + 1, i, l =>
    if l.isEmpty then []
    else
      xorBytes (l.take 16) (aesBlock ks (counterBlock iv (i + 2))) ++ ctrXor ks iv n (i + 1) (l.drop 16)

/-- The hash key of a cipher key. -/
def hashKey (ks : List (List Nat)) : Nat := blockNat (aesBlock ks (List.replicate 16 0))

/-- The tag, given the running GHASH value after the authenticated data and the ciphertext, and their
lengths in bytes.
Log 76: DEDUCED, unsafe. -/
def gcmTag (ks : List (List Nat)) (iv : List Nat) (y aad len : Nat) : List Nat :=
  let y := ghashStep (hashKey ks) y (blockBytes (aad * 8 * 2 ^ 64 + len * 8))
  xorBytes (blockBytes y) (aesBlock ks (counterBlock iv 1))

/-- A message enciphered or deciphered under AES-256-GCM, with the tag of its ciphertext.
Log 76: DEDUCED, unsafe. -/
def gcmSeal (key : BitVec 256) (iv aad msg : List Nat) (encrypt : Bool) : List Nat × List Nat :=
  let ks := roundKeys (keyBytes key)
  let h := hashKey ks
  let out := ctrXor ks iv (msg.length / 16 + 1) 0 msg
  let ct := if encrypt then out else msg
  let y := ghash h (ct.length / 16 + 1) (ghash h (aad.length / 16 + 1) 0 aad) ct
  (out, gcmTag ks iv y aad.length msg.length)

/-! ### SHA-256 (FIPS 180-4) -/

/-- Bits [i+31:i] of the fractional part of the root of order `k` (2 or 3) of a prime: the largest r with
r^k ≤ p * 2^(32 k), mod 2^32. -/
def rootBits (k p : Nat) : Nat :=
  let n := p * 2 ^ (32 * k)
  (List.range 36).foldl (fun r i =>
    let t := r + 2 ^ (35 - i)
    if t ^ k ≤ n then t else r) 0 % 2 ^ 32

/-- The first `n` primes. -/
def primes (n : Nat) : List Nat :=
  ((List.range 312).filter fun p => 2 ≤ p && (List.range p).all fun d => d < 2 || p % d ≠ 0).take n

/-- The 64 round constants. -/
def shaK : List (BitVec 32) := (primes 64).map fun p => BitVec.ofNat 32 (rootBits 3 p)
/-- The initial hash value. -/
def shaInit : List (BitVec 32) := (primes 8).map fun p => BitVec.ofNat 32 (rootBits 2 p)

/-- The message schedule of a block's 16 words. -/
def shaSchedule : Nat → List (BitVec 32) → List (BitVec 32)
  | 0, w => w
  | n + 1, w =>
    let t := w.length
    let g : Nat → BitVec 32 := fun k => w.getD (t - k) 0
    let s0 := (g 15).rotateRight 7 ^^^ (g 15).rotateRight 18 ^^^ (g 15 >>> 3)
    let s1 := (g 2).rotateRight 17 ^^^ (g 2).rotateRight 19 ^^^ (g 2 >>> 10)
    shaSchedule n (w ++ [g 16 + s0 + g 7 + s1])

/-- One round on the eight working words. -/
def shaRound (h : List (BitVec 32)) (kw : BitVec 32) : List (BitVec 32) :=
  match h with
  | [a, b, c, d, e, f, g, h] =>
    let s1 := e.rotateRight 6 ^^^ e.rotateRight 11 ^^^ e.rotateRight 25
    let ch := (e &&& f) ^^^ (~~~e &&& g)
    let t1 := h + s1 + ch + kw
    let s0 := a.rotateRight 2 ^^^ a.rotateRight 13 ^^^ a.rotateRight 22
    let maj := (a &&& b) ^^^ (a &&& c) ^^^ (b &&& c)
    [t1 + s0 + maj, a, b, c, d + t1, e, f, g]
  | _ => h

/-- The hash of blocks of 64 bytes.
Log 76: DEDUCED, unsafe. -/
def shaBlocks : Nat → List (BitVec 32) → List Byte → List (BitVec 32)
  | 0, h, _ => h
  | n + 1, h, l =>
    let w := (List.range 16).map fun i =>
      ((l.drop (4 * i)).take 4).foldl (fun (acc : BitVec 32) b => acc <<< 8 ||| b.setWidth 32) 0
    let kw := List.zipWith (· + ·) shaK (shaSchedule 48 w)
    shaBlocks n (List.zipWith (· + ·) h (kw.foldl shaRound h)) (l.drop 64)

/-- SHA-256 of bytes, as a 256-bit number whose most significant byte is the first.
Log 76: DEDUCED, unsafe. -/
def sha256 (m : List Byte) : BitVec 256 :=
  let n := m.length
  let zeros := (119 - n % 64) % 64
  let padded := m ++ [0x80#8] ++ List.replicate zeros 0 ++ (bytesOf 8 (n * 8)).reverse
  (shaBlocks (padded.length / 64) shaInit padded).foldl (fun (acc : BitVec 256) w => acc <<< 32 ||| w.setWidth 256) 0

end Sys2Proof.Machine
end

