-- ==== Sys2Proof/Machine/Cards.lean ====
section
/-! DEFINITION. Job cards (R259 to R274): the fields of a card, the header rules that a post checks (R260 to
R262, R277), and the body limits, nests and pairings that an engine checks at dispatch (R263 to R274, R245,
R64, R65, steps 1 and 2 of R275). -/

namespace Sys2Proof.Machine

/-- A job card. -/
abbrev Card := BitVec 1024

/-- Quad `i` of a card (offset 8i). -/
def quad (c : Card) (i : Nat) : Nat := (c.extractLsb' (64 * i) 64).toNat

/-- The signed value of a quad. -/
def squad (c : Card) (i : Nat) : Int := (c.extractLsb' (64 * i) 64).toInt

/-- The kind of a card (R260): 1 WLD, 2 MPRD, 3 COPY, 4 EXPAND, 5 REDUCE, 6 MCAST, 7 CRYPT. -/
def cardKind (c : Card) : Nat := bitsOf (quad c 0) 63 60
/-- Barrier (R260). -/
def cardBar (c : Card) : Bool := bitOf (quad c 0) 59
/-- Explicit predecessor count (R260). -/
def cardNpred (c : Card) : Nat := bitsOf (quad c 0) 58 54
/-- fzi of a card. -/
def cardFzi (c : Card) : Bool := bitOf (quad c 0) 53
/-- fzo of a card. -/
def cardFzo (c : Card) : Bool := bitOf (quad c 0) 52
/-- rnd of a card. -/
def cardRnd (c : Card) : Nat := bitsOf (quad c 0) 51 50
/-- sat of a card. -/
def cardSat (c : Card) : Bool := bitOf (quad c 0) 49
/-- tok of a card. -/
def cardTok (c : Card) : W64 := BitVec.ofNat 64 (quad c 1)
/-- dir of a COPY or CRYPT card: buffer to memory. -/
def cardOut (c : Card) : Bool := bitOf (quad c 6) 63

/-- A footprint (R261): none, a buffer region, or a memory region. -/
inductive Foot where
  | none
  | buf (w : Bool) (buf start len : Nat)
  | mem (w : Bool) (off len : Nat)
  deriving DecidableEq, Repr, Inhabited

/-- The footprint of a word, when it keeps R261. -/
def footOf (w : Nat) : Option Foot :=
  match bitsOf w 63 62 with
  | 0 => if w = 0 then some .none else Option.none
  | 1 =>
    let b := bitsOf w 60 58
    let len := bitsOf w 47 24
    if b = 0 ∨ 4 < b ∨ bitsOf w 57 48 ≠ 0 ∨ len = 0 then Option.none
    else some (.buf (bitOf w 61) b (bitsOf w 23 0) len)
  | 2 =>
    let n := bitsOf w 60 40
    let off := bitsOf w 39 0
    if n = 0 ∨ off % 128 ≠ 0 then Option.none else some (.mem (bitOf w 61) off (128 * n))
  | _ => Option.none

/-- Footprint `i` of a card; a word that breaks R261 counts as unused. -/
def cardFoot (c : Card) (i : Nat) : Foot := (footOf (quad c (2 + i))).getD .none

/-- The footprints of a card. -/
def cardFeet (c : Card) : List Foot := (List.range 4).map (cardFoot c)

/-- Start of a footprint. -/
def Foot.start : Foot → Nat
  | .none => 0
  | .buf _ _ s _ => s
  | .mem _ o _ => o
/-- Length of a footprint in bytes. -/
def Foot.len : Foot → Nat
  | .none => 0
  | .buf _ _ _ n => n
  | .mem _ _ n => n
/-- Buffer of a footprint. -/
def Foot.bufOf : Foot → Nat
  | .buf _ b _ _ => b
  | _ => 0
/-- The footprint is written. -/
def Foot.writes : Foot → Bool
  | .none => false
  | .buf w _ _ _ => w
  | .mem w _ _ => w
/-- The footprint is a memory footprint. -/
def Foot.isMem : Foot → Bool
  | .mem _ _ _ => true
  | _ => false

/-- What R262 wants of a footprint: nothing, a memory region, or a region of one of some buffers; with its
w bit. -/
inductive Want where
  | none
  | mem (w : Bool)
  | buf (w : Bool) (bufs : List Nat)
  deriving DecidableEq, Repr, Inhabited

/-- The footprints by kind (R262). -/
def wants (c : Card) : List Want :=
  match cardKind c with
  | 1 => [.buf false [2], .none, .none, .none]
  | 2 => [.buf false [3], .buf false [2], .buf true [4], if bitOf (quad c 6) 32 then .buf true [3] else .none]
  | 3 => if cardOut c then [.mem true, .buf false [1, 3, 4], .none, .none]
    else [.mem false, .buf true [1, 2, 3, 4], .none, .none]
  | 4 => [.mem false, .buf true [2], .none, .none]
  | 5 => [.mem true, .buf false [1, 3, 4], .none, .none]
  | 6 => [.buf false [1, 3, 4], .buf true [1, 2, 3, 4], .none, .none]
  | 7 => if cardOut c then [.mem true, .buf false [1, 3, 4], .none, .none]
    else [.mem false, .buf true [1, 2, 3, 4], .none, .none]
  | _ => [.none, .none, .none, .none]

/-- A card of a matrix kind. -/
def isMatrixKind (k : Nat) : Bool := k = 1 || k = 2

/-- The engine of a kind may read or write buffer `b` (R184; the copy engine also reads ABUF, R257, R262).
Log 41: DEDUCED, unsafe. -/
def engineMay (kind : Nat) (w : Bool) (b : Nat) : Bool :=
  if isMatrixKind kind then (if w then b = 3 || b = 4 else b = 2 || b = 3 || b = 4)
  else if w then true else b = 1 || b = 3 || b = 4

/-- A footprint is what R262 wants. A buffer that R184 keeps from the engine is left to the dispatch check
(R275 step 3).
Log 41: DEDUCED, unsafe. -/
def wantMet (kind : Nat) (want : Want) (f : Foot) : Bool :=
  match want, f with
  | .none, .none => true
  | .mem w, .mem w' _ _ => w == w'
  | .buf w bs, .buf w' b _ _ => w == w' && (bs.contains b || !engineMay kind w b)
  | _, _ => false

/-- The ctl word keeps R260. -/
def ctlOk (c : Card) : Bool :=
  let k := cardKind c
  let ctl := quad c 0
  1 ≤ k && k ≤ 7 && bitsOf ctl 48 0 = 0 &&
    (k = 2 || cardRnd c = 0) && (k = 2 || k = 5 || (!cardFzi c && !cardFzo c && !cardSat c))

/-- The header of a card is faulty (R277).
Log 41: DEDUCED, unsafe. -/
def headerFault (c : Card) : Bool :=
  let feet := (List.range 4).map fun i => footOf (quad c (2 + i))
  !ctlOk c || feet.any (·.isNone) ||
    !((wants c).zip (cardFeet c)).all (fun p => wantMet (cardKind c) p.1 p.2) ||
    ((cardFeet c).any Foot.isMem != (quad c 1 != 0))

/-- Two footprints conflict (R280); `same` says that the tokens of their cards carry one index. -/
def footsConflict (same : Bool) (a b : Foot) : Bool :=
  (a.writes || b.writes) && a.start < b.start + b.len && b.start < a.start + a.len &&
    match a, b with
    | .buf _ x _ _, .buf _ y _ _ => x == y
    | .mem _ _ _, .mem _ _ _ => same
    | _, _ => false

/-- Two cards conflict (R280). -/
def cardsConflict (a b : Card) : Bool :=
  let same := bitsOf (quad a 1) 63 52 = bitsOf (quad b 1) 63 52
  (cardFeet a).any fun f => (cardFeet b).any fun g => footsConflict same f g

/-! ### Ranges (R263) -/

/-- The lowest offset and the highest, plus one, that a nest of (count, stride) levels reaches from `base`
with an innermost run of `n` bytes. -/
def nestRange (base : Int) (n : Nat) (levels : List (Nat × Int)) : Int × Int :=
  levels.foldl (fun (lo, hi) p =>
    let d : Int := ((p.1 - 1 : Nat) : Int) * p.2
    (lo + min 0 d, hi + max 0 d)) (base, base + n)

/-- A range lies inside a footprint. -/
def Foot.covers (f : Foot) (r : Int × Int) : Bool :=
  (f.start : Int) ≤ r.1 && r.2 ≤ (f.start : Int) + f.len

/-- Two footprints of one card name one buffer, intersect, and one is written (R263). -/
def selfConflict (c : Card) : Bool :=
  let l := cardFeet c
  (List.range 4).any fun i => (List.range 4).any fun j =>
    i < j && footsConflict true (l.getD i .none) (l.getD j .none)

/-! ### Matrix cards (R264 to R266) -/

/-- The weight formats (R65): f8e4, f8e5, dy8, bf16. -/
def isWeightFmt (t : Nat) : Bool := t = 2 || t = 3 || t = 4 || t = 5

/-- Output columns of a weight format (R65). -/
def colsOf (wfmt : Nat) : Nat := if wfmt = 5 then 256 else 128

/-- Bytes of a weight image (R264).
Log 40: DEDUCED, unsafe. -/
def imageBytes (wfmt : Nat) : Nat :=
  if wfmt = 5 then 67584 else if wfmt = 2 then 65536 else 33792

/-- Cycles of a shadow load (R242). -/
def loadCycles (wfmt : Nat) : Nat := if wfmt = 5 then 132 else if wfmt = 2 then 128 else 66

/-- An activation format pairs with a weight format (R65). -/
def pairs (afmt wfmt : Nat) : Bool := if wfmt = 2 then afmt = 2 else afmt = 3 || afmt = 4

/-- Fields of the MPRD control word (R265). -/
def mNlev (c : Card) : Nat := bitsOf (quad c 6) 63 61
/-- The reduction level. -/
def mRed (c : Card) : Nat := bitsOf (quad c 6) 60 58
/-- Activation rows per pass. -/
def mRpp (c : Card) : Nat := bitsOf (quad c 6) 57 49
/-- The activation format. -/
def mAfmt (c : Card) : Nat := bitsOf (quad c 6) 48 45
/-- Activations carry scales. -/
def mAscale (c : Card) : Bool := bitOf (quad c 6) 44
/-- The output type. -/
def mOfmt (c : Card) : Nat := bitsOf (quad c 6) 43 40
/-- The function code. -/
def mFunc (c : Card) : Nat := bitsOf (quad c 6) 39 36
/-- The checksum fold mode. -/
def mFold (c : Card) : Nat := bitsOf (quad c 6) 35 34
/-- Reductions start from the accumulators. -/
def mInit (c : Card) : Bool := bitOf (quad c 6) 33
/-- Output to ABUF. -/
def mDest (c : Card) : Bool := bitOf (quad c 6) 32
/-- Apply the scale vector. -/
def mSen (c : Card) : Bool := bitOf (quad c 6) 31
/-- Apply the bias vector. -/
def mBen (c : Card) : Bool := bitOf (quad c 6) 30
/-- Compress the output. -/
def mCen (c : Card) : Bool := bitOf (quad c 6) 29
/-- Die of the table slot. -/
def mCdie (c : Card) : Nat := bitsOf (quad c 6) 28 27
/-- Table slot. -/
def mCslot (c : Card) : Nat := bitsOf (quad c 6) 26 25
/-- The first pass uses the plane of a WLD. -/
def mWpre (c : Card) : Bool := bitOf (quad c 6) 24
/-- The weight format. -/
def mWfmt (c : Card) : Nat := bitsOf (quad c 6) 23 20

/-- The weight format of a WLD card (R264).
Log 40: DEDUCED, unsafe. -/
def wldFmt (c : Card) : Nat := bitsOf (quad c 6) 63 60

/-- A level of an MPRD: its extent and its strides in bytes. -/
structure Level where
  ext : Nat
  sA : Int
  sC : Int
  sW : Int
  deriving DecidableEq, Repr, Inhabited

/-- Level `l` of an MPRD card (R265). -/
def mLevel (c : Card) (l : Nat) : Level :=
  let w := BitVec.ofNat 64 (quad c (7 + l))
  ⟨bitsOf w.toNat 63 52 + 1, (w.extractLsb' 36 16).toInt * 256, (w.extractLsb' 20 16).toInt * 512,
    (w.extractLsb' 4 16).toInt * 1024⟩

/-- The levels of an MPRD, innermost first. -/
def mLevels (c : Card) : List Level := (List.range (mNlev c)).map (mLevel c)

/-- Passes per reduction (R265). -/
def mPasses (c : Card) : Nat := ((mLevels c).take (mRed c + 1)).foldl (fun n l => n * l.ext) 1

/-- Passes of the whole nest. -/
def mTotal (c : Card) : Nat := (mLevels c).foldl (fun n l => n * l.ext) 1

/-- Blocks (reductions) of the whole nest. -/
def mBlocks (c : Card) : Nat := mTotal c / mPasses c

/-- Bytes of an activation row with its scales (R267). -/
def mRowB (c : Card) : Nat := (if mAfmt c = 2 then 512 else 256) + (if mAscale c then 8 else 0)

/-- Bytes of the header of fp2 before the accumulators (R266). -/
def mHeader (c : Card) : Nat :=
  let colB := 4 * colsOf (mWfmt c)
  (if mFold c ≠ 0 then 32 else 0) + (if mSen c then colB else 0) + (if mBen c then colB else 0)

/-- AccBase (R266). -/
def mAccBase (c : Card) : Nat := (cardFoot c 2).start + mHeader c

/-- Byte width of an output element. -/
def mOb (c : Card) : Nat := typeWidth (mOfmt c) / 8

/-- Bytes of the region that one block of accumulators and its output in place reach. -/
def mBlockSpan (c : Card) : Nat :=
  let cols := colsOf (mWfmt c)
  max (mRpp c * 4 * cols) (if mDest c then 0 else (mRpp c - 1) * 4 * cols + cols * mOb c)

/-- The body limits of an MPRD (R265, R247, R268). -/
def mprdBodyOk (c : Card) : Bool :=
  let used := mLevels c
  let rest := (List.range 5).drop (mNlev c)
  1 ≤ mNlev c && mNlev c ≤ 5 && mRed c < mNlev c && 1 ≤ mRpp c && mRpp c ≤ 256 &&
    (mAfmt c = 2 || mAfmt c = 3 || mAfmt c = 4) && mOfmt c ≠ 6 && mOfmt c ≠ 7 && mFunc c ≤ 4 &&
    isWeightFmt (mWfmt c) && bitsOf (quad c 6) 19 0 = 0 && (!mCen c || mDest c) &&
    (List.range (mNlev c)).all (fun l => bitsOf (quad c (7 + l)) 3 0 = 0) &&
    rest.all (fun l => quad c (7 + l) = 0) &&
    (used.take (mRed c + 1)).all (fun l => l.sC = 0) &&
    (!mCen c || (mRpp c * colsOf (mWfmt c) * mOb c % 1024 = 0 && (cardFoot c 3).start % 1024 = 0))

/-- Step 2 of R275 for an MPRD: its nests, R245, R64 and R65. -/
def mprdNest (c : Card) : CauseCode :=
  let lv := mLevels c
  let a := nestRange (cardFoot c 0).start (mRpp c * mRowB c) (lv.map fun l => (l.ext, l.sA))
  let w := nestRange (cardFoot c 1).start (imageBytes (mWfmt c)) (lv.map fun l => (l.ext, l.sW))
  let k := nestRange (mAccBase c) (mBlockSpan c) (lv.map fun l => (l.ext, l.sC))
  let out : Int × Int :=
    ((cardFoot c 3).start, (cardFoot c 3).start + mBlocks c * mRpp c * colsOf (mWfmt c) * mOb c)
  let cpr := if mWfmt c = 2 then 4 else 1
  if !(cardFoot c 0).covers a || !(cardFoot c 1).covers w || !(cardFoot c 2).covers k ||
      (mDest c && !(cardFoot c 3).covers out) then cBuffer
  else if selfConflict c then cIllegal
  else if 65536 < mPasses c * max (mRpp c * cpr) (loadCycles (mWfmt c)) then cIllegal
  else if !pairs (mAfmt c) (mWfmt c) || (mAfmt c = 2 && mAscale c) then cIllegal
  else 0

/-! ### Copy-engine cards (R270 to R274) -/

/-- Bytes per innermost run of a COPY (R270). -/
def copyRun (c : Card) : Nat := quad c 7
/-- The level counts of a COPY. -/
def copyN1 (c : Card) : Nat := quad c 8
/-- The level-2 count of a COPY. -/
def copyN2 (c : Card) : Nat := quad c 11

/-- Bytes of an element of a REDUCE (R272). -/
def redSize (c : Card) : Nat := typeWidth (bitsOf (quad c 6) 63 60) / 8
/-- Elements of a REDUCE. -/
def redCount (c : Card) : Nat := quad c 7

/-- Message bytes of a CRYPT (R274). -/
def cryptLen (c : Card) : Nat := bitsOf (quad c 6) 24 0
/-- Key index of a CRYPT. -/
def cryptKey (c : Card) : Nat := bitsOf (quad c 6) 59 56
/-- IV bytes of a CRYPT. -/
def cryptIv (c : Card) : List Nat := ((bytesOf 8 (quad c 7)) ++ (bytesOf 4 (quad c 8))).map (·.toNat)

/-- Quads from `i` on are zero. -/
def quadsZero (c : Card) (i : Nat) : Bool := ((List.range 16).drop i).all fun k => quad c k = 0

/-- The types that REDUCE adds (R252). -/
def isReduceFmt (t : Nat) : Bool := t = 0 || t = 1 || t = 2 || t = 10 || t = 11 || t = 14 || t = 15

/-- The body limits of a card (R275 step 1). `keyed` says that a CRYPT's key slot is full and `grouped` that
an MCAST's group is valid.
Log 40: DEDUCED, unsafe. -/
def bodyOk (c : Card) (keyed grouped : Bool) : Bool :=
  match cardKind c with
  | 1 => isWeightFmt (wldFmt c) && bitsOf (quad c 6) 59 0 = 0 && quadsZero c 7
  | 2 => mprdBodyOk c
  | 3 => bitsOf (quad c 6) 62 0 = 0 && 1 ≤ copyRun c && copyRun c ≤ 2 ^ 24 && 1 ≤ copyN1 c &&
      copyN1 c ≤ 2 ^ 20 && 1 ≤ copyN2 c && copyN2 c ≤ 2 ^ 20 && quadsZero c 14
  | 4 => 1 ≤ quad c 6 && quad c 6 ≤ 1536 && quadsZero c 7 && (cardFoot c 0).start % 2048 = 0
  | 5 =>
    let w := quad c 6
    isReduceFmt (bitsOf w 63 60) && 1 ≤ bitsOf w 53 47 && bitsOf w 53 47 ≤ 64 &&
      bitsOf w 59 54 < bitsOf w 53 47 && bitsOf w 30 0 = 0 && 1 ≤ redCount c && redCount c ≤ 2 ^ 24 && quadsZero c 8
  | 6 => bitsOf (quad c 6) 55 0 = 0 && quadsZero c 7 && (cardFoot c 0).len = (cardFoot c 1).len && grouped
  | 7 => bitsOf (quad c 6) 62 60 = 0 && bitsOf (quad c 6) 55 25 = 0 && 1 ≤ cryptLen c && cryptLen c ≤ 2 ^ 24 &&
      bitsOf (quad c 8) 63 32 = 0 && quadsZero c 9 && keyed
  | _ => false

/-- Step 2 of R275: the nests of R263, R245 and R65; 0 when they hold.
Log 41: DEDUCED, unsafe. -/
def nestCause (c : Card) : CauseCode :=
  let f0 := cardFoot c 0
  let f1 := cardFoot c 1
  let both : Int × Int → Int × Int → CauseCode := fun m b =>
    if !f0.covers m then cBounds else if !f1.covers b then cBuffer
    else if selfConflict c then cIllegal else 0
  let plain : Nat → CauseCode := fun n =>
    both (f0.start, f0.start + n) (f1.start, f1.start + n)
  match cardKind c with
  | 1 => if f0.len < imageBytes (wldFmt c) then cBuffer else 0
  | 2 => mprdNest c
  | 3 =>
    both (nestRange f0.start (copyRun c) [(copyN1 c, squad c 9), (copyN2 c, squad c 12)])
      (nestRange f1.start (copyRun c) [(copyN1 c, squad c 10), (copyN2 c, squad c 13)])
  | 4 => plain (2048 * quad c 6)
  | 5 => plain (redCount c * redSize c)
  | 6 => if selfConflict c then cIllegal else 0
  | 7 => both (f0.start, f0.start + cryptLen c + 16) (f1.start, f1.start + cryptLen c)
  | _ => cIllegal

/-! ### The nest of a copy-engine card (R249, R270 to R274) -/

/-- The bytes of a card's nest. -/
def copyTotal (k : Card) : Nat :=
  match cardKind k with
  | 3 => copyRun k * copyN1 k * copyN2 k
  | 4 => 2048 * quad k 6
  | 5 => redCount k * redSize k
  | 6 => (cardFoot k 0).len
  | _ => cryptLen k + 16

/-- Position `p` of a nest: the offset of its memory side, the address of its buffer side, and how many bytes
are left of its run (R270 to R274). -/
def copyAt (k : Card) (p : Nat) : Nat × Nat × Nat :=
  let f0 := (cardFoot k 0).start
  let f1 := (cardFoot k 1).start
  if cardKind k = 3 then
    let r := p / copyRun k
    let j := p % copyRun k
    let i1 : Int := ((r % copyN1 k : Nat) : Int)
    let i2 : Int := ((r / copyN1 k : Nat) : Int)
    let m : Int := (f0 : Int) + i2 * squad k 12 + i1 * squad k 9 + j
    let b : Int := (f1 : Int) + i2 * squad k 13 + i1 * squad k 10 + j
    (m.toNat, b.toNat, copyRun k - j)
  else (f0 + p, f1 + p, copyTotal k - p)

/-- The length of the line at position `p`: to the end of its run or of its 128-byte virtual line; a CRYPT's
lines follow the offsets of its footprint (R285), and an EXPAND reads whole blocks (R256, R258). -/
def copyLineLen (k : Card) (vbase p : Nat) : Nat :=
  let (m, _, left) := copyAt k p
  let v := if cardKind k = 7 then m else vbase + m
  if cardKind k = 4 then 2048 else min left (128 - v % 128)

/-- The parts of `n` bytes from position `p` of a nest: of each the offset of its memory side, the address of its buffer
side, and its length.
Log 40: DEDUCED, unsafe. -/
def copyParts (k : Card) : Nat → Nat → Nat → List (Nat × Nat × Nat)
  | 0, _, _ => []
  | fuel + 1, p, n =>
    if n = 0 then []
    else
      let (m, b, left) := copyAt k p
      let t := min n left
      (m, b, t) :: copyParts k fuel (p + t) (n - t)

/-- The parts lie end to end in memory from offset `m` on. -/
def partsJoin : Nat → List (Nat × Nat × Nat) → Bool
  | _, [] => true
  | m, q :: t => q.1 = m && partsJoin (m + q.2.2) t

/-- The job writes a whole block of 2 KiB of a Z page as one unit (R258): a COPY whose runs lie end to end there, or a
CRYPT.
Log 40: DEDUCED, unsafe. -/
def zUnit (k : Card) (e : CabEntry) (p : Nat) : Bool :=
  let (m, _, _) := copyAt k p
  let va := e.vbase.toNat + m
  (cardKind k = 3 || cardKind k = 7) && cardOut k && va % 2048 = 0 && p + 2048 ≤ copyTotal k &&
    (e.frameAt va).any Frame.zpage && partsJoin m (copyParts k 2048 p 2048)

/-- The length of what the copy engine moves at position `p` of a card with a memory side: a line, or a block of a Z page. -/
def unitLen (k : Card) (e : CabEntry) (p : Nat) : Nat :=
  if zUnit k e p then 2048 else copyLineLen k e.vbase.toNat p

/-- The length of an MCAST's write at position `p` (R257, R258): an ABUF slot that it copies whole, or a part of a slot
or of other bytes.
Log 40: DEDUCED, unsafe. -/
def mcastLen (k : Card) (p : Nat) : Nat :=
  let f0 := cardFoot k 0
  let f1 := cardFoot k 1
  let left := copyTotal k - p
  if f0.bufOf = 3 ∧ f1.bufOf = 3 ∧ f0.start % 1024 = f1.start % 1024 then
    if (f0.start + p) % 1024 = 0 ∧ 1024 ≤ left then 1024 else min left (min 128 (1024 - (f0.start + p) % 1024))
  else min left 128

end Sys2Proof.Machine
end

