-- ==== Sys2Proof/Machine/Compress.lean ====
section
/-! DEFINITION. Compression tables: canonical codes (R254), generations (R255), the blocks of Z pages (R256)
and the tagged slots of ABUF (R257). -/

namespace Sys2Proof.Machine

/-- A 256-byte image is a valid table (R254). -/
def validTable (lens : List Nat) : Bool :=
  lens.length = 256 && lens.all (· ≤ 12) && lens.any (· ≠ 0) &&
    lens.foldl (fun n l => if l = 0 then n else n + 2 ^ (12 - l)) 0 ≤ 2 ^ 12

/-- The present values of a table, by length and then value. -/
def codeOrder (lens : List Nat) : List (Nat × Nat) :=
  (List.range 12).flatMap fun k =>
    ((List.range 256).filter fun v => lens.getD v 0 = k + 1).map fun v => (v, k + 1)

/-- CanonicalCodes of R254: (value, length, code). -/
def canonicalCodes (lens : List Nat) : List (Nat × Nat × Nat) :=
  ((codeOrder lens).foldl (fun (acc : List (Nat × Nat × Nat) × Option (Nat × Nat)) p =>
    let code := match acc.2 with
      | none => 0
      | some (c, l) => (c + 1) * 2 ^ (p.2 - l)
    (acc.1 ++ [(p.1, p.2, code)], some (code, p.2))) ([], none)).1

/-- The bits of a code, most significant first. -/
def codeBits (len code : Nat) : List Bool := (List.range len).map fun i => code / 2 ^ (len - 1 - i) % 2 = 1

/-- The bits of bytes, bit 0 of each byte first (R254). -/
def bitsOfBytes (l : List Byte) : List Bool := l.flatMap fun b => (List.range 8).map fun i => b.getLsbD i

/-- Bytes from bits; missing bits are zero. -/
def bytesOfBits : Nat → List Bool → List Byte
  | 0, _ => []
  | n + 1, l =>
    BitVec.ofNat 8 ((List.range 8).foldl (fun a i => if l.getD i false then a + 2 ^ i else a) 0) ::
      bytesOfBits n (l.drop 8)

/-- The coded bits of bytes under a table; none when a value has no code. -/
def encodeBytes (lens : List Nat) (l : List Byte) : Option (List Bool) :=
  let codes := canonicalCodes lens
  l.foldl (fun acc b =>
    match acc, codes.find? fun c => c.1 = b.toNat with
    | some bits, some (_, n, code) => some (bits ++ codeBits n code)
    | _, _ => none) (some [])

/-- Decodes bits: `code` and `len` are the code read so far. None when a code is not in the table, or when
bits end inside a code. -/
def decodeBits (codes : List (Nat × Nat × Nat)) : List Bool → Nat → Nat → Option (List Byte)
  | [], _, len => if len = 0 then some [] else none
  | b :: t, len, code =>
    let len := len + 1
    let code := code * 2 + (if b then 1 else 0)
    match codes.find? fun c => c.2 = (len, code) with
    | some (v, _) => (decodeBits codes t 0 0).map fun l => BitVec.ofNat 8 v :: l
    | none => if 12 ≤ len then none else decodeBits codes t len code

/-- Compression slot `slot` of die `die`: one that no command has loaded is a learned slot in its learning phase (R255).
Log 66: DESIGN CHOICE, unsafe. -/
def State.tableAt (s : State) (die slot : Nat) : TableSlot :=
  SMap.get ⟨true, false, 0, [], 0, [], []⟩ (s.dieAt die).tables slot

/-- The code lengths of a generation that a slot still holds (R255). -/
def TableSlot.lensOf (t : TableSlot) (gen : Nat) : Option (List Nat) :=
  if t.lens ≠ [] ∧ t.gen = gen then some t.lens
  else if t.prevLens ≠ [] ∧ t.prevGen = gen then some t.prevLens
  else none

/-- A slot takes a table: a new generation, with the one before kept (R255). -/
def TableSlot.take (t : TableSlot) (learned : Bool) (lens : List Nat) : TableSlot :=
  ⟨learned, true, (t.gen + 1) % 2 ^ 16, lens, t.gen, t.lens, []⟩

/-- Output bytes pass through a slot: one that learns counts their values (R255). -/
def TableSlot.count (t : TableSlot) (l : List Byte) : TableSlot :=
  if !t.learned || t.frozen then t
  else { t with counts := l.foldl (fun m b => SMap.put m b.toNat (SMap.get 0 m b.toNat + 1)) t.counts }

/-- A block of a Z page decoded (R256): 2,048 bytes, or none when it fails. -/
def State.decodeBlock (s : State) (l : List Byte) : Option (List Byte) :=
  let h := natAt l 0 8
  let bits := bitsOf h 43 30
  if bitsOf h 29 0 ≠ 0 ∨ bits = 0 ∨ 16320 < bits then none
  else match (s.tableAt (bitsOf h 63 62) (bitsOf h 61 60)).lensOf (bitsOf h 59 44) with
    | none => none
    | some lens =>
      match decodeBits (canonicalCodes lens) ((bitsOfBytes (l.drop 8)).take bits) 0 0 with
      | some out => if out.length = 2048 then some out else none
      | none => none

/-- The tag of a compressed ABUF slot: its table and generation, plus one; 0 is a raw slot (R257). -/
def slotTag (die slot gen : Nat) : Nat := (die * 4 + slot) * 2 ^ 16 + gen + 1

/-- What step 6 of R247 stores for a slot of 1,024 output bytes: the stored bytes and the tag (R257). -/
def State.compressSlot (s : State) (die slot : Nat) (l : List Byte) : List Byte × Nat :=
  let t := s.tableAt die slot
  if !t.frozen then (l, 0)
  else match encodeBytes t.lens l with
    | some bits =>
      if bits.length ≤ 8192 then (bytesOfBits 1024 bits, slotTag die slot t.gen) else (l, 0)
    | none => (l, 0)

/-- Decodes the first `n` values, each with the bit position at which its code ends; `at_` bits have been read. -/
def decodeCount (codes : List (Nat × Nat × Nat)) : List Bool → Nat → Nat → Nat → Nat → Option (List (Byte × Nat))
  | _, 0, _, _, _ => some []
  | [], _ + 1, _, _, _ => none
  | b :: t, n + 1, at_, len, code =>
    let len := len + 1
    let code := code * 2 + (if b then 1 else 0)
    match codes.find? fun c => c.2 = (len, code) with
    | some (v, _) => (decodeCount codes t n (at_ + 1) 0 0).map fun l => (BitVec.ofNat 8 v, at_ + 1) :: l
    | none => if 12 ≤ len then none else decodeCount codes t (n + 1) (at_ + 1) len code

/-- The 1,024 bytes that the matrix engine reads from ABUF slot `i` of a core, and whether each is bad: decoded when the
slot is compressed, none when it fails to decode (R257). A decoded byte is bad when its code ends behind a stored byte
that is poisoned (R246). -/
def State.readSlot (s : State) (c : Core) (i : Nat) : Option (List (Byte × Bool)) :=
  let raw := c.bufBytes 3 (1024 * i) 1024
  let tag := SMap.get 0 c.abufTags i
  if tag = 0 then some (raw.zipIdx.map fun p => (p.1, c.bufPoison 3 (1024 * i + p.2) 1))
  else
    let k := (tag - 1) / 2 ^ 16
    let good := if c.localPoison.isEmpty then 1024
      else ((List.range 1024).find? fun p => c.bufPoison 3 (1024 * i + p) 1).getD 1024
    match (s.tableAt (k / 4) (k % 4)).lensOf ((tag - 1) % 2 ^ 16) with
    | some lens => (decodeCount (canonicalCodes lens) (bitsOfBytes raw) 1024 0 0 0).map fun l =>
      l.map fun p => (p.1, decide (8 * good < p.2))
    | none => none

/-- The stored bytes of ABUF slot `i` of a core in which its decoded byte `o` lies: the first, and how many (R257). -/
def State.storedAt (s : State) (c : Core) (i o : Nat) : Nat × Nat :=
  let tag := SMap.get 0 c.abufTags i
  let k := (tag - 1) / 2 ^ 16
  let ends := if tag = 0 then none
    else ((s.tableAt (k / 4) (k % 4)).lensOf ((tag - 1) % 2 ^ 16)).bind fun lens =>
      decodeCount (canonicalCodes lens) (bitsOfBytes (c.bufBytes 3 (1024 * i) 1024)) (o + 1) 0 0 0
  match ends with
  | none => (1024 * i + o, 1)
  | some l =>
    let at_ : Nat → Nat := fun j => (l.getD j (0, 0)).2
    let first := (if o = 0 then 0 else at_ (o - 1)) / 8
    (1024 * i + first, (at_ o - 1) / 8 - first + 1)

/-- The ABUF slots that bytes [a, a + n) touch become raw (R257). -/
def Core.rawSlots (c : Core) (a n : Nat) : Core :=
  { c with abufTags := c.abufTags.filter fun p => !(p.1 * 1024 < a + n && a < p.1 * 1024 + 1024) }

end Sys2Proof.Machine
end

