-- ==== Sys2Proof/Machine/Func.lean ====
section
/-! DEFINITION. The exact functions of R224 and R226 (division, square root, reciprocals, powers,
logarithm, sine, cosine, tanh and the logistic function), each rounded once. Quotients and roots are
rounded exactly. The other functions are irrational wherever they are not listed as exact, and are
rounded from a fixed-point value far longer than any format. -/

namespace Sys2Proof.Machine

/-- Bits after the point of the fixed-point evaluations.
Log 36: DEDUCED, unsafe. -/
def fxBits : Nat := 400
/-- One, as a fixed-point value. -/
def fxOne : Nat := 2 ^ fxBits

/-- The integer square root, bit by bit from bit `k`. -/
def isqrtFrom (n : Nat) : Nat → Nat → Nat
  | 0, acc => acc
  | k + 1, acc =>
    let t := acc + 2 ^ k
    isqrtFrom n k (if t * t ≤ n then t else acc)

/-- floor(√n). -/
def isqrt (n : Nat) : Nat := isqrtFrom n (Nat.log2 n / 2 + 1) 0

/-- The rounding of a / b (R224): flags NV and DZ by the rules of Exact. -/
def divRound (t : Nat) (a b : Num) (rnd : Nat) (sat fzo : Bool) : Nat × FpFlags :=
  let s := a.isNeg != b.isNeg
  match a, b with
  | .nan, _ => (canonicalNaN t, 0#5)
  | _, .nan => (canonicalNaN t, 0#5)
  | .inf _, .inf _ => (canonicalNaN t, 16#5)
  | .zero _, .zero _ => (canonicalNaN t, 16#5)
  | .inf _, _ => roundTo t (.inf s) rnd sat fzo
  | _, .inf _ => roundTo t (.zero s) rnd sat fzo
  | .zero _, _ => roundTo t (.zero s) rnd sat fzo
  | _, .zero _ => let (r, f) := roundTo t (.inf s) rnd sat fzo; (r, f ||| 8#5)
  | .fin _ m e, .fin _ n g => roundFrac t 64 s m n (e - g) rnd sat fzo

/-- √(m * 2^e) as a doubled root with its unit's exponent: 2 * floor(root), plus 1 when the root is
not exact. -/
def sqrtParts (m : Nat) (e : Int) : Nat × Int :=
  let (m, e) := if e % 2 = 0 then (m, e) else (2 * m, e - 1)
  let n := m * 4 ^ 80
  let r := isqrt n
  (2 * r + (if r * r = n then 0 else 1), e / 2 - 81)

/-- √a, rounded (R224). -/
def sqrtRound (t : Nat) (a : Num) (rnd : Nat) (sat fzo : Bool) : Nat × FpFlags :=
  match a with
  | .nan => (canonicalNaN t, 0#5)
  | .zero n => roundTo t (.zero n) rnd sat fzo
  | .inf false => roundTo t (.inf false) rnd sat fzo
  | .inf true => (canonicalNaN t, 16#5)
  | .fin true _ _ => (canonicalNaN t, 16#5)
  | .fin false m e => let (r, k) := sqrtParts m e; roundFrac t 64 false r 1 k rnd sat fzo

/-- An exact infinity from a pole: DZ (R226). -/
def poleResult (t : Nat) (neg : Bool) (rnd : Nat) (sat fzo : Bool) : Nat × FpFlags :=
  let (r, f) := roundTo t (.inf neg) rnd sat fzo
  (r, f ||| 8#5)

/-- 1 / a to 12 significant bits (R226).
Log 36: DEDUCED, unsafe. -/
def rcpRound (t : Nat) (a : Num) (rnd : Nat) (sat fzo : Bool) : Nat × FpFlags :=
  match a with
  | .nan => (canonicalNaN t, 0#5)
  | .zero n => poleResult t n rnd sat fzo
  | .inf n => roundTo t (.zero n) rnd sat fzo
  | .fin n m e => roundFrac t 12 n 1 m (-e) rnd sat fzo

/-- 1 / √a to 12 significant bits (R226).
Log 36: DEDUCED, unsafe. -/
def rsqRound (t : Nat) (a : Num) (rnd : Nat) (sat fzo : Bool) : Nat × FpFlags :=
  match a with
  | .nan => (canonicalNaN t, 0#5)
  | .zero n => poleResult t n rnd sat fzo
  | .inf false => roundTo t (.zero false) rnd sat fzo
  | .inf true => (canonicalNaN t, 16#5)
  | .fin true _ _ => (canonicalNaN t, 16#5)
  | .fin false m e =>
    let (m, e) := if e % 2 = 0 then (m, e) else (2 * m, e - 1)
    let n := 4 ^ 90 / m
    let r := isqrt n
    let v := 2 * r + (if r * r * m = 4 ^ 90 then 0 else 1)
    roundFrac t 12 false v 1 (-(e / 2) - 91) rnd sat fzo

/-! Fixed-point constants and series. -/

/-- Sum of the series of arctanh (alternating: arctan) of 1/x over `n` terms. -/
def atanSeries (alternating : Bool) (x : Nat) : Nat → Nat → Nat → Int → Int
  | 0, _, _, acc => acc
  | n + 1, k, pow, acc =>
    let t : Int := (pow / (2 * k + 1) : Nat)
    atanSeries alternating x n (k + 1) (pow / (x * x)) (if alternating && k % 2 == 1 then acc - t
      else acc + t)

/-- arctan(1/x) in fixed point. -/
def fxAtanInv (x : Nat) : Int := atanSeries true x 300 0 (fxOne / x) 0
/-- arctanh(1/x) in fixed point. -/
def fxAtanhInv (x : Nat) : Int := atanSeries false x 300 0 (fxOne / x) 0
/-- π in fixed point. -/
def fxPi : Nat := (16 * fxAtanInv 5 - 4 * fxAtanInv 239).toNat
/-- ln 2 in fixed point. -/
def fxLn2 : Nat := (2 * fxAtanhInv 3).toNat

/-- Taylor series with terms x^k / k!, every `step`-th one, alternating or not. -/
def taylor (x : Nat) (step : Nat) (alternating : Bool) : Nat → Nat → Nat → Int → Int
  | 0, _, _, acc => acc
  | n + 1, k, term, acc =>
    let acc := if alternating && (k / 2) % 2 == 1 then acc - term else acc + (term : Int)
    let next := if step = 1 then term * x / fxOne / (k + 1)
      else term * x / fxOne * x / fxOne / ((k + 1) * (k + 2))
    taylor x step alternating n (k + step) next acc

/-- e^x for a fixed-point x in [0, 1]. -/
def fxExp (x : Nat) : Nat := (taylor x 1 false 100 0 fxOne 0).toNat
/-- sin x for a fixed-point x in [0, 1]. -/
def fxSin (x : Nat) : Nat := (taylor x 2 true 60 1 x 0).toNat
/-- cos x for a fixed-point x in [0, 1]. -/
def fxCos (x : Nat) : Nat := (taylor x 2 true 60 0 fxOne 0).toNat

/-- A fixed-point value known to lie strictly between v and v + 1 units, rounded once.
Log 36: DEDUCED, unsafe. -/
def roundFx (t : Nat) (neg : Bool) (v : Nat) (shift : Int) (rnd : Nat) (sat fzo : Bool) :
    Nat × FpFlags :=
  roundFrac t 64 neg (2 * v + 1) 1 (shift - fxBits - 1) rnd sat fzo

/-- |a| in fixed point, rounded down. -/
def fxOf (m : Nat) (e : Int) : Nat :=
  let (a, b) := scaleQuot m 1 (e + fxBits)
  a / b

/-- The value m * 2^e is an integer. -/
def isInteger (m : Nat) (e : Int) : Bool := 0 ≤ e || m % 2 ^ (-e).toNat == 0

/-- floor of m * 2^e. -/
def floorOf (m : Nat) (e : Int) : Nat :=
  let (a, b) := scaleQuot m 1 e
  a / b

/-- 2^a, rounded (R226).
Log 36: DEDUCED, unsafe. -/
def exp2Round (t : Nat) (a : Num) (rnd : Nat) (sat fzo : Bool) : Nat × FpFlags :=
  match a with
  | .nan => (canonicalNaN t, 0#5)
  | .inf true => roundTo t (.zero false) rnd sat fzo
  | .inf false => roundTo t (.inf false) rnd sat fzo
  | .zero _ => roundTo t (.fin false 1 0) rnd sat fzo
  | .fin n m e =>
    let k := floorOf m e
    if 1000 ≤ k then roundFrac t 64 false 1 1 (if n then -1000 else 1000) rnd sat fzo
    else if isInteger m e then
      roundFrac t 64 false 1 1 (if n then -(k : Int) else k) rnd sat fzo
    else
      let f := fxOf m e % fxOne
      -- 2^a = 2^k * 2^f, or 2^(-k-1) * 2^(1-f)
      let (k, f) : Int × Nat := if n then (-(k : Int) - 1, fxOne - f - 1) else (k, f)
      -- |a| below 2^-100 keeps 2^a on its side of 1
      if (Nat.log2 m : Int) + e < -100 then
        if n then roundFx t false (fxOne - 2) 0 rnd sat fzo
        else roundFx t false (fxOne + 1) 0 rnd sat fzo
      else roundFx t false (fxExp (f * fxLn2 / fxOne)) k rnd sat fzo

/-- One bit of log2 of a fixed-point x in [1, 2) by squaring, `n` times. -/
def log2Bits (one : Nat) : Nat → Nat → Nat → Nat
  | 0, _, acc => acc
  | n + 1, x, acc =>
    let y := x * x / one
    if 2 * one ≤ y then log2Bits one n (y / 2) (2 * acc + 1) else log2Bits one n y (2 * acc)

/-- log2 a, rounded (R226).
Log 36: DEDUCED, unsafe. -/
def log2Round (t : Nat) (a : Num) (rnd : Nat) (sat fzo : Bool) : Nat × FpFlags :=
  match a with
  | .nan => (canonicalNaN t, 0#5)
  | .zero _ => poleResult t true rnd sat fzo
  | .inf false => roundTo t (.inf false) rnd sat fzo
  | .inf true => (canonicalNaN t, 16#5)
  | .fin true _ _ => (canonicalNaN t, 16#5)
  | .fin false m e =>
    let l := Nat.log2 m
    let k : Int := (l : Int) + e
    if m = 2 ^ l then
      if k = 0 then roundTo t (.zero false) rnd sat fzo
      else roundFrac t 64 (k < 0) k.natAbs 1 0 rnd sat fzo
    else
      let one := 2 ^ 800
      let f := log2Bits one 200 (m * one / 2 ^ l) 0
      -- the value lies strictly between k + f/2^200 and k + (f+1)/2^200
      let v : Int := (2 * (k * (2 ^ 200 : Nat) + f) + 1)
      roundFrac t 64 (v < 0) v.natAbs 1 (-201) rnd sat fzo

/-- sin(π f) for a fixed-point f in [0, 1/2]. -/
def fxSinPi (f : Nat) : Nat :=
  if 4 * f ≤ fxOne then fxSin (f * fxPi / fxOne) else fxCos ((fxOne / 2 - f) * fxPi / fxOne)

/-- sin(π r) where the fixed-point r lies in [0, 2): sign and magnitude, rounded; the exact values
are those of a multiple of 1/2.
Log 36: DEDUCED, unsafe. -/
def sinPiRound (t : Nat) (neg : Bool) (r : Nat) (rnd : Nat) (sat fzo : Bool) : Nat × FpFlags :=
  let neg := neg != (fxOne ≤ r)
  let r := r % fxOne
  let r := if fxOne < 2 * r then fxOne - r else r
  if 2 * r = fxOne then roundTo t (.fin neg 1 0) rnd sat fzo
  else roundFx t neg (fxSinPi r) 0 rnd sat fzo

/-- sin(π a), rounded (R226). -/
def sinRound (t : Nat) (a : Num) (rnd : Nat) (sat fzo : Bool) : Nat × FpFlags :=
  match a with
  | .nan => (canonicalNaN t, 0#5)
  | .inf _ => (canonicalNaN t, 16#5)
  | .zero n => roundTo t (.zero n) rnd sat fzo
  | .fin n m e =>
    if isInteger m e then roundTo t (.zero n) rnd sat fzo
    else sinPiRound t n (fxOf m e % (2 * fxOne)) rnd sat fzo

/-- cos(π a) = sin(π (a + 1/2)), rounded (R226). -/
def cosRound (t : Nat) (a : Num) (rnd : Nat) (sat fzo : Bool) : Nat × FpFlags :=
  match a with
  | .nan => (canonicalNaN t, 0#5)
  | .inf _ => (canonicalNaN t, 16#5)
  | .zero _ => roundTo t (.fin false 1 0) rnd sat fzo
  | .fin _ m e =>
    if isInteger (2 * m) e && !isInteger m e then roundTo t (.zero false) rnd sat fzo
    else if isInteger m e then roundTo t (.fin (floorOf m e % 2 == 1) 1 0) rnd sat fzo
    else if (Nat.log2 m : Int) + e < -100 then roundFx t false (fxOne - 2) 0 rnd sat fzo
    else sinPiRound t false ((fxOf m e + fxOne / 2) % (2 * fxOne)) rnd sat fzo

/-- e^(-y) for y = m * 2^e > 0, in fixed point; zero where it is below one unit. -/
def fxExpNeg (m : Nat) (e : Int) : Nat :=
  if 9 ≤ (Nat.log2 m : Int) + e then 0
  else
    -- y / ln 2 = k + f;  e^-y = 2^-(k+1) * 2^(1-f)
    let q := fxOf m e * fxOne / fxLn2
    let k := q / fxOne
    let f := q % fxOne
    fxExp ((fxOne - f) * fxLn2 / fxOne) / 2 ^ (k + 1)

/-- tanh a, rounded (R226): (1 - e^-2|a|) / (1 + e^-2|a|).
Log 36: DEDUCED, unsafe. -/
def tanhRound (t : Nat) (a : Num) (rnd : Nat) (sat fzo : Bool) : Nat × FpFlags :=
  match a with
  | .nan => (canonicalNaN t, 0#5)
  | .inf n => roundTo t (.fin n 1 0) rnd sat fzo
  | .zero n => roundTo t (.zero n) rnd sat fzo
  | .fin n m e =>
    if (Nat.log2 m : Int) + e < -40 then
      -- strictly between a (1 - 2^-64) and a
      roundFrac t 64 n (m * 2 ^ 64 - 1) 1 (e - 64) rnd sat fzo
    else
      let x := fxExpNeg m (e + 1)
      if x = 0 then roundFx t n (fxOne - 2) 0 rnd sat fzo
      else roundFx t n ((fxOne - x) * fxOne / (fxOne + x)) 0 rnd sat fzo

/-- 1 / (1 + e^-a) for a of sign `n` and magnitude m * 2^e, in fixed point, rounded down. -/
def fxSigm (n : Bool) (m : Nat) (e : Int) : Nat :=
  if (Nat.log2 m : Int) + e < -100 then (if n then fxOne / 2 - 2 else fxOne / 2 + 1)
  else
    let x := fxExpNeg m e
    if n then x * fxOne / (fxOne + x)
    else if x = 0 then fxOne - 2
    else fxOne * fxOne / (fxOne + x)

/-- 1 / (1 + e^-a), rounded (R226).
Log 36: DEDUCED, unsafe. -/
def sigmRound (t : Nat) (a : Num) (rnd : Nat) (sat fzo : Bool) : Nat × FpFlags :=
  match a with
  | .nan => (canonicalNaN t, 0#5)
  | .inf true => roundTo t (.zero false) rnd sat fzo
  | .inf false => roundTo t (.fin false 1 0) rnd sat fzo
  | .zero _ => roundTo t (.fin false 1 (-1)) rnd sat fzo
  | .fin n m e => roundFx t false (fxSigm n m e) 0 rnd sat fzo

/-- a / (1 + e^-a), rounded once (R51, R247); the product of -∞ and +0 is NaN.
Log 39: DEDUCED, unsafe. -/
def siluRound (t : Nat) (a : Num) (rnd : Nat) (sat fzo : Bool) : Nat × FpFlags :=
  match a with
  | .nan => (canonicalNaN t, 0#5)
  | .inf true => (canonicalNaN t, 16#5)
  | .inf false => roundTo t (.inf false) rnd sat fzo
  | .zero n => roundTo t (.zero n) rnd sat fzo
  | .fin n m e => roundFrac t 64 n (m * (2 * fxSigm n m e + 1)) 1 (e - fxBits - 1) rnd sat fzo

end Sys2Proof.Machine
end

