-- ==== Sys2Proof/Machine/Integer.lean ====
section
/-! DEFINITION. The scalar integer forms, opcodes 0x01 to 0x2E (R133 to R140), in the C, A and X
streams. -/

namespace Sys2Proof.Machine

open Host (Outcome)

/-! ### The operations (R136, R137, R139) -/

/-- The exact integer clamped to the range of a signed 64-bit value (R136). -/
def clamp64 (x : Int) : W64 := BitVec.ofInt 64 (max (-(2 ^ 63)) (min (2 ^ 63 - 1) x))

/-- a + b, clamped when sat. -/
def addOp (sat : Bool) (a b : W64) : W64 := if sat then clamp64 (a.toInt + b.toInt) else a + b
/-- a - b, clamped when sat. -/
def subOp (sat : Bool) (a b : W64) : W64 := if sat then clamp64 (a.toInt - b.toInt) else a - b
/-- a * b, clamped when sat. -/
def mulOp (sat : Bool) (a b : W64) : W64 := if sat then clamp64 (a.toInt * b.toInt) else a * b
/-- Bits [127:64] of the signed product. -/
def mulhOp (a b : W64) : W64 := BitVec.ofInt 64 (a.toInt * b.toInt / 2 ^ 64)
/-- Bits [127:64] of the unsigned product. -/
def mulhnOp (a b : W64) : W64 := BitVec.ofNat 64 (a.toNat * b.toNat / 2 ^ 64)
/-- Signed division, truncating (R137). -/
def divOp (a b : W64) : W64 := if b = 0 then BitVec.allOnes 64 else BitVec.ofInt 64 (a.toInt.tdiv b.toInt)
/-- Unsigned division (R137). -/
def divnOp (a b : W64) : W64 := if b = 0 then BitVec.allOnes 64 else BitVec.ofNat 64 (a.toNat / b.toNat)
/-- Signed remainder with the sign of a (R137). -/
def remOp (a b : W64) : W64 := if b = 0 then a else BitVec.ofInt 64 (a.toInt.tmod b.toInt)
/-- Unsigned remainder (R137). -/
def remnOp (a b : W64) : W64 := if b = 0 then a else BitVec.ofNat 64 (a.toNat % b.toNat)
/-- Left shift by b[5:0]. -/
def shlOp (a b : W64) : W64 := a <<< (b.toNat % 64)
/-- Logical right shift by b[5:0]. -/
def shrOp (a b : W64) : W64 := a >>> (b.toNat % 64)
/-- Arithmetic right shift by b[5:0]. -/
def sraOp (a b : W64) : W64 := a.sshiftRight (b.toNat % 64)
/-- Left rotation by b[5:0]. -/
def rolOp (a b : W64) : W64 := a.rotateLeft (b.toNat % 64)
/-- Right rotation by b[5:0]. -/
def rorOp (a b : W64) : W64 := a.rotateRight (b.toNat % 64)
/-- The lesser, signed. -/
def minOp (a b : W64) : W64 := if a.toInt ≤ b.toInt then a else b
/-- The greater, signed. -/
def maxOp (a b : W64) : W64 := if a.toInt ≤ b.toInt then b else a
/-- The lesser, unsigned. -/
def minnOp (a b : W64) : W64 := if a.toNat ≤ b.toNat then a else b
/-- The greater, unsigned. -/
def maxnOp (a b : W64) : W64 := if a.toNat ≤ b.toNat then b else a
/-- Leading zero bits of a `w`-bit number. -/
def clzNat (w n : Nat) : Nat := if n = 0 then w else w - 1 - Nat.log2 n
/-- The number of set bits among bits 0 to w - 1. -/
def popNat (w n : Nat) : Nat := ((List.range w).filter fun i => bitOf n i).length
/-- Trailing zero bits, w when there is no set bit. -/
def ctzNat (w n : Nat) : Nat := ((List.range w).find? fun i => bitOf n i).getD w
/-- Leading zero bits. -/
def clzOp (a : W64) : W64 := BitVec.ofNat 64 (clzNat 64 a.toNat)
/-- Trailing zero bits. -/
def ctzOp (a : W64) : W64 := BitVec.ofNat 64 (ctzNat 64 a.toNat)
/-- Set bits. -/
def popcOp (a : W64) : W64 := BitVec.ofNat 64 (popNat 64 a.toNat)
/-- Extract of R139; `imm` packs pos and len - 1. -/
def extractOp (signed : Bool) (a imm : W64) : W64 :=
  let pos := imm.toNat % 64
  let len := imm.toNat / 64 % 64 + 1
  let f := a.toNat / 2 ^ pos % 2 ^ len
  if signed && bitOf f (len - 1) then BitVec.ofInt 64 ((f : Int) - (2 ^ len : Nat))
  else BitVec.ofNat 64 f

/-! ### The instructions -/

/-- ADD (R136). -/
def execAdd (f : F3) (s : State) : Outcome State Fault Refusal :=
  intForm f 1 (addOp f.sat) s

/-- SUB (R136). -/
def execSub (f : F3) (s : State) : Outcome State Fault Refusal :=
  intForm f 1 (subOp f.sat) s

/-- MUL (R136). -/
def execMul (f : F3) (s : State) : Outcome State Fault Refusal :=
  intForm f 3 (mulOp f.sat) s

/-- MULH (R136). -/
def execMulh (f : F3) (s : State) : Outcome State Fault Refusal :=
  intForm f 3 mulhOp s

/-- MULHN (R136). -/
def execMulhn (f : F3) (s : State) : Outcome State Fault Refusal :=
  intForm f 3 mulhnOp s

/-- DIV (R137). -/
def execDiv (f : F3) (s : State) : Outcome State Fault Refusal :=
  intForm f 18 divOp s

/-- DIVN (R137). -/
def execDivn (f : F3) (s : State) : Outcome State Fault Refusal :=
  intForm f 18 divnOp s

/-- REM (R137). -/
def execRem (f : F3) (s : State) : Outcome State Fault Refusal :=
  intForm f 18 remOp s

/-- REMN (R137). -/
def execRemn (f : F3) (s : State) : Outcome State Fault Refusal :=
  intForm f 18 remnOp s

/-- AND (R136). -/
def execAnd (f : F3) (s : State) : Outcome State Fault Refusal :=
  intForm f 1 (· &&& ·) s

/-- OR (R136). -/
def execOr (f : F3) (s : State) : Outcome State Fault Refusal :=
  intForm f 1 (· ||| ·) s

/-- XOR (R136). -/
def execXor (f : F3) (s : State) : Outcome State Fault Refusal :=
  intForm f 1 (· ^^^ ·) s

/-- ANDN (R136). -/
def execAndn (f : F3) (s : State) : Outcome State Fault Refusal :=
  intForm f 1 (fun a b => a &&& ~~~b) s

/-- SHL (R136). -/
def execShl (f : F3) (s : State) : Outcome State Fault Refusal :=
  intForm f 1 shlOp s

/-- SHR (R136). -/
def execShr (f : F3) (s : State) : Outcome State Fault Refusal :=
  intForm f 1 shrOp s

/-- SRA (R136). -/
def execSra (f : F3) (s : State) : Outcome State Fault Refusal :=
  intForm f 1 sraOp s

/-- ROL (R136). -/
def execRol (f : F3) (s : State) : Outcome State Fault Refusal :=
  intForm f 1 rolOp s

/-- ROR (R136). -/
def execRor (f : F3) (s : State) : Outcome State Fault Refusal :=
  intForm f 1 rorOp s

/-- MIN (R136). -/
def execMin (f : F3) (s : State) : Outcome State Fault Refusal :=
  intForm f 1 minOp s

/-- MAX (R136). -/
def execMax (f : F3) (s : State) : Outcome State Fault Refusal :=
  intForm f 1 maxOp s

/-- MINN (R136). -/
def execMinn (f : F3) (s : State) : Outcome State Fault Refusal :=
  intForm f 1 minnOp s

/-- MAXN (R136). -/
def execMaxn (f : F3) (s : State) : Outcome State Fault Refusal :=
  intForm f 1 maxnOp s

/-- CMPEQ (R136). -/
def execCmpeq (f : F3) (s : State) : Outcome State Fault Refusal :=
  intForm f 1 (fun a b => flag (a == b)) s

/-- CMPNE (R136). -/
def execCmpne (f : F3) (s : State) : Outcome State Fault Refusal :=
  intForm f 1 (fun a b => flag (a != b)) s

/-- CMPLT (R136). -/
def execCmplt (f : F3) (s : State) : Outcome State Fault Refusal :=
  intForm f 1 (fun a b => flag (decide (a.toInt < b.toInt))) s

/-- CMPLTN (R136). -/
def execCmpltn (f : F3) (s : State) : Outcome State Fault Refusal :=
  intForm f 1 (fun a b => flag (decide (a.toNat < b.toNat))) s

/-- CMPLE (R136). -/
def execCmple (f : F3) (s : State) : Outcome State Fault Refusal :=
  intForm f 1 (fun a b => flag (decide (a.toInt ≤ b.toInt))) s

/-- CMPLEN (R136). -/
def execCmplen (f : F3) (s : State) : Outcome State Fault Refusal :=
  intForm f 1 (fun a b => flag (decide (a.toNat ≤ b.toNat))) s

/-- CLZ (R136). -/
def execClz (f : F3) (s : State) : Outcome State Fault Refusal :=
  intForm f 1 (fun a _ => clzOp a) s

/-- CTZ (R136). -/
def execCtz (f : F3) (s : State) : Outcome State Fault Refusal :=
  intForm f 1 (fun a _ => ctzOp a) s

/-- POPC (R136). -/
def execPopc (f : F3) (s : State) : Outcome State Fault Refusal :=
  intForm f 1 (fun a _ => popcOp a) s

/-- ADDI (R138). -/
def execAddi (f : FI) (s : State) : Outcome State Fault Refusal :=
  immForm f 1 (immSx f) (addOp false) s

/-- MULI (R138). -/
def execMuli (f : FI) (s : State) : Outcome State Fault Refusal :=
  immForm f 3 (immSx f) (mulOp false) s

/-- ANDI (R138). -/
def execAndi (f : FI) (s : State) : Outcome State Fault Refusal :=
  immForm f 1 (immSx f) (· &&& ·) s

/-- ORI (R138). -/
def execOri (f : FI) (s : State) : Outcome State Fault Refusal :=
  immForm f 1 (immSx f) (· ||| ·) s

/-- XORI (R138). -/
def execXori (f : FI) (s : State) : Outcome State Fault Refusal :=
  immForm f 1 (immSx f) (· ^^^ ·) s

/-- SHLI (R138). -/
def execShli (f : FI) (s : State) : Outcome State Fault Refusal :=
  immForm f 1 (imm6 f) shlOp s

/-- SHRI (R138). -/
def execShri (f : FI) (s : State) : Outcome State Fault Refusal :=
  immForm f 1 (imm6 f) shrOp s

/-- SRAI (R138). -/
def execSrai (f : FI) (s : State) : Outcome State Fault Refusal :=
  immForm f 1 (imm6 f) sraOp s

/-- CMPEQI (R138). -/
def execCmpeqi (f : FI) (s : State) : Outcome State Fault Refusal :=
  immForm f 1 (immSx f) (fun a b => flag (a == b)) s

/-- CMPNEI (R138). -/
def execCmpnei (f : FI) (s : State) : Outcome State Fault Refusal :=
  immForm f 1 (immSx f) (fun a b => flag (a != b)) s

/-- CMPLTI (R138). -/
def execCmplti (f : FI) (s : State) : Outcome State Fault Refusal :=
  immForm f 1 (immSx f) (fun a b => flag (decide (a.toInt < b.toInt))) s

/-- CMPLTNI (R138). -/
def execCmpltni (f : FI) (s : State) : Outcome State Fault Refusal :=
  immForm f 1 (immSx f) (fun a b => flag (decide (a.toNat < b.toNat))) s

/-- EXTR (R139). -/
def execExtr (f : FI) (s : State) : Outcome State Fault Refusal :=
  immForm f 1 (immSx f) (extractOp false) s

/-- EXTRS (R139). -/
def execExtrs (f : FI) (s : State) : Outcome State Fault Refusal :=
  immForm f 1 (immSx f) (extractOp true) s

/-- LIMM (R140): the literal to d. -/
def execLimm (f : FL) (lit : W64) (s : State) : Outcome State Fault Refusal :=
  issue f.g false true (fun s => .ok (.fall, s.writeScalar 1 f.d.toNat lit)) s

end Sys2Proof.Machine
end

