-- ==== Sys2Proof/Machine/VecOps.lean ====
section
/-! DEFINITION. The element operations of the X stream: floating point (R224 to R226), conversions and
dot products (R227, R228), compares (R229), integers (R230), reductions (R71, R232), moves (R233, R234)
and checksums (R238, R239). -/

namespace Sys2Proof.Machine

open Host (Outcome)

/-! ### Element loops -/

/-- The vector and the ORed flags of `f` on the elements j < n that `act` selects. -/
def mapElems (w n : Nat) (act : Nat → Bool) (f : Nat → Nat × FpFlags) : Vec × FpFlags :=
  let r := (List.range n).foldl
    (fun (acc : Nat × FpFlags) j =>
      if act j then
        let (v, fl) := f j
        (acc.1 + v % 2 ^ w * 2 ^ (w * j), acc.2 ||| fl)
      else acc) (0, 0#5)
  (BitVec.ofNat 2048 r.1, r.2)

/-- The width of a form's elements. -/
def f3Width (f : F3) : Nat := typeWidth f.fmt.toNat

/-- A vector form whose element j is computed from element j of its sources. -/
def elemForm (f : F3) (lat : Nat) (op : Nat → Nat → Nat → Nat × FpFlags) (s : State) :
    Outcome State Fault Refusal :=
  issueSet f.g (fun s =>
    let w := (f3Width f)
    let n := elemCount w
    let a := s.vsrc w f.s1
    let b := s.vsrc w f.s2
    let c := s.cur.vec f.d.toNat
    let act := activeElem w (s.laneMask f)
    let (v, fl) := mapElems w n act fun j => op (elem w a j) (elem w b j) (elem w c j)
    s.writeVec lat f.d v (activeBits w (s.laneMask f)) fl) s

/-! ### Floating point -/

/-- An arithmetic element form (R224): `exact` gives the exact value of flushed operands, one rounding
follows. A NaN operand gives NaN and no flag.
Log 34: DEDUCED, unsafe. -/
def floatForm (f : F3) (lat : Nat) (useB useC : Bool)
    (exact : Num → Num → Num → Num × FpFlags) (s : State) : Outcome State Fault Refusal :=
  elemForm f lat (fun x y z =>
    let t := f.fmt.toNat
    let a := flushIn t x f.fzi
    let b := flushIn t y f.fzi
    let c := flushIn t z f.fzi
    if a = .nan ∨ (useB ∧ b = .nan) ∨ (useC ∧ c = .nan) then (canonicalNaN t, 0#5)
    else
      let (v, fl) := exact a b c
      let (r, fl') := roundTo t v f.rnd.toNat f.sat f.fzo
      (r, fl ||| fl')) s

/-- p + c of a fused form, p an exact product with its flags. -/
def fusedSum (rnd : Nat) (p : Num × FpFlags) (c : Num) : Num × FpFlags :=
  let (v, fl) := Num.add rnd p.1 c
  (v, fl ||| p.2)

/-- A function form (R226): one rounded function of the flushed operand. -/
def funcForm (f : F3) (lat : Nat)
    (fn : Nat → Num → Nat → Bool → Bool → Nat × FpFlags) (s : State) :
    Outcome State Fault Refusal :=
  elemForm f lat (fun x _ _ =>
    fn f.fmt.toNat (flushIn f.fmt.toNat x f.fzi) f.rnd.toNat f.sat f.fzo) s

/-- The pattern of a value that the format holds exactly. -/
def patternOf (t : Nat) (x : Num) : Nat := (roundTo t x 0 false false).1

/-- a < b with -0 < +0 (R225). -/
def minLess (a b : Num) : Bool :=
  a.lt b || (a.eqv b && a.isNeg && !b.isNeg)

/-- vmin of R225 on values. -/
def minNum (a b : Num) : Num :=
  if a = .nan then b else if b = .nan then a else if minLess b a then b else a
/-- vmax of R225 on values. -/
def maxNum (a b : Num) : Num :=
  if a = .nan then b else if b = .nan then a else if minLess a b then b else a

/-- A form that rounds nothing (R225). -/
def exactForm (f : F3) (op : Num → Num → Num → Num) (s : State) : Outcome State Fault Refusal :=
  elemForm f 2 (fun x y z =>
    let t := f.fmt.toNat
    (patternOf t (op (flushIn t x f.fzi) (flushIn t y f.fzi) (flushIn t z f.fzi)), 0#5)) s

/-- A value rounded to an integral value; zero keeps the sign (R225). -/
def roundIntegral (rnd : Nat) : Num → Num
  | .fin n m e =>
    if 0 ≤ e then .fin n m e
    else
      let r := roundQuot m (2 ^ (-e).toNat) rnd n
      if r = 0 then .zero n else .fin n r 0
  | x => x

/-- The value with the given sign. -/
def Num.withSign (x : Num) (n : Bool) : Num := if x.isNeg == n then x else x.negate

/-- The class bit of a pattern (R225). -/
def classBit (t b : Nat) : Nat :=
  let sub := isSubnormal t b
  match decodeFloat t b with
  | .nan => 8
  | .inf true => 0
  | .inf false => 7
  | .zero true => 3
  | .zero false => 4
  | .fin true _ _ => if sub then 2 else 1
  | .fin false _ _ => if sub then 5 else 6

/-- The exact sum of terms, NaN and infinities as in GroupSum (R68), NV for opposite infinities; an
exact zero takes the sign of R51.
Log 34: DEDUCED, unsafe. -/
def sumTerms (rnd : Nat) (l : List Num) : Num × FpFlags :=
  if l.any (· = .nan) then (.nan, 0#5)
  else if l.any (· = .inf false) ∧ l.any (· = .inf true) then (.nan, 16#5)
  else if l.any (· = .inf false) then (.inf false, 0#5)
  else if l.any (· = .inf true) then (.inf true, 0#5)
  else
    let u := l.foldl (fun m x => match x.unit with | some e => min m e | none => m) 1024
    let v := l.foldl (fun (acc : Int) x => acc + x.inUnits u) 0
    let allNegZero := l.all (· = .zero true)
    let allPosZero := l.all (· = .zero false)
    (Num.ofUnits v u (allNegZero || (!allPosZero && rnd == 2)), 0#5)

/-- One lane of `vdot` (R228): the new value of the lane.
Log 34: DEDUCED, unsafe. -/
def dotLane (f : F3) (d a b : Nat) : Nat × FpFlags :=
  let t := f.fmt.toNat
  let tb := if f.fn = 0 then t else 5
  let w := typeWidth t
  let idx := List.range (32 / w)
  let el : Nat → Nat → Nat := fun x j => x / 2 ^ (w * j) % 2 ^ w
  if isFloatType t then
    let ps := idx.map fun j =>
      Num.mul (elemValue t (el a j) f.fzi) (elemValue tb (el b j) f.fzi)
    let (v, fl) := sumTerms f.rnd.toNat (flushIn 0 d f.fzi :: ps.map (·.1))
    let (r, fl') := roundTo 0 v f.rnd.toNat f.sat f.fzo
    (r, ps.foldl (fun acc p => acc ||| p.2) (fl ||| fl'))
  else
    let v := idx.foldl (fun (acc : Int) j => acc + intOf t (el a j) * intOf t (el b j)) (intOf 10 d)
    (intResult 10 f.sat v, 0#5)

/-! ### Compares (R229) -/

/-- The result of a compare: into a mask register or into a vector. -/
def compareForm (f : F3) (holds : Nat → Nat → Bool) (s : State) : Outcome State Fault Refusal :=
  issueSet f.g (fun s =>
    let w := (f3Width f)
    let a := s.vsrc w f.s1
    let b := s.vsrc w f.s2
    let mask := s.laneMask f
    let h : Nat → Bool := fun j => holds (elem w a j) (elem w b j)
    if f.fn.getLsbD 3 then
      let v := elemBits w (elemCount w) fun j => activeElem w mask j && h j
      s.writeVec 2 f.d v (activeBits w mask) 0#5
    else
      let bits := (List.range 64).foldl (fun acc i =>
        let j := 32 * i / w
        if activeElem w mask j && h j then acc + 2 ^ i else acc) 0
      s.writeMask 2 f.d.toNat (BitVec.ofNat 64 bits)) s

/-! ### Integers (R230) -/

/-- An integer element form: `op` on the integers that the elements stand for, clamped when sat. -/
def integerForm (f : F3) (lat : Nat) (op : Int → Int → Int → Int) (s : State) :
    Outcome State Fault Refusal :=
  elemForm f lat (fun x y z =>
    let t := f.fmt.toNat
    (intResult t f.sat (op (intOf t x) (intOf t y) (intOf t z)), 0#5)) s

/-- An integer element form on patterns of width w. -/
def bitsForm (f : F3) (lat : Nat) (op : Nat → Nat → Nat → Nat) (s : State) :
    Outcome State Fault Refusal :=
  elemForm f lat (fun x y _ => (op (f3Width f) x y, 0#5)) s

/-- The signed type of a width's type code. -/
def signedType (t : Nat) : Nat := 8 + t % 4

/-- a shifted by b mod w: left, logical right or arithmetic right. -/
def shiftBits (kind w a b : Nat) : Nat :=
  let k := b % w
  if kind = 0 then a * 2 ^ k % 2 ^ w
  else if kind = 1 then a / 2 ^ k
  else
    let t := if w = 8 then 8 else if w = 16 then 9 else if w = 32 then 10 else 11
    (intOf t a / (2 ^ k : Nat) % (2 ^ w : Nat)).toNat

/-! ### Reductions (R71, R232) -/

/-- One level of TreeReduce on (active, value) pairs, with the flags so far.
Log 75: DEDUCED, unsafe. -/
def treeLevel (op : Nat → Nat → Nat × FpFlags) :
    List (Bool × Nat) → List (Bool × Nat) × FpFlags
  | p :: q :: t =>
    let (r, fl) := treeLevel op t
    if p.1 && q.1 then
      let (v, fl') := op p.2 q.2
      ((true, v) :: r, fl ||| fl')
    else if q.1 then (q :: r, fl)
    else (p :: r, fl)
  | l => (l, 0#5)

/-- TreeReduce of R71 over 2^levels elements.
Log 75: DEDUCED, unsafe. -/
def treeReduce (op : Nat → Nat → Nat × FpFlags) :
    Nat → List (Bool × Nat) → FpFlags → (Bool × Nat) × FpFlags
  | 0, l, fl => (l.headD (false, 0), fl)
  | k + 1, l, fl =>
    let (l', fl') := treeLevel op l
    treeReduce op k l' (fl ||| fl')

/-- A reduction of the elements of s1 under the mask; `pre` prepares an element and `post` the
result.
Log 75: DEDUCED, unsafe. -/
def reduceForm (f : F3) (lat : Nat) (pre : Nat → Nat) (op : Nat → Nat → Nat × FpFlags)
    (post : Nat → Nat × FpFlags) (s : State) : Outcome State Fault Refusal :=
  issueSet f.g (fun s =>
    let t := f.fmt.toNat
    let w := (f3Width f)
    let n := elemCount w
    let a := s.cur.vec f.s1.toNat
    let mask := s.laneMask f
    let l := (List.range n).map fun j => (activeElem w mask j, pre (elem w a j))
    let ((act, v), fl) := treeReduce op (Nat.log2 n) l 0#5
    let (r, fl) := if act then let (r, fl') := post v; (r, fl ||| fl') else (0, fl)
    let d : W64 := if isSigned t then BitVec.ofInt 64 (intOf t r) else BitVec.ofNat 64 r
    s.launchX ⟨.e f.d.toNat, allBits, d.setWidth 2048, lat, .write, fl, pcReg s.cur.sx.pc, false⟩) s

/-- A NaN pattern is replaced by the canonical NaN (R232). -/
def canonNaN (t b : Nat) : Nat := if decodeFloat t b = .nan then canonicalNaN t else b

/-! ### Moves (R233, R234) -/

/-- A move form: element j of the result is `src j`, for the active elements j < n. -/
def moveForm (f : F3) (lat : Nat) (w : Nat) (src : State → Nat → Nat) (s : State) :
    Outcome State Fault Refusal :=
  issueSet f.g (fun s =>
    s.writeVec lat f.d (ofElems w (elemCount w) (src s)) (activeBits w (s.laneMask f)) 0#5) s

/-- The indices of the set bits of a mask, ascending. -/
def setBits (m : W64) : List Nat := (List.range 64).filter fun i => m.getLsbD i

/-! ### Checksums (R238, R239) -/

/-- The contribution of `ckacc` (R238, R383).
Log 38: DEDUCED, unsafe. -/
def ckContribution (f : F3) (v : Vec) (mask : W64) : LandOp :=
  let t := f.fmt.toNat
  let w := typeWidth t
  let js := (List.range (elemCount w)).filter (activeElem w mask)
  if f.fn = 0 then
    .ckIsum (BitVec.ofInt 128 (js.foldl (fun (acc : Int) j => acc + intOf t (elem w v j)) 0))
  else
    let xs := js.map fun j => flushIn t (elem w v j) f.fzi
    .ckFsum (xs.foldl (fun (acc : Int) x => acc + x.inUnits (-149)) 0) (xs.any (· = .nan))
      (xs.any (· = .inf false)) (xs.any (· = .inf true)) js.length

/-- `ckchk` passes (R239). -/
def ckPasses (fn : Nat) (a b : BitVec 128) : Bool :=
  if fn = 0 then a == b
  else
    a.toNat / 2 ^ 32 == b.toNat / 2 ^ 32 &&
      withinTol (decodeFloat 0 (a.toNat % 2 ^ 32)) (decodeFloat 0 (b.toNat % 2 ^ 32)) (fn + 7)

end Sys2Proof.Machine
end

