-- ==== Sys2Proof/Machine/Matrix.lean ====
section
/-! DEFINITION. The arithmetic of the matrix engine: planes and their loads (R242, R243, R264), group sums and
accumulation (R68, R69), one pass (R267), and post-processing at retirement (R244, R247, R248, R268), with
the poison that each carries (R246). -/

namespace Sys2Proof.Machine

/-! ### Planes -/

/-- Byte `i` of a plane's image. -/
def Plane.byte (p : Plane) (i : Nat) : Nat := p.image / 2 ^ (8 * i) % 256

/-- Byte `i` of a plane's image is poisoned. -/
def Plane.isBad (p : Plane) (i : Nat) : Bool := p.bad.contains (i / 8)

/-- Where the weight of (r, c) stands in an image (R264). -/
def weightAt (fmt r c : Nat) : Nat := if fmt = 5 then 256 * r + c else if fmt = 2 then 256 * r + 2 * c else 128 * r + c

/-- Where the scale of (g, c) stands in an image (R264). -/
def scaleAt (fmt g c : Nat) : Nat := if fmt = 5 then 65536 + 256 * g + c else 32768 + 128 * g + c

/-- The weight of (r, c) (R60, R68). -/
def Plane.weight (p : Plane) (fzi : Bool) (r c : Nat) : Num :=
  let i := weightAt p.fmt r c
  if p.fmt = 5 then decodeDy8 (p.byte i)
  else if p.fmt = 2 then flushIn 2 (p.byte i + 256 * p.byte (i + 1)) fzi
  else flushIn p.fmt (p.byte i) fzi

/-- The scale of (g, c): none marks a NaN block; bf16 weights have the factor 1 (R63, R64). -/
def Plane.scale (p : Plane) (g c : Nat) : Option Int :=
  if p.fmt = 2 then some 0 else sc8Exp (p.byte (scaleAt p.fmt g c))

/-- Some byte that column `c` takes from the plane is poisoned. -/
def Plane.colBad (p : Plane) (c : Nat) : Bool :=
  !p.bad.isEmpty &&
    ((List.range 256).any (fun r => p.isBad (weightAt p.fmt r c)) ||
      (p.fmt ≠ 2 && (List.range 8).any fun g => p.isBad (scaleAt p.fmt g c)))

/-- The plane that a load from WBUF address `a` gives (R243, R264). -/
def Core.loadPlane (c : Core) (fmt a : Nat) : Plane :=
  let n := imageBytes fmt
  ⟨c.bufNat 2 a n, fmt, a, (List.range (n / 8)).filter fun i => c.bufPoison 2 (a + 8 * i) 8⟩

/-! ### Activations -/

/-- The bytes [a, a + n) of ABUF as the matrix engine reads them, and whether each is bad: poisoned, or in a
slot that does not decode (R246, R257). -/
def State.readActs (s : State) (c : Core) (a n : Nat) : List (Byte × Bool) :=
  let first := a / 1024
  let slots := (List.range ((a + n - 1) / 1024 + 1 - first)).map fun k => s.readSlot c (first + k)
  (List.range n).map fun i =>
    let p := a + i
    match slots.getD (p / 1024 - first) none with
    | some l => l.getD (p % 1024) (0, true)
    | none => (0, true)

/-- An activation row: its 256 values, the scale of each group, and that some byte of it is bad. -/
structure ActRow where
  vals : List Num
  scales : List (Option Int)
  bad : Bool
  deriving DecidableEq, Repr, Inhabited

/-- The activation row at ABUF address `a` (R267). -/
def State.actRow (s : State) (c : Core) (k : Card) (a : Nat) : ActRow :=
  let l := s.readActs c a (mRowB k)
  let byte : Nat → Nat := fun i => ((l.getD i (0, false)).1).toNat
  let vals := (List.range 256).map fun i =>
    if mAfmt k = 2 then flushIn 2 (byte (2 * i) + 256 * byte (2 * i + 1)) (cardFzi k)
    else flushIn (mAfmt k) (byte i) (cardFzi k)
  let scales := (List.range 8).map fun g => if mAscale k then sc8Exp (byte (mRowB k - 8 + g)) else some 0
  ⟨vals, scales, l.any (·.2)⟩

/-! ### Sums (R68, R69) -/

/-- The value is -0. -/
def isNegZero : Num → Bool
  | .zero n => n
  | _ => false

/-- GroupSum of R68 over the 32 products of a group and the scale exponent of both operands. -/
def groupSum (ps : List Num) (e : Option Int) : Num :=
  match e with
  | none => .nan
  | some e =>
    if ps.any (· = .nan) || (ps.contains (.inf false) && ps.contains (.inf true)) then .nan
    else if ps.contains (.inf false) then .inf false
    else if ps.contains (.inf true) then .inf true
    else
      let u := (ps.filterMap Num.unit).foldl min 0
      let sum := ps.foldl (fun (acc : Int) x => acc + x.inUnits u) 0
      Num.ofUnits sum (u + e) (ps.all isNegZero)

/-- The eight group sums of a row and a column. -/
def Plane.sums (p : Plane) (fzi : Bool) (row : ActRow) (col : Nat) : List Num :=
  (List.range 8).map fun g =>
    let ps := (List.range 32).map fun i =>
      (Num.mul (row.vals.getD (32 * g + i) (.zero false)) (p.weight fzi (32 * g + i) col)).1
    groupSum ps (match p.scale g col, row.scales.getD g (some 0) with
      | some a, some b => some (a + b)
      | _, _ => none)

/-- AccumulatePass of R69 on an accumulator's pattern. -/
def accumulatePass (fzo : Bool) (acc : Nat) (sums : List Num) : Nat :=
  sums.foldl (fun acc g => (roundTo 0 (Num.add 0 (decodeFloat 0 acc) g).1 0 false fzo).1) acc

/-! ### One pass (R267) -/

/-- The index vector of pass `k`, innermost first. -/
def passIndex (lv : List Level) (k : Nat) : List Nat :=
  (lv.foldl (fun (acc : List Nat × Nat) l => (acc.1 ++ [acc.2 % l.ext], acc.2 / l.ext)) ([], k)).1

/-- The address that a base and the strides of pass `k` give. -/
def passAddr (c : Card) (base : Nat) (stride : Level → Int) (k : Nat) : Nat :=
  let lv := mLevels c
  ((lv.zip (passIndex lv k)).foldl (fun (a : Int) p => a + stride p.1 * p.2) (base : Int)).toNat

/-- Activations of pass `k`. -/
def passA (c : Card) (k : Nat) : Nat := passAddr c (cardFoot c 0).start (·.sA) k
/-- Weights of pass `k`. -/
def passW (c : Card) (k : Nat) : Nat := passAddr c (cardFoot c 1).start (·.sW) k
/-- Accumulators of pass `k`. -/
def passC (c : Card) (k : Nat) : Nat := passAddr c (mAccBase c) (·.sC) k

/-- The new accumulator of (q, col), and whether it consumed bad data. -/
def Core.accumulate (core : Core) (k : Card) (fresh : Bool) (cb : Nat) (row : ActRow) (q col : Nat) : Nat × Bool :=
  let p := core.matrix.active
  let a := cb + q * 4 * colsOf (mWfmt k) + 4 * col
  let old := if fresh then 0 else core.bufNat 4 a 4
  let bad := row.bad || p.colBad col || (!fresh && core.bufPoison 4 a 4)
  (accumulatePass (cardFzo k) old (p.sums (cardFzi k) row col), bad)

/-- Pass `i` of an MPRD on a core: the accumulators of its block, and whether some of them are poisoned
(R246, R267). -/
def State.runPass (s : State) (n : Nat) (k : Card) (i : Nat) : State × Bool :=
  let c := s.coreAt n
  let fresh := i % mPasses k = 0 && !mInit k
  let cb := passC k i
  let cols := colsOf (mWfmt k)
  let outs := (List.range (mRpp k)).map fun q =>
    let row := s.actRow c k (passA k i + q * mRowB k)
    (List.range cols).map fun col => c.accumulate k fresh cb row q col
  let flat := outs.flatten
  let c := c.bufWrite 4 cb (flat.flatMap fun p => bytesOf 4 p.1)
  let c := ((List.range flat.length).filter fun j => (flat.getD j (0, false)).2).foldl
    (fun (c : Core) j => c.bufTaint 4 (cb + 4 * j) 4) c
  (s.setCore n c, flat.any (·.2))

/-! ### Retirement (R247, R248, R268) -/

/-- Step 3 of R247 on an f32 pattern.
Log 39: DEDUCED, unsafe. -/
def postFunction (func : Nat) (fzo : Bool) (y : Nat) : Nat :=
  let v := decodeFloat 0 y
  if func = 1 then (if v = .nan then y else if v.isNeg then 0 else y)
  else if func = 2 then (tanhRound 0 v 0 false fzo).1
  else if func = 3 then (sigmRound 0 v 0 false fzo).1
  else if func = 4 then (siluRound 0 v 0 false fzo).1
  else y

/-- Steps 1 to 4 of R247 on accumulator `y` of column `col`, with its scale and bias patterns.
Log 38: DEDUCED, unsafe. -/
def postProcess (c : Card) (y sc bi : Nat) : Nat :=
  let fzo := cardFzo c
  let y := if mSen c then (roundTo 0 (Num.mul (decodeFloat 0 y) (decodeFloat 0 sc)).1 0 false fzo).1 else y
  let y := if mBen c then (roundTo 0 (Num.add 0 (decodeFloat 0 y) (decodeFloat 0 bi)).1 0 false fzo).1 else y
  (convert (mOfmt c) 0 (postFunction (mFunc c) fzo y) (cardRnd c) false fzo (cardSat c)).1

/-- The checksum word 1 after 64 accumulators (R238, R248).
Log 38: DEDUCED, unsafe. -/
def foldFsum (w : BitVec 128) (ys : List Nat) : BitVec 128 :=
  let xs := ys.map (decodeFloat 0)
  ckLand w (.ckFsum (xs.foldl (fun (acc : Int) x => acc + x.inUnits (-149)) 0) (xs.any (· = .nan))
    (xs.any (· = .inf false)) (xs.any (· = .inf true)) xs.length)

/-- The checksum word 1 after the accumulators of a block. -/
def foldFsums : Nat → BitVec 128 → List Nat → BitVec 128
  | 0, w, _ => w
  | n + 1, w, l => if l.isEmpty then w else foldFsums n (foldFsum w (l.take 64)) (l.drop 64)

/-- The checksum word 0 after the output elements of a block.
Log 38: DEDUCED, unsafe. -/
def foldIsum (t : Nat) (w : BitVec 128) (l : List Nat) : BitVec 128 :=
  w + BitVec.ofInt 128 (l.foldl (fun (acc : Int) b => acc + intOf t b) 0)

/-- Writes output bytes into ABUF from `a`, slot by slot when the output is compressed (R257), which a table slot that
learns counts (R255). -/
def State.writeOut (s : State) (n : Nat) (k : Card) (a : Nat) (l : List Byte) : State :=
  if mCen k then
    (List.range (l.length / 1024)).foldl (fun s i =>
      let (stored, tag) := s.compressSlot (mCdie k) (mCslot k) ((l.drop (1024 * i)).take 1024)
      let s := s.modDie (mCdie k) fun d => { d with
        tables := SMap.put d.tables (mCslot k) ((s.tableAt (mCdie k) (mCslot k)).count ((l.drop (1024 * i)).take 1024)) }
      s.modCore n fun c =>
        let c := c.bufWrite 3 (a + 1024 * i) stored
        { c with abufTags := SMap.set 0 c.abufTags (a / 1024 + i) tag }) s
  else s.modCore n fun c => (c.bufWrite 3 a l).rawSlots a l.length

/-- Retirement of block `b` of an MPRD: the output, its poison, and the checksum words after it; whether
some of the output is poisoned. -/
def State.retireBlock (s : State) (n : Nat) (k : Card) (b : Nat) (w0 w1 : BitVec 128) :
    State × Bool × BitVec 128 × BitVec 128 :=
  let c := s.coreAt n
  let cols := colsOf (mWfmt k)
  let colB := 4 * cols
  let cb := passC k (b * mPasses k)
  let hdr := (cardFoot k 2).start + (if mFold k ≠ 0 then 32 else 0)
  let biasAt := if mSen k then hdr + colB else hdr
  let ob := mOb k
  let cells := (List.range (mRpp k * cols)).map fun j =>
    let col := j % cols
    let y := c.bufNat 4 (cb + 4 * j) 4
    let bad := c.bufPoison 4 (cb + 4 * j) 4 || (mSen k && c.bufPoison 4 (hdr + 4 * col) 4) ||
      (mBen k && c.bufPoison 4 (biasAt + 4 * col) 4)
    (y, postProcess k y (c.bufNat 4 (hdr + 4 * col) 4) (c.bufNat 4 (biasAt + 4 * col) 4), bad)
  let w0 := if bitOf (mFold k) 0 then foldIsum (mOfmt k) w0 (cells.map fun p => p.2.1) else w0
  let w1 := if bitOf (mFold k) 1 then foldFsums (cells.length / 64 + 1) w1 (cells.map fun p => p.1) else w1
  let badCells := (List.range cells.length).filter fun j => (cells.getD j (0, 0, false)).2.2
  let s := if mDest k then
      let at0 := (cardFoot k 3).start + b * mRpp k * cols * ob
      -- the mark of a bad output lies on the stored bytes of its code
      let s := s.writeOut n k at0 (cells.flatMap fun p => bytesOf ob p.2.1)
      (badCells.flatMap fun j => (List.range ob).map fun i => at0 + j * ob + i).foldl (fun s a =>
        let (b, len) := s.storedAt (s.coreAt n) (a / 1024) (a % 1024)
        s.modCore n fun c => c.bufTaint 3 b len) s
    else
      let at_ : Nat → Nat := fun j => cb + j / cols * colB + j % cols * ob
      let s := (List.range cells.length).foldl (fun s j =>
        s.modCore n fun c => c.bufWriteNat 4 (at_ j) ob (cells.getD j (0, 0, false)).2.1) s
      badCells.foldl (fun s j => s.modCore n fun c => c.bufTaint 4 (at_ j) ob) s
  (s, cells.any fun p => p.2.2, w0, w1)

/-- The checksum words enter the header of fp2 at completion (R266, R268). -/
def State.writeFolds (s : State) (n : Nat) (k : Card) (w0 w1 : BitVec 128) : State :=
  if mFold k = 0 then s
  else
    let a := (cardFoot k 2).start
    s.modCore n fun c => (c.bufWriteNat 4 a 16 w0.toNat).bufWriteNat 4 (a + 16) 16 w1.toNat

end Sys2Proof.Machine
end

