-- ==== Sys2Proof/Machine/Reduce.lean ====
section
/-! DEFINITION. Reductions: what a REDUCE job contributes to its destination lines (R251, R253, R272), and the records of
a home, which applies the contributions in ascending slot (R251, R252). -/

namespace Sys2Proof.Machine

open Host (Outcome)

/-- Changes a Sideboard slot. -/
def State.modJob (s : State) (n slot : Nat) (f : Job → Job) : State :=
  s.modCore n fun c => match SMap.find c.jobs slot with
    | some j => { c with jobs := SMap.put c.jobs slot (f j) }
    | none => c

/-- A job meets an error; the first one stays (R287). -/
def State.jobError (s : State) (n slot : Nat) (cause : CauseCode) : State :=
  s.modJob n slot fun j => if j.err then j else { j with err := true, cause := cause }

/-! ### What a job contributes (R251, R272) -/

/-- The contribution of a REDUCE job to one destination line (R251, R272). -/
def State.contribution (s : State) (n slot : Nat) (j : Job) (f : Frame) (addr len : Nat) (l : List Byte)
    (empty : Bool) : Contribution :=
  let w := quad j.card 6
  { ctx := j.ctx, line := lineNo addr, epoch := bitsOf w 46 31, slot := bitsOf w 59 54, n := bitsOf w 53 47,
    fmt := bitsOf w 63 60, fzi := cardFzi j.card, fzo := cardFzo j.card, sat := cardSat j.card,
    bpage := f.bundle, bundle := j.bound, peer := s.ownPeer, core := n, job := slot, empty := empty,
    mask := if empty then 0 else byteMask (addr % 128) len,
    data := if empty then 0 else lineWith 0 (addr % 128) len (natOfBytes l) }

/-- The packet of a contribution to a remote home; `unawaited` says that its job has ended. -/
def State.reducePacket (s : State) (n : Nat) (cls : Nat) (f : Frame) (c : Contribution) (unawaited : Bool) : Packet :=
  let bit : Bool → Nat → Nat := fun b k => natOfBool b * 2 ^ k
  { s.packet 2 f.peer 7 with
    sdie := n / 32, score := n % 32, sstr := 2, cls := cls, line := c.line, sect := sectorsOf c.mask, op := 14, mask := c.mask,
    data := c.data,
    body := [pageWord c.ctx f, BitVec.ofNat 64 c.epoch, BitVec.ofNat 64 c.slot, BitVec.ofNat 64 c.n,
      BitVec.ofNat 64 (c.fmt + bit c.fzi 4 + bit c.fzo 5 + bit c.sat 6 + bit c.empty 7 + bit c.bpage 8),
      match c.bundle with | some b => BitVec.ofNat 64 b | none => BitVec.allOnes 64, BitVec.ofNat 64 c.job,
      BitVec.ofNat 64 (natOfBool unawaited)] }

/-- The empty contributions of a REDUCE job that ends early, for each line from position `p` on (R253).
Log 40: DEDUCED, unsafe. -/
def emptyFrom (n slot : Nat) (j : Job) (vbase : Nat) (frames : List Frame) : Nat → Nat → State → State
  | 0, _, s => s
  | fuel + 1, p, s =>
    if copyTotal j.card ≤ p then s
    else
      let (m, _, _) := copyAt j.card p
      let len := copyLineLen j.card vbase p
      let va := vbase + m
      match frames.find? fun f => !f.hole && f.vpage ≤ va && va < f.vpage + 2 ^ f.bits with
      | some f =>
        let c := s.contribution n slot j f (f.addr + (va - f.vpage)) len [] true
        let s := if s.isRemote f then s.sendWhenJoined (s.reducePacket n j.cls f c true) else s.post [.reduceContribution c]
        emptyFrom n slot j vbase frames fuel (p + len) s
      | none => emptyFrom n slot j vbase frames fuel (p + len) s

/-- A REDUCE job that ends in error sends an empty contribution for every line that it has not contributed to (R253), by
the extent that it read at its dispatch, or by the entry that its token still names. A card whose slot, count or lines
cannot be told sends none: its slot must lie below a count of 1 to 64, and its lines hold 1 to 2^24 elements.
Log 40: DEDUCED, unsafe. -/
def State.emptyRest (s : State) (n slot : Nat) (j : Job) : State :=
  let e := s.tokenEntry n j.ctx (tokIndex (cardTok j.card))
  let named := (e.state = .live || e.state = .draining) && e.gen = tokGen (cardTok j.card)
  let w := quad j.card 6
  let told := bitsOf w 59 54 < bitsOf w 53 47 && bitsOf w 53 47 ≤ 64 && 1 ≤ redCount j.card && redCount j.card ≤ 2 ^ 24
  if cardKind j.card ≠ 5 || !told then s
  else if !j.frames.isEmpty then emptyFrom n slot j j.vbase j.frames (copyTotal j.card) j.cursor s
  else if named then emptyFrom n slot j e.vbase.toNat e.frames (copyTotal j.card) j.cursor s
  else s

/-! ### Reductions at a home (R251 to R253) -/

/-- One element of a contribution applied to the old value (R252). -/
def reduceElem (c : Contribution) (old x : Nat) : Nat :=
  if isFloatType c.fmt then
    (roundTo c.fmt (Num.add 0 (flushIn c.fmt old c.fzi) (flushIn c.fmt x c.fzi)).1 0 c.sat c.fzo).1
  else (old + x) % 2 ^ typeWidth c.fmt

/-- A line with a contribution's elements added (R252).
Log 74: DEDUCED, unsafe. -/
def reduceLine (c : Contribution) (old : BitVec 1024) : BitVec 1024 :=
  let w := typeWidth c.fmt / 8
  (List.range (128 / w)).foldl (fun d e =>
    if c.mask.getLsbD (w * e) then
      lineWith d (w * e) w (reduceElem c (lineBytes old (w * e) w) (lineBytes c.data (w * e) w))
    else d) old

/-- The value of a line that a contribution adds to, and its poison marks, which the sum keeps: of a B page, the bundle's
pending version or the newest committed one (R318, R402).
Log 74: DEDUCED, unsafe. -/
def State.reduceOld (s : State) (c : Contribution) : BitVec 1024 × BitVec 4 :=
  if !c.bpage then (s.homeLine c.line, s.homePoison c.line)
  else
    let b := s.bLine c.line
    match b.pending, c.bundle with
    | some (n, d, _, p), some m => if n = m then (d, p) else (b.newer, b.newerPois)
    | _, _ => (b.newer, b.newerPois)

/-- Applies a contribution at its home, unless it must still wait (R252, R318); one of another chip is logged for no context
(R404). -/
def State.applyContribution (s : State) (c : Contribution) : Bool × State :=
  if c.empty then (true, s)
  else if !c.bpage then
    let (d, p) := s.reduceOld c
    (true, s.homeWrite (if c.peer = s.ownPeer then c.ctx else 1024) c.line (reduceLine c d) c.mask p)
  else
    let (ok, s) := s.linesReady c.bundle [c.line]
    let (d, p) := s.reduceOld c
    (ok, if ok then s.writeBundleLine c.bundle c.line (reduceLine c d) c.mask p else s)

/-- The key of a contribution's record. -/
def recordKey (c : Contribution) : Nat × Nat × Nat := (c.ctx, c.line, c.epoch)

/-- The reduction record of a key. -/
def Homes.record (h : Homes) (k : Nat × Nat × Nat) : Option RedRecord := (h.reductions.find? fun p => p.1 = k).map (·.2)

/-- Sets or closes the record of a key. -/
def State.setRecord (s : State) (k : Nat × Nat × Nat) (r : Option RedRecord) : State :=
  let rest := s.homes.reductions.filter fun p => p.1 ≠ k
  { s with homes := { s.homes with reductions := match r with | some r => rest ++ [(k, r)] | none => rest } }

/-- Epoch `a` is earlier than `b`, by signed 16-bit difference (R251). -/
def earlierEpoch (a b : Nat) : Bool := 2 ^ 15 ≤ (a + 2 ^ 16 - b) % 2 ^ 16

/-- A record of the same line with an earlier epoch is open (R251).
Log 74: DEDUCED, unsafe. -/
def Homes.earlierOpen (h : Homes) (k : Nat × Nat × Nat) : Bool :=
  h.reductions.any fun p => p.1.2.1 = k.2.1 && earlierEpoch p.1.2.2 k.2.2

/-- Applies the held contributions of a line whose turn has come (R251), and posts a retry when it has not reached them all.
Log 74: DEDUCED, unsafe. -/
def drainRecords (line : Nat) : Nat → State → State
  | 0, s => s.post [.reduceContribution { (default : Contribution) with line := line, n := 0 }]
  | fuel + 1, s =>
    let due := (s.homes.reductions.filter fun p => p.1.2.1 = line && !s.homes.earlierOpen p.1).findSome? fun p =>
        (p.2.held.find? fun c => c.slot = p.2.next).map fun c => (p.1, p.2, c)
    match due with
    | none => s
    | some (k, r, c) => match s.applyContribution c with
      | (false, s) => s.post [.reduceContribution { c with n := 0 }]
      | (true, s) =>
        let next := r.next + 1
        let r := { r with next := next, held := r.held.filter fun q => q.slot ≠ c.slot }
        drainRecords line fuel (s.setRecord k (if next = r.n then none else some r))

/-- A home receives a contribution: it is turned away when its count differs or its slot has its contribution, held, or
opens a record; none when no more records can be open (R251, R253). The flag says that it was turned away, which its job
then receives as an error.
Log 74: DEDUCED, unsafe. -/
def State.takeContribution (s : State) (c : Contribution) : Option (State × Bool) :=
  match s.homes.record (recordKey c) with
  | some r =>
    if c.n ≠ r.n ∨ c.slot < r.next ∨ (r.held.any fun q => q.slot = c.slot) then some (s, true)
    else some (drainRecords c.line 8192 (s.setRecord (recordKey c) (some { r with held := r.held ++ [c] })), false)
  | none =>
    if 4096 ≤ (s.homes.reductions.filter fun p => homeAgent (p.1.2.1 * 128) = homeAgent (c.line * 128)).length then none
    else some (drainRecords c.line 8192 (s.setRecord (recordKey c) (some ⟨c.n, 0, [c]⟩)), false)

/-- The old home's copy of a line that has been copied follows a contribution that the new home takes (R371): what its own
record of the line gives, the copy holds, and nothing of it goes on.
Log 57: DEDUCED, unsafe. -/
def State.followContribution (s : State) (c : Contribution) : State :=
  match State.takeContribution { s with homes := { s.homes with moving := [] } } c with
  | some (t, _) => { t with homes := { t.homes with moving := s.homes.moving } }
  | none => s

/-- The packet of a contribution of this chip to the new home of its line (R371). -/
def State.movedContribution (s : State) (n cls : Nat) (m : Migration) (c : Contribution) (unawaited : Bool) : Packet :=
  { s.reducePacket n cls { Frame.none with peer := m.peer, hole := false, mode := 1, bundle := c.bpage } c unawaited with
    line := m.lineAt c.line }

/-- REDUCE_CONTRIBUTION (R251 to R253): with n = 0, the contributions of a line that wait for a bundle or a commit stamp
are tried again. -/
def execReduceContribution (c : Contribution) (s : State) : Outcome State Fault Refusal :=
  if c.n = 0 then .next (drainRecords c.line 8192 s)
  else match s.homes.copied c.line with
    | some m => .next ((s.followContribution c).sendWhenJoined (s.movedContribution c.core 0 m c true))
    | none => match s.takeContribution c with
      | some (s, _) => .next s
      | none => .next (s.post [.reduceContribution c])

end Sys2Proof.Machine
end

