-- ==== Sys2Proof/Machine/Jobs.lean ====
section
/-! DEFINITION. The Sideboard (R279 to R287): posting (R276 to R278), edges and barriers, completion and its
signal update, the checks at dispatch (R275), power shares (R112, R113), and the dispatch of an engine. -/

namespace Sys2Proof.Machine

open Host (Outcome)

/-! ### Slots -/

/-- The lowest FREE slot of a Sideboard. -/
def Core.freeSlot (c : Core) : Option Nat := (List.range 32).find? fun i => (c.job i).isNone

/-- The slot that a job from another core takes: none while the core is under test (R407). -/
def Core.openSlot (c : Core) : Option Nat := if c.underTest then none else c.freeSlot

/-- The job is PENDING, READY, RUNNING or PARKED. -/
def Job.active (j : Job) : Bool := j.state = .pending || j.state = .ready || j.state = .running || j.state = .parked

/-- The active jobs, the most recently posted first. -/
def Core.activeJobs (c : Core) : List (Nat × Job) :=
  sortBy (fun a b => decide (b.2.order ≤ a.2.order)) (c.jobs.filter fun p => p.2.active)

/-- The edges that a new card takes (R280, R281); an MPRD with wpre also takes one from the most recent WLD that is still in
the window, unless that is DONE (R269, R280). -/
def Core.edges (c : Core) (k : Card) : BitVec 32 :=
  let l := c.activeJobs
  let hits := (l.filter fun p => cardsConflict p.2.card k).map (·.1)
  let recent := (l.take (cardNpred k)).map (·.1)
  let wlds := c.jobs.filter fun p => cardKind p.2.card = 1
  let last := wlds.foldl (fun m p => max m (p.2.order + 1)) 0
  let wld := if cardKind k = 2 ∧ mWpre k then ((wlds.filter fun p => p.2.order + 1 = last && p.2.active).map (·.1)) else []
  BitVec.ofNat 32 ((hits ++ recent ++ wld).eraseDups.foldl (fun a i => a + 2 ^ i) 0)

/-- The barrier of a job is met: every older job has reached DONE (R281). -/
def Core.barrierFree (c : Core) (j : Job) : Bool :=
  !cardBar j.card || c.jobs.all fun p => j.order ≤ p.2.order || !p.2.active

/-- Which engine a job uses. -/
def Job.isMatrix (j : Job) : Bool := isMatrixKind (cardKind j.card)

/-- PENDING jobs whose counts are zero and whose barriers are met become READY, and the engines are told
(R283). -/
def State.readyJobs (s : State) (n : Nat) : State :=
  let c := s.coreAt n
  let up := c.jobs.filter fun p => p.2.state = .pending && p.2.preds = 0 && c.barrierFree p.2
  let s := up.foldl (fun s p => s.modJob n p.1 fun j => { j with state := .ready }) s
  s.post (up.map fun p => .jobDispatch n p.2.isMatrix)

/-! ### Completion (R282, R287) -/

/-- A job gives its share back (R112, R113); a pool that is to shrink does so now (R20). -/
def State.returnShare (s : State) (n slot : Nat) : State :=
  match (s.coreAt n).job slot with
  | some j =>
    if j.share then
      ((s.modJob n slot fun j => { j with share := false }).modDie (dieOf n) fun d =>
        { d with shareUsed := d.shareUsed - 1, shareSize := max d.shareTarget (d.shareUsed - 1) }).post [.shareGrant (dieOf n)]
    else s
  | none => s

/-- The value that a completion adds to its signal word: 1, and the error (R287). -/
def completionWord (err : Bool) (cause : CauseCode) : W64 :=
  BitVec.ofNat 64 (natOfBool err * 2 ^ 63 + cause % 128 * 2 ^ 56 + 1)

/-- Jobs enter DONE (R282, R287): each releases its successors and updates its signal word; a successor of a
failed job fails with its cause, and a REDUCE that fails leaves empty contributions behind (R253). `work` lists slots with the error they end with, if any. -/
def State.jobsDone (n : Nat) : Nat → List (Nat × Option CauseCode) → State → State
  | 0, _, s => s
  | _, [], s => s
  | fuel + 1, (slot, bad) :: rest, s =>
    match (s.coreAt n).job slot with
    | none => State.jobsDone n fuel rest s
    | some j =>
      if j.state = .done then State.jobsDone n fuel rest s
      else
        let err := j.err || bad.isSome
        let cause := if j.err then j.cause else bad.getD 0
        let s := if err then s.emptyRest n slot j else s
        let s := (s.returnShare n slot).modJob n slot fun j =>
          { j with state := .done, err := err, cause := cause, waiting := false }
        let succ := (s.coreAt n).jobs.filter fun p => p.2.state = .pending && p.2.preds.getLsbD slot
        let s := succ.foldl (fun s p => s.modJob n p.1 fun q =>
          { q with preds := q.preds &&& ~~~(1#32 <<< slot) }) s
        let s := s.signalWord (dieOf n) ⟨j.ctx, j.sigTok, j.sigOff, j.cls⟩ (completionWord err cause) [1, n, slot]
        let more := if err then succ.map fun p => (p.1, some cause) else []
        State.jobsDone n fuel (rest ++ more) s

/-- A job completes, with an error if `bad` gives one. -/
def State.jobDone (s : State) (n slot : Nat) (bad : Option CauseCode) : State :=
  ((State.jobsDone n 1024 [(slot, bad)] s).readyJobs n).post [.jobDispatch n true, .jobDispatch n false]

/-- The blocked `remq`s that wait for a slot of core `n` (R278). -/
def State.blockedAll (s : State) (n : Nat) : List (Nat × Nat) :=
  ((List.range 4).flatMap fun d => (s.dieAt d).recs.filterMap fun p =>
    match p.2.state, p.2.wait with
    | .blocked, .remq t _ _ => if t = n then some (d, p.1) else none
    | _, _ => none)

/-- The counter of R190 that a kind uses: 0 copies, 1 tile. -/
def countsTile (k : Card) : Bool := isMatrixKind (cardKind k)

/-- Changes the copies or the tile counter of a core's C stream. -/
def State.countJob (s : State) (n : Nat) (k : Card) (up : Bool) : State :=
  s.modCore n fun c => c.modStream .c fun v =>
    if countsTile k then { v with tile := if up then v.tile + 1 else v.tile - 1 }
    else { v with copies := if up then v.copies + 1 else v.copies - 1 }

/-- SIGNAL_UPDATE_ACK (R287): the in-flight count of the signal word is released, the slot is FREE, and every
`remq` that waits for one is told. The group table and the shares of a launch that has ended go with its last job (R273). -/
def execSignalUpdateAck (core slot : Nat) (s : State) : Outcome State Fault Refusal :=
  match (s.coreAt core).job slot with
  | none => .next s
  | some j =>
    let s := s.flight j.ctx (tokIndex j.sigTok) false
    let s := if j.poster ≠ 0 then s.countJob core j.card false else s
    let s := s.modCore core fun c => { c with jobs := SMap.erase c.jobs slot }
    .next ((s.reapLaunch j.die j.launch).post ((s.blockedAll core).map fun p => .remqUnblock p.1 p.2))

/-- JOB_COMPLETION (R287). -/
def execJobCompletion (core slot : Nat) (s : State) : Outcome State Fault Refusal :=
  match (s.coreAt core).job slot with
  | some j => if j.state = .running then .next (s.jobDone core slot none) else .next s
  | none => .next s

/-! ### Posting (R276 to R281) -/

/-- A job that the issuing continuation posts, before it has a slot. `counted` says that its counters count
it. -/
def State.newJob (s : State) (k : Card) (tok off : W64) (cls : Nat) (counted : Bool) : Job :=
  let c := s.cur
  { state := .pending, card := k, sigTok := tok, sigOff := off, cls := cls, ctx := c.ctx, die := c.launchDie,
    launch := c.launch, poster := if counted then s.continuation s.core + 1 else 0, preds := 0, order := 0,
    bound := c.bound cls, view := c.cont.bview, cursor := 0, checksum0 := (k.extractLsb' 768 128),
    checksum1 := (k.extractLsb' 896 128), err := false, cause := 0, waiting := false, since := 0,
    expired := false, share := false, vbase := 0, frames := [], key := 0, tagBad := false }

/-- A job enters a FREE slot of core `n` (R277, R280, R281). -/
def State.enterJob (s : State) (n slot : Nat) (j : Job) : State :=
  let c := s.coreAt n
  let bad := headerFault j.card
  -- only an MPRD carries checksum words
  let z : BitVec 128 := 0
  let j := if cardKind j.card = 2 then j else { j with checksum0 := z, checksum1 := z }
  let j := { j with order := c.jobOrder, preds := if bad then 0 else c.edges j.card }
  let s := s.modCore n fun c => { c with jobs := SMap.put c.jobs slot j, jobOrder := c.jobOrder + 1 }
  if bad then s.jobDone n slot (some cIllegal) else s.readyJobs n

/-- The part of a post that `jpost` and `remq` share: the card and the checks of its place (R277). -/
def readCard (f : FJ) : Act Card := fun s =>
  let ca := (s.rd f.s1).toNat
  let so := (s.rd f.s2).toNat
  if ca % 128 ≠ 0 ∨ !s.cur.inBuf 1 ca 128 then trap cBuffer 0 s
  else if so % 8 ≠ 0 then trap cBounds 0 s
  else if s.cur.bufPoison 1 ca 128 then trap cPoison 0 s
  else .ok (BitVec.ofNat 1024 (s.cur.bufNat 1 ca 128), s)

/-- JPOST (R277). -/
def execJpost (f : FJ) (s : State) : Outcome State Fault Refusal :=
  issue f.g false false (fun s =>
    match readCard f s with
    | .error e => .error e
    | .ok (k, s) =>
      let tok := s.cur.tok f.k.toNat
      let off := s.rd f.s2
      let known := 1 ≤ cardKind k ∧ cardKind k ≤ 7
      let count := if countsTile k then s.cur.sc.tile else s.cur.sc.copies
      match s.cur.freeSlot with
      | none => .error .stall
      | some slot =>
        if known ∧ 32 ≤ count then .error .stall
        else match s.checkToken s.cur.ctx tok off.toNat 8 needA with
          | .error e => trap e 0 s
          | .ok _ =>
            let s := (s.noteToken s.core s.cur.ctx (tokIndex tok)).flight s.cur.ctx (tokIndex tok) true
            let s := if known then s.countJob s.core k true else s
            .ok (.fall, s.enterJob s.core slot (s.newJob k tok off f.cls.toNat known))) s

/-- The context's allowance includes a core (R109). -/
def Ctx.allows (x : Ctx) (core : Nat) : Bool :=
  if core < 64 then x.callow0.getLsbD core else x.callow1.getLsbD (core - 64)

/-- REMQ (R278).
Log 59: DEDUCED, unsafe. -/
def execRemq (f : FJ) (s : State) : Outcome State Fault Refusal :=
  issue f.g false false (fun s =>
    match s.suspendStop with
    | some e => .error e
    | none =>
      let t := (s.rd f.d).toNat
      let ctx := s.cur.ctx
      let other : Bool := match (s.coreAt t).resident with
        | some x => x != ctx
        | none => false
      if 127 < t ∨ !s.curCtx.allows t ∨ other then trap cBuffer 0 s
      else match readCard f s with
        | .error e => .error e
        | .ok (k, s) =>
          let tok := s.cur.tok f.k.toNat
          let off := s.rd f.s2
          match s.checkToken ctx tok off.toNat 8 needA with
          | .error e => trap e 0 s
          | .ok _ =>
            let s := (s.noteToken s.core ctx (tokIndex tok)).flight ctx (tokIndex tok) true
            let s := if (s.coreAt t).resident.isNone then s.modCore t fun c => c.freshMemory ctx else s
            let j := s.newJob k tok off f.cls.toNat false
            match (if t = s.core then (s.coreAt t).freeSlot else (s.coreAt t).openSlot) with
            | some slot => .ok (.fall, s.enterJob t slot j)
            | none =>
              -- to the issuing core it acts as `jpost`
              if t = s.core then .error .stall else
              .ok (.leave, (s.suspendRec s.core .blocked (.remq t j s.cur.sc.pc)).vacate s.core)) s

/-- REMQ_UNBLOCK (R278): when a slot of its target is FREE, the job of a BLOCKED record enters and the record
is READY after its `remq`; when the target's memory now belongs to another context, the record is READY at
its `remq` and its in-flight count is released. -/
def execRemqUnblock (die slot : Nat) (s : State) : Outcome State Fault Refusal :=
  match s.recAt die slot with
  | none => .next s
  | some r => match r.state, r.wait with
    | .blocked, .remq t j pc =>
      if (s.coreAt t).resident ≠ some r.ctx then
        let s := s.modRec die slot fun r => { r with pc := pc }
        .next ((s.flight r.ctx (tokIndex j.sigTok) false).makeReady die slot r.homeDie)
      else match (s.coreAt t).openSlot with
        | none => .next s
        | some q => .next ((s.enterJob t q j).makeReady die slot r.homeDie)
    | _, _ => .next s

/-! ### Dispatch (R275, R283) -/

/-- The share limit S of a job's launch (R112). -/
def State.shareLimit (s : State) (j : Job) : Nat :=
  ((s.launchAt j.die j.launch).map fun l => l.shares).getD 0

/-- The shares that the jobs of a launch hold on a die. -/
def State.sharesHeld (s : State) (die ldie launch : Nat) : Nat :=
  (s.cores.filter fun p => dieOf p.1 = die).foldl (fun n p =>
    n + (p.2.jobs.filter fun q => q.2.share && q.2.die = ldie && q.2.launch = launch).length) 0

/-- A job's engine is free for it (R269, R283). -/
def Core.engineFree (c : Core) (j : Job) : Bool :=
  let m := c.matrix
  if cardKind j.card = 1 then
    m.loading.isNone && match m.running.bind c.job with
      | some r => mTotal r.card ≤ m.loaded && m.pass + 1 = mTotal r.card && !m.shadowReady
      | none => true
  else if cardKind j.card = 2 then m.running.isNone && m.loading.isNone
  else !(c.jobs.any fun p => p.2.state = .running && !p.2.isMatrix)

/-- A job may take a share now (R112). -/
def State.shareFree (s : State) (n : Nat) (j : Job) : Bool :=
  let d := s.dieAt (dieOf n)
  d.shareUsed < d.shareSize && s.sharesHeld (dieOf n) j.die j.launch < s.shareLimit j

/-- The waiting jobs of a die that could take a share, the first to be served first (R113).
Log 68: DEDUCED, unsafe. -/
def State.shareQueue (s : State) (die : Nat) : List (Nat × Nat × Job) :=
  let l := (s.cores.filter fun p => dieOf p.1 = die).flatMap fun p =>
    (p.2.jobs.filter fun q => q.2.waiting && q.2.state = .ready && p.2.engineFree q.2 && !p.2.parks &&
      s.sharesHeld die q.2.die q.2.launch < s.shareLimit q.2).map fun q => (p.1, q.1, q.2)
  sortBy (fun a b =>
    if a.2.2.expired ≠ b.2.2.expired then a.2.2.expired
    else if a.2.2.since ≠ b.2.2.since then decide (a.2.2.since < b.2.2.since)
    else if a.1 ≠ b.1 then decide (a.1 < b.1)
    else decide (a.2.2.order ≤ b.2.2.order)) l

/-- The buffer footprints of a job are inside their buffers and its engine may touch them (R183, R184). -/
def Core.feetOk (c : Core) (k : Card) : Bool :=
  (cardFeet k).all fun f => match f with
    | .buf w b a n => engineMay (cardKind k) w b && c.inBuf b a n
    | _ => true

/-- The check of a job's memory footprints (R249): the cause of the first that fails, or 0. -/
def State.feetCause (s : State) (core : Nat) (j : Job) : CauseCode :=
  (cardFeet j.card).foldl (fun acc f =>
    if acc ≠ 0 then acc
    else match f with
      | .mem w off n =>
        let need := if cardKind j.card = 5 then needA else if w then needW else needR
        match s.checkOn core j.ctx (cardTok j.card) off n need with
        | .error e => e
        | .ok e =>
          if (e.elemSegs 0 off n).any fun g => s.isRemote g.frame && !s.hasRoute g.frame.peer then cPeer else 0
      | _ => 0) 0

/-- The check of a job's memory footprints has used its token (R171). -/
def State.noteFeet (s : State) (core : Nat) (j : Job) : State :=
  if (cardFeet j.card).any fun f => match f with | .mem _ _ _ => true | _ => false then
    s.noteToken core j.ctx (tokIndex (cardTok j.card))
  else s

/-- The checks at dispatch (R275): the cause of the first that fails, or 0.
Log 41: DEDUCED, unsafe. -/
def State.dispatchCause (s : State) (n : Nat) (j : Job) : CauseCode :=
  let k := j.card
  let keyed := (SMap.find (s.ctxAt j.ctx).keys (cryptKey k)).isSome
  let grouped := (s.groupAt j.die j.launch (bitsOf (quad k 6) 63 56)).isSome
  let m := (s.coreAt n).matrix
  if !bodyOk k keyed grouped then cIllegal
  else if nestCause k ≠ 0 then nestCause k
  else if !(s.coreAt n).feetOk k then cBuffer
  else if s.feetCause n j ≠ 0 then s.feetCause n j
  else if j.isMatrix ∧ s.shareLimit j = 0 then cNoShare
  else if cardKind k = 2 ∧ mWpre k ∧ j.cursor = 0 ∧ !(m.shadowReady && m.shadow.fmt = mWfmt k) then
    (if m.refused then cRestore else cIllegal)
  else 0

/-- A job starts on its engine (R243, R269, R245): the first event of its work is due. A CRYPT reads its key (R411). -/
def State.startJob (s : State) (n slot : Nat) (j : Job) : State :=
  let s := s.modJob n slot fun j => { j with state := .running, waiting := false, expired := false }
  match cardKind j.card with
  | 1 => (s.modCore n fun c => { c with matrix := { c.matrix with loading := some slot } }).post [.shadowLoad n]
  | 2 =>
    let first := j.cursor * mPasses j.card
    let pre := mWpre j.card && j.cursor = 0
    let s := s.modCore n fun c => { c with matrix := { c.matrix with
        running := some slot, pass := first, loaded := if pre then first + 1 else first,
        shadowReady := pre && c.matrix.shadowReady, refused := false } }
    s.post (if pre then [.planeSwap n] else [.shadowLoad n, .planeSwap n])
  | _ =>
    let e := s.cab j.ctx (tokIndex (cardTok j.card))
    let key := if cardKind j.card = 7 then (SMap.find (s.ctxAt j.ctx).keys (cryptKey j.card)).getD 0 else 0
    (s.modJob n slot fun j => { j with vbase := e.vbase.toNat, frames := e.frames, key := key }).post [.copyLine n]

/-- Takes a share for a job (R112). -/
def State.takeShare (s : State) (n slot : Nat) : State :=
  (s.modJob n slot fun j => { j with share := true }).modDie (dieOf n) fun d =>
    { d with shareUsed := d.shareUsed + 1 }

/-- A destination that a CRYPT has written is zeroed when its key slot has been emptied (R285). -/
def State.cryptAbandon (s : State) (n : Nat) (j : Job) : State :=
  let k := j.card
  if cardKind k = 7 ∧ j.cursor ≠ 0 ∧ !cardOut k ∧ (SMap.find (s.ctxAt j.ctx).keys (cryptKey k)).isNone then
    s.modCore n fun c => c.bufWrite (cardFoot k 1).bufOf (cardFoot k 1).start
      (List.replicate (min j.cursor (cryptLen k)) 0)
  else s

/-- A READY job is dispatched (R275): it completes in error, starts, or waits for a share. `granted` says that
a share is kept for it. -/
def State.dispatch (s : State) (n slot : Nat) (granted : Bool) : State :=
  match (s.coreAt n).job slot with
  | none => s
  | some j =>
    let bad := s.dispatchCause n j
    let s := s.noteFeet n j
    if bad ≠ 0 then (s.cryptAbandon n j).jobDone n slot (some bad)
    else if !j.isMatrix then s.startJob n slot j
    else if s.shareFree n j ∧ (granted ∨ (s.shareQueue (dieOf n)).isEmpty) then
      (s.takeShare n slot).startJob n slot j
    else if j.waiting then s
    else
      (s.modJob n slot fun j => { j with waiting := true, since := s.time }).post [.shareWaitExpiry n slot]

/-- The oldest READY job of an engine that does not wait for a share, when the engine can take it (R269, R283). -/
def Core.nextJob (c : Core) (matrix : Bool) : Option Nat :=
  (((c.activeJobs.reverse.filter fun p =>
    p.2.state = .ready && p.2.isMatrix == matrix && !p.2.waiting).head?).filter fun p => c.engineFree p.2).map (·.1)

/-- JOB_DISPATCH (R275, R283). While a pre-emption is under way the engines take no job, nor does a
matrix engine under test (R407). -/
def execJobDispatch (core : Nat) (matrix : Bool) (s : State) : Outcome State Fault Refusal :=
  let c := s.coreAt core
  if c.parks ∨ (matrix ∧ c.testing = some 1) then .next s
  else match c.nextJob matrix with
    | some slot => .next ((s.dispatch core slot false).post [.jobDispatch core matrix])
    | none => .next s

/-- SHARE_GRANT (R113): a share that is free goes to the job whose wait began earliest; while shares are free and jobs wait,
the next grant is due. -/
def execShareGrant (die : Nat) (s : State) : Outcome State Fault Refusal :=
  if (s.dieAt die).shareSize ≤ (s.dieAt die).shareUsed then .next s
  else match s.shareQueue die with
    | (n, slot, _) :: _ => .next ((s.dispatch n slot true).post [.shareGrant die])
    | [] => .next s

/-- SHARE_WAIT_EXPIRY (R113): a job has waited 65,536 cycles; it comes before any that has waited less.
Log 4: DESIGN CHOICE, unsafe. -/
def execShareWaitExpiry (core slot : Nat) (s : State) : Outcome State Fault Refusal :=
  match (s.coreAt core).job slot with
  | some j =>
    if !j.waiting ∨ j.expired then .next s
    else if s.time < j.since + 65536 then .next (s.post [.shareWaitExpiry core slot])
    else .next ((s.modJob core slot fun j => { j with expired := true }).post [.shareGrant (dieOf core)])
  | none => .next s

end Sys2Proof.Machine
end

