-- ==== Sys2Proof/Machine/Engines.lean ====
section
/-! DEFINITION. The events of the engines: shadow loads, swaps, passes and retirements of the matrix engine
(R243 to R246, R267 to R269), the lines of the copy engine (R249, R250, R270 to R274), MCAST writes at a member (R273), and the tables that firmware freezes and resamples
(R255). -/

namespace Sys2Proof.Machine

open Host (Outcome)

/-! ### The matrix engine -/

/-- Changes the matrix engine of a core. -/
def State.modMatrix (s : State) (n : Nat) (f : Matrix → Matrix) : State :=
  s.modCore n fun c => { c with matrix := f c.matrix }

/-- SHADOW_LOAD (R243, R264): the load of a WLD, which then completes, or of the next plane of the MPRD that
runs. -/
def execShadowLoad (core : Nat) (s : State) : Outcome State Fault Refusal :=
  let c := s.coreAt core
  let m := c.matrix
  match m.loading.bind fun i => (c.job i).map fun j => (i, j) with
  | some (i, j) =>
    let p := c.loadPlane (wldFmt j.card) (cardFoot j.card 0).start
    let s := s.modMatrix core fun m => { m with shadow := p, shadowReady := true, loading := none, refused := false }
    .next (s.jobDone core i (if p.bad.isEmpty then none else some cPoison))
  | none => match m.running.bind c.job with
    | some j =>
      if mTotal j.card ≤ m.loaded ∨ m.shadowReady then .next s
      else
        let p := c.loadPlane (mWfmt j.card) (passW j.card m.loaded)
        .next (s.modMatrix core fun m => { m with shadow := p, shadowReady := true, loaded := m.loaded + 1 })
    | none => .next s

/-- PLANE_SWAP (R243): at a pass boundary the ready shadow plane becomes active, and the load for the next
pass begins; without a ready plane the engine waits. -/
def execPlaneSwap (core : Nat) (s : State) : Outcome State Fault Refusal :=
  let m := (s.coreAt core).matrix
  if m.running.isNone then .next s
  else if !m.shadowReady then .next (s.post [.planeSwap core])
  else
    let s := s.modMatrix core fun m => { m with active := m.shadow, shadowReady := false }
    .next (s.post [.shadowLoad core, .matrixPass core, .jobDispatch core true])

/-- MATRIX_PASS (R267): a pass updates the accumulators of its block; the last of a reduction leads to its
retirement. -/
def execMatrixPass (core : Nat) (s : State) : Outcome State Fault Refusal :=
  let c := s.coreAt core
  match c.matrix.running with
  | none => .next s
  | some i => match c.job i with
    | none => .next s
    | some j =>
      let k := c.matrix.pass
      let (s, bad) := s.runPass core j.card k
      let s := if bad then s.jobError core i cPoison else s
      let s := s.modMatrix core fun m => { m with pass := k + 1 }
      .next (s.post [if (k + 1) % mPasses j.card = 0 then .retirement core else .planeSwap core])

/-- The matrix engine gives up the job that runs; a plane that this job loaded is ready no longer. -/
def Matrix.stopRun (m : Matrix) (own : Bool) : Matrix :=
  { m with running := none, loaded := 0, pass := 0, shadowReady := m.shadowReady && !own }

/-- RETIREMENT (R244, R247, R248): the block is retired and the cursor moves on. With the last block the job
completes; under a pre-emption it parks (R245). -/
def execRetirement (core : Nat) (s : State) : Outcome State Fault Refusal :=
  let c := s.coreAt core
  match c.matrix.running with
  | none => .next s
  | some i => match c.job i with
    | none => .next s
    | some j =>
      let (s, bad, w0, w1) := s.retireBlock core j.card j.cursor j.checksum0 j.checksum1
      let s := if bad then s.jobError core i cPoison else s
      let s := s.modJob core i fun j => { j with cursor := j.cursor + 1, checksum0 := w0, checksum1 := w1 }
      if mBlocks j.card ≤ j.cursor + 1 then
        let s := s.writeFolds core j.card w0 w1
        let s := s.modMatrix core fun m => m.stopRun false
        .next (s.post [.jobCompletion core i])
      else if c.parks then
        let s := s.modMatrix core fun m => m.stopRun true
        .next ((s.modJob core i fun j => { j with state := .parked }).returnShare core i)
      else .next (s.post [.planeSwap core])

/-! ### The lines of the copy engine -/

/-- The job that the copy engine runs. -/
def Core.copyJob (c : Core) : Option (Nat × Job) :=
  c.jobs.find? fun p => p.2.state = .running && !p.2.isMatrix

/-- A job reads memory. -/
def readsMemory (k : Card) : Bool := cardKind k = 4 || ((cardKind k = 3 || cardKind k = 7) && !cardOut k)

/-- The rights that a job's lines need (R262). -/
def lineNeed (k : Card) : BitVec 4 := if cardKind k = 5 then needA else if readsMemory k then needR else needW

/-- The buffer and footprint of the buffer side of a card: fp1, or fp0 of an MCAST. -/
def bufSide (k : Card) : Foot := if cardKind k = 6 then cardFoot k 0 else cardFoot k 1

/-- The running copy job ends at a failed line (R174, R249). -/
def State.lineFailed (s : State) (n slot : Nat) (cause : CauseCode) : State :=
  (s.jobError n slot cause).jobDone n slot none

/-- The key stream position and running GHASH of a CRYPT line of `l` data bytes at position `p`, enciphered or
deciphered: the output and the GHASH value after it (R274). -/
def cryptBytes (key : BitVec 256) (k : Card) (p y : Nat) (l : List Byte) : List Byte × Nat :=
  let ks := roundKeys (keyBytes key)
  let msg := l.map (·.toNat)
  let out := ctrXor ks (cryptIv k) (msg.length / 16 + 1) (p / 16) msg
  let ct := if cardOut k then out else msg
  (out.map (BitVec.ofNat 8), ghash (hashKey ks) (ct.length / 16 + 1) y ct)

/-- The tag of a CRYPT job whose GHASH over its ciphertext is `y` (R274).
Log 40: DEDUCED, unsafe. -/
def cryptTag (key : BitVec 256) (k : Card) (y : Nat) : List Byte :=
  (gcmTag (roundKeys (keyBytes key)) (cryptIv k) y 0 (cryptLen k)).map (BitVec.ofNat 8)

/-- The bytes that a job's line writes to memory, from its buffer side: for a CRYPT the ciphertext, then the
tag; and the GHASH value after it. -/
def State.outBytes (s : State) (n : Nat) (j : Job) (p buf len : Nat) : List Byte × BitVec 128 :=
  let k := j.card
  let c := s.coreAt n
  if cardKind k ≠ 7 then
    ((copyParts k len p len).flatMap fun q => c.bufBytes (bufSide k).bufOf q.2.1 q.2.2, j.checksum0)
  else
    let d := min len (cryptLen k - p)
    let (ct, y) := cryptBytes j.key k p j.checksum0.toNat (c.bufBytes (bufSide k).bufOf buf d)
    let tag := ((cryptTag j.key k y).drop (p + d - cryptLen k)).take (len - d)
    (ct ++ (if len = d then [] else tag), BitVec.ofNat 128 y)

/-- The positions of poisoned bytes of a buffer range. -/
def Core.badBytes (c : Core) (b a n : Nat) : List Nat :=
  if c.localPoison.isEmpty then [] else (List.range n).filter fun i => c.bufPoison b (a + i) 1

/-- The positions of poisoned bytes of what a job's line writes. -/
def Core.badOut (c : Core) (k : Card) (p buf len : Nat) : List Nat :=
  if cardKind k = 7 then c.badBytes (bufSide k).bufOf buf (min len (cryptLen k - p))
  else ((copyParts k len p len).foldl (fun (a : Nat × List Nat) q =>
    (a.1 + q.2.2, a.2 ++ (c.badBytes (bufSide k).bufOf q.2.1 q.2.2).map (a.1 + ·))) (0, [])).2

/-- A write of an MCAST goes to every member of its group (R273), with the tag of an ABUF slot that it copies whole (R257).
-/
def State.mcastLine (s : State) (n slot : Nat) (j : Job) (p len : Nat) : State :=
  let k := j.card
  let c := s.coreAt n
  let f0 := cardFoot k 0
  let f1 := cardFoot k 1
  let from_ := f0.start + p
  let w : McastWrite :=
    { buf := f1.bufOf, off := f1.start + p, count := len,
      tag := if len = 1024 then some (SMap.get 0 c.abufTags (from_ / 1024)) else none,
      data := BitVec.ofNat 8192 (c.bufNat f0.bufOf from_ len), bad := c.badBytes f0.bufOf from_ len,
      src := n, job := slot }
  match s.groupAt j.die j.launch (bitsOf (quad k 6) 63 56) with
  | some g => s.post (g.list.map fun m => .mcastMemberWrite m w)
  | none => s

/-- The buffer side receives bytes of a line, with their poison; ABUF slots become raw (R257). -/
def State.jobFill (s : State) (n b a : Nat) (l : List Byte) (bad : List Nat) : State :=
  s.modCore n fun c =>
    let c := c.bufWrite b a l
    let c := bad.foldl (fun (c : Core) i => c.bufTaint b (a + i) 1) c
    if b = 3 then c.rawSlots a l.length else c

/-- COPY_LINE (R249, R250): the token is checked again and one line of the running job is issued; under a
pre-emption the job parks at its line boundary. A REDUCE whose elements do not lie at multiples of their size in the
address space ends with TOKEN_BOUNDS.
Log 40: DEDUCED, unsafe. -/
def execCopyLine (core : Nat) (s : State) : Outcome State Fault Refusal :=
  let c := s.coreAt core
  match c.copyJob with
  | none => .next s
  | some (slot, j) =>
    let k := j.card
    let p := j.cursor
    if c.piece.isSome then .next s
    else if copyTotal k ≤ p then
      -- a failed tag zeroes the destination (R274)
      let s := if cardKind k = 7 ∧ !cardOut k ∧ j.tagBad then
          s.jobFill core (cardFoot k 1).bufOf (cardFoot k 1).start (List.replicate (cryptLen k) 0) []
        else s
      .next (s.post [.jobCompletion core slot])
    else if c.parks then .next (s.modJob core slot fun j => { j with state := .parked })
    else if cardKind k = 6 then
      let len := mcastLen k p
      let s := s.mcastLine core slot j p len
      .next ((s.modJob core slot fun j => { j with cursor := p + len }).post [.copyLine core])
    else
      let i := tokIndex (cardTok k)
      let (m, b, _) := copyAt k p
      let len := unitLen k (s.tokenEntry core j.ctx i) p
      match s.checkOn core j.ctx (cardTok k) m len (lineNeed k) with
      | .error e => .next (s.lineFailed core slot e)
      | .ok e =>
        let segs := e.elemSegs 0 m len
        match s.badPart segs, segs.find? fun g => s.isRemote g.frame && !s.hasRoute g.frame.peer with
        | some a, _ => .fault (.unmappedPhysical a)
        | none, some _ => .next (s.lineFailed core slot cPeer)
        | none, none =>
          let bad := if readsMemory k then [] else c.badOut k p b len
          if segs.any s.movedPart then .next (s.lineFailed core slot cStale)
          else if cardKind k = 4 ∧ segs.any (fun g => !g.frame.zpage) then .next (s.lineFailed core slot cRights)
          else if cardKind k = 5 ∧ (e.vbase.toNat + m) % redSize k ≠ 0 then .next (s.lineFailed core slot cBounds)
          else if cardKind k = 7 ∧ !bad.isEmpty then .next (s.lineFailed core slot cPoison)
          else if s.fab.reconf ≠ .run ∧ segs.any (fun g => s.isRemote g.frame) then .next (s.post [.copyLine core])
          else
            let s := (s.noteToken core j.ctx i).flight j.ctx i true
            let (bytes, y) := if readsMemory k then ([], j.checksum0) else s.outBytes core j p b len
            let far := (segs.filter fun g => s.isRemote g.frame).map fun g => (g.frame.peer, lineNo g.addr)
            let reads := if readsMemory k then far.eraseDups else []
            let name := match j.bound with | some b => BitVec.ofNat 64 b | none => BitVec.allOnes 64
            let read : Nat × Nat → Packet := fun q =>
              let mine := segs.filter fun g => g.frame.peer = q.1 && lineNo g.addr = q.2
              { s.packet 0 q.1 7 with
                sdie := core / 32, score := core % 32, sstr := 2, cls := j.cls, line := q.2,
                sect := sectorsOf (mine.foldl (fun m g => m ||| byteMask g.lineOff g.len) 0)
                body := [name, s.viewWord j.view, pageWord j.ctx (frameOf segs q.1 q.2)] }
            -- an EXPAND reads a block at one point (R258)
            let s := if cardKind k = 4 && oneRun reads then s.send (packetLines (read (reads.getD 0 (0, 0))) reads.length)
              else reads.foldl (fun s q => s.send (read q)) s
            let s := s.modJob core slot fun j => { j with cursor := p + len, checksum0 := y }
            let s := s.modCore core fun c =>
              { c with piece := some ⟨slot, p, len, b, i, segs, [], reads, false, bytes, bad⟩ }
            .next (if reads.isEmpty then s.post [.copyLineComplete core] else s)

/-! ### Completing a line -/

/-- One part of a line that a job reads: its bytes as a number, whether it met a hole or an expired view, and
the positions of its poisoned bytes. -/
def State.jobRead (s : State) (j : Job) (p : Piece) (g : Seg) : State × Nat × Bool × Bool × List Nat :=
  let l := lineNo g.addr
  let off := g.lineOff
  let bad : BitVec 4 → List Nat := fun m =>
    if m = 0 then [] else ((List.range g.len).filter fun i => m.getLsbD ((off + i) / 32)).map (g.pos + ·)
  if g.frame.hole then (s, 0, true, false, [])
  else if s.isRemote g.frame then
    match gotLine p.got g.frame.peer l with
    | some (d, m) =>
      if gotExpired p.got g.frame.peer l then (s, 0, false, true, [])
      else (s, lineBytes d off g.len, false, false, bad m)
    | none => (s, 0, false, false, [])
  else if g.frame.bundle then
    let s := s.settle l
    match (s.bLine l).visible j.bound (s.viewStamp j.view) with
    | some (d, m) => (s, lineBytes d off g.len, false, false, bad m)
    | none => (s, 0, false, true, [])
  else (s, lineBytes (s.homeLine l) off g.len, false, false, bad (s.homePoison l))

/-- What a line that has been read does at its buffer: COPY, EXPAND of a whole block, CRYPT. -/
def State.deliverLine (s : State) (n : Nat) (j : Job) (p : Piece) (l : List Byte) (bad : List Nat) : State :=
  let k := j.card
  let b := (cardFoot k 1).bufOf
  match cardKind k with
  | 3 => s.jobFill n b p.buf l bad
  | 4 =>
    if !bad.isEmpty then s.jobError n p.job cPoison
    else match s.decodeBlock l with
      | some out => s.jobFill n b p.buf out []
      | none => s.jobError n p.job cCheck
  | _ =>
    if !bad.isEmpty then s.jobError n p.job cPoison
    else
      let d := min p.len (cryptLen k - p.pos)
      let (pt, y) := cryptBytes j.key k p.pos j.checksum0.toNat (l.take d)
      let want := ((cryptTag j.key k y).drop (p.pos + d - cryptLen k)).take (p.len - d)
      let fail := p.len ≠ d && l.drop d != want
      let s := s.modJob n p.job fun j =>
        { j with checksum0 := BitVec.ofNat 128 y, tagBad := fail || j.tagBad }
      let s := if d = 0 then s else s.jobFill n b p.buf pt []
      if fail then s.jobError n p.job cTagFail else s

/-- The line of a job has been read whole: it is delivered, and holes and expired views mark the job (R270,
R327). -/
def State.lineRead (s : State) (n : Nat) (j : Job) (p : Piece) : State :=
  let (s, l) := p.segs.foldl (fun (acc : State × List (List Byte × Bool × Bool × List Nat)) g =>
    let (s, v, hole, exp, bad) := acc.1.jobRead j p g
    (s, acc.2 ++ [(bytesOf g.len v, hole, exp, bad)])) (s, [])
  let s := if l.any fun q => q.2.1 then s.jobError n p.job cHole else s
  let s := if l.any fun q => q.2.2.1 then s.jobError n p.job cView else s
  s.deliverLine n j p (l.flatMap fun q => q.1) (l.flatMap fun q => q.2.2.2)

/-- The line of a job is written at its homes on this chip, all of it at once, unless it must still wait (R258, R318). -/
def State.lineWrite (s : State) (j : Job) (p : Piece) : Bool × State :=
  let (ok, s) := s.linesReady j.bound (s.bundleLines p.segs)
  if !ok then (false, s)
  else (true, (p.segs.filter fun g => !s.isRemote g.frame).foldl (fun s g =>
    let off := g.lineOff
    let l := lineNo g.addr
    let d := lineWith 0 off g.len (natOfBytes ((p.bytes.drop g.pos).take g.len))
    let m := byteMask off g.len
    if g.frame.bundle then s.writeBundleLine j.bound l d m (sectorMarks off g.pos g.len p.bad)
    else s.homeWrite j.ctx l d m (sectorMarks off g.pos g.len p.bad)) s)

/-- The fifth word of the 16 write packets of a block of a Z page: the block's number, and the place of the line in it.
Log 40: DEDUCED, unsafe. -/
def blockTag (unit i : Nat) : W64 := BitVec.ofNat 64 (16 + i + 32 * (unit % 2 ^ 32))

/-- The write packets of a line's parts on other chips (R358); those of a block of a Z page are told apart, so that its home
writes them as one unit (R258). -/
def State.linePackets (s : State) (n : Nat) (j : Job) (p : Piece) : List Packet :=
  let name := match j.bound with | some b => BitVec.ofNat 64 b | none => BitVec.allOnes 64
  let far := p.segs.filter fun g => s.isRemote g.frame
  let block : Bool := p.len = 2048 && far.length = 16 && far.all fun g => g.len = 128
  far.zipIdx.map fun q =>
    let g := q.1
    let off := g.lineOff
    let v := natOfBytes ((p.bytes.drop g.pos).take g.len)
    { s.packet 1 g.frame.peer 7 with
      sdie := n / 32, score := n % 32, sstr := 2, cls := j.cls, line := lineNo g.addr,
      sect := sectorsOf (byteMask off g.len), mask := byteMask off g.len, data := lineWith 0 off g.len v,
      body := [name, s.viewWord j.view, pageWord j.ctx g.frame, (sectorMarks off g.pos g.len p.bad).setWidth 64] ++
        if block then [blockTag s.time q.2] else [] }

/-- The engine goes on to the next line of its job. -/
def State.nextLine (s : State) (n : Nat) (j : Job) (i : Nat) : State :=
  ((s.flight j.ctx i false).modCore n fun c => { c with piece := none }).post [.copyLine n]

/-- The running copy job ends at the line that it has issued: its request is handed back undelivered, or its page has moved
(R172, R179, R194, R315). Of a REDUCE the line counts as not contributed to (R253). -/
def State.pieceFailed (s : State) (n : Nat) (cause : CauseCode) : State :=
  match (s.coreAt n).piece with
  | none => s
  | some p => match (s.coreAt n).job p.job with
    | none => s
    | some j =>
      let s := (s.flight j.ctx p.tokIndex false).modCore n fun c => { c with piece := none }
      let s := s.modJob n p.job fun j => if cardKind j.card = 5 then { j with cursor := p.pos } else j
      s.lineFailed n p.job cause

/-- The contribution of a REDUCE's line performs at its home or leaves for it; at a home that can open no more records it
waits, and its job with it (R250, R251). A reconfiguration holds it (R367). -/
def State.contribute (s : State) (core : Nat) (j : Job) (p : Piece) (g : Seg) : State :=
  let con := s.contribution core p.job j g.frame g.addr g.len p.bytes (!p.bad.isEmpty)
  let poison : State → State := fun s => if p.bad.isEmpty then s else s.jobError core p.job cPoison
  let sent : State → Packet → State := fun s q =>
    ((poison s).send q).modCore core fun c => { c with piece := some { p with sent := true, await := [(q.dst, q.line)] } }
  let l := lineNo g.addr
  if s.isRemote g.frame then
    if s.fab.reconf ≠ .run then s.post [.copyLineComplete core] else sent s (s.reducePacket core j.cls g.frame con false)
  else match s.homes.copied l with
    -- a line of a migrating page that has been copied takes contributions at its new home (R371)
    | some m =>
      if s.fab.reconf ≠ .run ∨ l = m.cursor then s.post [.copyLineComplete core]
      else sent (s.followContribution con) (s.movedContribution core j.cls m con false)
    | none => match s.takeContribution con with
      | some (s, refused) =>
        let s := if refused then s.jobError core p.job cIllegal else s
        (poison s).nextLine core j p.tokIndex
      | none => s.post [.copyLineComplete core]

/-- COPY_LINE_COMPLETE (R250, R172): the line's destination write performs and its in-flight count falls; a
write on other chips completes with their acknowledgements. -/
def execCopyLineComplete (core : Nat) (s : State) : Outcome State Fault Refusal :=
  let c := s.coreAt core
  match c.piece with
  | none => .next s
  | some p => match c.job p.job with
    | none => .next (s.modCore core fun c => { c with piece := none })
    | some j =>
      if !p.await.isEmpty then .next s
      else if p.sent then .next (s.nextLine core j p.tokIndex)
      else if p.segs.any s.movedPart then .next (s.pieceFailed core cStale)
      else if readsMemory j.card then .next ((s.lineRead core j p).nextLine core j p.tokIndex)
      else if cardKind j.card = 5 then
        match p.segs with
        | g :: _ => .next (s.contribute core j p g)
        | [] => .next (s.nextLine core j p.tokIndex)
      else if s.fab.reconf ≠ .run ∧ p.segs.any (fun g => s.isRemote g.frame) then .next (s.post [.copyLineComplete core])
      else match s.lineWrite j p with
        | (false, s) => .next (s.post [.copyLineComplete core])
        | (true, s) =>
          let ps := s.linePackets core j p
          let s := ps.foldl State.send s
          let far := (ps.map fun q => (q.dst, q.line)).eraseDups
          let s := s.modCore core fun c => { c with piece := some { p with sent := true, await := far } }
          .next (if far.isEmpty then s.nextLine core j p.tokIndex else s)

/-- An answer reaches the line that the copy engine of a core awaits: data, or an acknowledgement with its
status (R253). -/
def State.pieceAnswer (s : State) (n peer l : Nat) (data : Option (BitVec 1024 × BitVec 5)) (bad : Bool) : State :=
  match (s.coreAt n).piece with
  | none => s
  | some p =>
    let q := { p with
      await := p.await.filter (· ≠ (peer, l))
      got := match data with
        | some d => p.got ++ [(peer, l, d)]
        | none => p.got }
    let s := s.modCore n fun c => { c with piece := some q }
    let s := if bad then s.jobError n p.job cIllegal else s
    if q.await.isEmpty then s.post [.copyLineComplete n] else s

/-! ### MCAST at a member (R273) -/

/-- MCAST_MEMBER_WRITE (R273): the member checks the whole range of the job's fp1 and applies the write, with its poison and
slot tag (R257). -/
def execMcastMemberWrite (core : Nat) (m : McastWrite) (s : State) : Outcome State Fault Refusal :=
  match (s.coreAt m.src).job m.job with
  | none => .next s
  | some j =>
    let c := s.coreAt core
    let f1 := cardFoot j.card 1
    if c.resident ≠ some j.ctx ∨ !c.inBuf m.buf f1.start f1.len then .next (s.jobError m.src m.job cBuffer)
    else
      let s := s.jobFill core m.buf m.off (bytesOf m.count m.data.toNat) m.bad
      match m.tag with
      | some t => .next (s.modCore core fun c => { c with abufTags := SMap.set 0 c.abufTags (m.off / 1024) t })
      | none => .next s

/-! ### Compression tables (R255) -/

/-- TABLE_FREEZE: a learned slot freezes the code lengths that it has built; lengths that are no table leave
it learning.
Log 66: DESIGN CHOICE, unsafe. -/
def execTableFreeze (die slot : Nat) (lens : List Nat) (s : State) : Outcome State Fault Refusal :=
  let t := s.tableAt die slot
  if !t.learned ∨ t.frozen ∨ !validTable lens then .next s
  else .next (s.modDie die fun d => { d with tables := SMap.put d.tables slot (t.take true lens) })

/-- RESAMPLING_INTERVAL: a learned slot begins a new learning phase, in which it stores every block raw.
Log 66: DESIGN CHOICE, unsafe. -/
def execResamplingInterval (die slot : Nat) (s : State) : Outcome State Fault Refusal :=
  let t := s.tableAt die slot
  if t.learned then
    .next (s.modDie die fun d => { d with tables := SMap.put d.tables slot { t with frozen := false, counts := [] } })
  else .next s

end Sys2Proof.Machine
end

