-- ==== Sys2Proof/Decode.lean ====
section
/-! DEFINITION. Reading an instruction word (R115, R123 to R132) and, after it, writing one. -/

namespace Sys2Proof

/-- Bits [63:56] of a word: the primary opcode (R115). -/
def opcodeOf (w : W64) : Nat := (w.extractLsb' 56 8).toNat

/-- The guard field, bits [55:44] (R115). -/
def Guard.unpack (w : W64) : Guard := ⟨w.getLsbD 55, w.extractLsb' 50 5, w.extractLsb' 44 6⟩

/-- The fields of format F3 (R123). -/
def F3.unpack (w : W64) : F3 :=
  ⟨Guard.unpack w, w.extractLsb' 37 7, w.extractLsb' 30 7, w.extractLsb' 23 7, w.extractLsb' 19 4,
   w.extractLsb' 17 2, w.getLsbD 16, w.getLsbD 15, w.getLsbD 14, w.extractLsb' 11 3,
   w.extractLsb' 7 4, w.extractLsb' 0 7⟩

/-- The fields of format FI (R124). -/
def FI.unpack (w : W64) : FI :=
  ⟨Guard.unpack w, w.extractLsb' 37 7, w.extractLsb' 30 7, w.extractLsb' 0 30⟩

/-- The fields of format FL (R125). -/
def FL.unpack (w : W64) : FL := ⟨Guard.unpack w, w.extractLsb' 37 7, w.extractLsb' 0 37⟩

/-- The fields of format FB (R126). -/
def FB.unpack (w : W64) : FB :=
  ⟨Guard.unpack w, w.extractLsb' 37 7, w.extractLsb' 30 7, w.getLsbD 29, w.extractLsb' 26 3,
   w.extractLsb' 0 26⟩

/-- The fields of format FM (R127). -/
def FM.unpack (w : W64) : FM :=
  ⟨Guard.unpack w, w.extractLsb' 37 7, w.extractLsb' 30 7, w.extractLsb' 23 7, w.extractLsb' 11 12,
   w.extractLsb' 7 4, w.extractLsb' 5 2, w.extractLsb' 3 2, w.getLsbD 2, w.extractLsb' 0 2⟩

/-- The fields of the indexed layout of format FM (R128). -/
def FX.unpack (w : W64) : FX :=
  ⟨Guard.unpack w, w.extractLsb' 37 7, w.extractLsb' 30 7, w.extractLsb' 23 7, w.extractLsb' 16 7,
   w.extractLsb' 11 5, w.extractLsb' 7 4, w.extractLsb' 5 2, w.extractLsb' 3 2, w.getLsbD 2,
   w.extractLsb' 0 2⟩

/-- The fields of format FJ (R129). -/
def FJ.unpack (w : W64) : FJ :=
  ⟨Guard.unpack w, w.extractLsb' 37 7, w.extractLsb' 30 7, w.extractLsb' 23 7, w.extractLsb' 19 4,
   w.extractLsb' 15 4, w.extractLsb' 0 15⟩

/-- Row 0x0_ of the opcode map (R130, R131). -/
def decodeRow0 (w : W64) : Nat → Option Instr
  | 1 => some (.add (F3.unpack w))
  | 2 => some (.sub (F3.unpack w))
  | 3 => some (.mul (F3.unpack w))
  | 4 => some (.mulh (F3.unpack w))
  | 5 => some (.mulhn (F3.unpack w))
  | 6 => some (.div (F3.unpack w))
  | 7 => some (.divn (F3.unpack w))
  | 8 => some (.rem (F3.unpack w))
  | 9 => some (.remn (F3.unpack w))
  | 10 => some (.and (F3.unpack w))
  | 11 => some (.or (F3.unpack w))
  | 12 => some (.xor (F3.unpack w))
  | 13 => some (.andn (F3.unpack w))
  | 14 => some (.shl (F3.unpack w))
  | 15 => some (.shr (F3.unpack w))
  | _ => none

/-- Row 0x1_ of the opcode map (R130, R131). -/
def decodeRow1 (w : W64) : Nat → Option Instr
  | 0 => some (.sra (F3.unpack w))
  | 1 => some (.rol (F3.unpack w))
  | 2 => some (.ror (F3.unpack w))
  | 3 => some (.min (F3.unpack w))
  | 4 => some (.max (F3.unpack w))
  | 5 => some (.minn (F3.unpack w))
  | 6 => some (.maxn (F3.unpack w))
  | 7 => some (.cmpeq (F3.unpack w))
  | 8 => some (.cmpne (F3.unpack w))
  | 9 => some (.cmplt (F3.unpack w))
  | 10 => some (.cmpltn (F3.unpack w))
  | 11 => some (.cmple (F3.unpack w))
  | 12 => some (.cmplen (F3.unpack w))
  | 13 => some (.clz (F3.unpack w))
  | 14 => some (.ctz (F3.unpack w))
  | 15 => some (.popc (F3.unpack w))
  | _ => none

/-- Row 0x2_ of the opcode map (R130, R131). -/
def decodeRow2 (w lit : W64) : Nat → Option Instr
  | 0 => some (.addi (FI.unpack w))
  | 1 => some (.muli (FI.unpack w))
  | 2 => some (.andi (FI.unpack w))
  | 3 => some (.ori (FI.unpack w))
  | 4 => some (.xori (FI.unpack w))
  | 5 => some (.shli (FI.unpack w))
  | 6 => some (.shri (FI.unpack w))
  | 7 => some (.srai (FI.unpack w))
  | 8 => some (.cmpeqi (FI.unpack w))
  | 9 => some (.cmpnei (FI.unpack w))
  | 10 => some (.cmplti (FI.unpack w))
  | 11 => some (.cmpltni (FI.unpack w))
  | 12 => some (.extr (FI.unpack w))
  | 13 => some (.extrs (FI.unpack w))
  | 14 => some (.limm (FL.unpack w) lit)
  | 15 => some (.uld (FI.unpack w))
  | _ => none

/-- Row 0x3_ of the opcode map (R130, R131). -/
def decodeRow3 (w : W64) : Nat → Option Instr
  | 0 => some (.br (FB.unpack w))
  | 1 => some (.call (FB.unpack w))
  | 2 => some (.ret (FB.unpack w))
  | 3 => some (.loop (FB.unpack w))
  | 4 => some (.start (FB.unpack w))
  | 5 => some (.spawn (FB.unpack w))
  | 6 => some (.yield (FI.unpack w))
  | 7 => some (.await (FM.unpack w))
  | 8 => some (.exit (FI.unpack w))
  | 9 => some (.feed (FM.unpack w))
  | 10 => some (.jpost (FJ.unpack w))
  | 11 => some (.remq (FJ.unpack w))
  | 12 => some (.wait (FL.unpack w))
  | 13 => some (.sigwait (FM.unpack w))
  | 14 => some (.gbar (FI.unpack w))
  | 15 => some (.phase (FI.unpack w))
  | _ => none

/-- Row 0x4_ of the opcode map (R130, R131). -/
def decodeRow4 (w : W64) : Nat → Option Instr
  | 0 => some (.xlat (F3.unpack w))
  | 1 => some (.refresh (F3.unpack w))
  | 2 => some (.tdrop (F3.unpack w))
  | 3 => if w.extractLsb' 7 4 = 1 then some (.tqueryCtl (F3.unpack w)) else if w.extractLsb' 7 4 = 2 then some (.tqueryVbase (F3.unpack w)) else if w.extractLsb' 7 4 = 3 then some (.tqueryLen (F3.unpack w)) else if w.extractLsb' 7 4 = 4 then some (.tqueryCur (F3.unpack w)) else if w.extractLsb' 7 4 = 5 then some (.tqueryGet (F3.unpack w)) else if w.extractLsb' 7 4 = 6 then some (.tquerySet (F3.unpack w)) else none
  | 4 => some (.reqpg (FM.unpack w))
  | 5 => some (.fence (FI.unpack w))
  | 6 => some (.sigadd (FM.unpack w))
  | 7 => some (.sigset (FM.unpack w))
  | 8 => some (.lds (FM.unpack w))
  | 9 => some (.sts (FM.unpack w))
  | 10 => some (.ldacq (FM.unpack w))
  | 11 => some (.strel (FM.unpack w))
  | 12 => some (.wback (FM.unpack w))
  | 13 => some (.inval (FM.unpack w))
  | 14 => some (.discard (FM.unpack w))
  | 15 => some (.pref (FM.unpack w))
  | _ => none

/-- Row 0x5_ of the opcode map (R130, R131). -/
def decodeRow5 (w : W64) : Nat → Option Instr
  | 0 => some (.aadd (FX.unpack w))
  | 1 => some (.amin (FX.unpack w))
  | 2 => some (.amax (FX.unpack w))
  | 3 => some (.aminn (FX.unpack w))
  | 4 => some (.amaxn (FX.unpack w))
  | 5 => some (.aand (FX.unpack w))
  | 6 => some (.aor (FX.unpack w))
  | 7 => some (.axor (FX.unpack w))
  | 8 => some (.aswap (FX.unpack w))
  | 9 => some (.acas (FX.unpack w))
  | 10 => some (.bnew (FI.unpack w))
  | 11 => some (.bjoin (FM.unpack w))
  | 12 => some (.bseal (FI.unpack w))
  | 13 => some (.babort (FI.unpack w))
  | 14 => if w.extractLsb' 0 30 = 0 then some (.bviewNow (FI.unpack w)) else if w.extractLsb' 0 30 = 1 then some (.bviewSet (FI.unpack w)) else if w.extractLsb' 0 30 = 2 then some (.bviewClr (FI.unpack w)) else none
  | 15 => if w.extractLsb' 0 30 = 0 then some (.bcheck (FI.unpack w)) else some (.bcheckCls (FI.unpack w))
  | _ => none

/-- Row 0x6_ of the opcode map (R130, R131). -/
def decodeRow6 (w : W64) : Nat → Option Instr
  | 0 => some (.vld (FM.unpack w))
  | 1 => some (.vlds (FX.unpack w))
  | 2 => some (.vldx (FX.unpack w))
  | 3 => some (.ldb (FM.unpack w))
  | 4 => some (.vst (FM.unpack w))
  | 5 => some (.vsts (FX.unpack w))
  | 6 => some (.vstx (FX.unpack w))
  | 7 => some (.lld (FM.unpack w))
  | 8 => some (.lst (FM.unpack w))
  | 9 => some (.vlld (FM.unpack w))
  | 10 => some (.vlst (FM.unpack w))
  | 11 => some (.lqput (F3.unpack w))
  | 12 => some (.sqget (F3.unpack w))
  | 13 => some (.tchk (F3.unpack w))
  | 14 => some (.rprobe (FM.unpack w))
  | 15 => some (.sqdrop (F3.unpack w))
  | _ => none

/-- Row 0x7_ of the opcode map (R130, R131). -/
def decodeRow7 (w : W64) : Nat → Option Instr
  | 0 => some (.vadd (F3.unpack w))
  | 1 => some (.vsub (F3.unpack w))
  | 2 => some (.vmul (F3.unpack w))
  | 3 => some (.vdiv (F3.unpack w))
  | 4 => some (.vsqrt (F3.unpack w))
  | 5 => some (.vfma (F3.unpack w))
  | 6 => some (.vfms (F3.unpack w))
  | 7 => some (.vfnma (F3.unpack w))
  | 8 => some (.vfnms (F3.unpack w))
  | 9 => some (.vmin (F3.unpack w))
  | 10 => some (.vmax (F3.unpack w))
  | 11 => some (.vabs (F3.unpack w))
  | 12 => some (.vneg (F3.unpack w))
  | 13 => some (.vabd (F3.unpack w))
  | 14 => some (.vrcp (F3.unpack w))
  | 15 => some (.vrsq (F3.unpack w))
  | _ => none

/-- Row 0x8_ of the opcode map (R130, R131). -/
def decodeRow8 (w : W64) : Nat → Option Instr
  | 0 => some (.vexp2 (F3.unpack w))
  | 1 => some (.vlog2 (F3.unpack w))
  | 2 => some (.vsin (F3.unpack w))
  | 3 => some (.vcos (F3.unpack w))
  | 4 => some (.vtanh (F3.unpack w))
  | 5 => some (.vsigm (F3.unpack w))
  | 6 => some (.vscale (F3.unpack w))
  | 7 => some (.vround (F3.unpack w))
  | 8 => some (.vclamp (F3.unpack w))
  | 9 => some (.vsgnj (F3.unpack w))
  | 10 => some (.vclass (F3.unpack w))
  | 11 => some (.vcvt (F3.unpack w))
  | 12 => some (.vdot (F3.unpack w))
  | 13 => some (.vcmp (F3.unpack w))
  | 14 => some (.vpadd (F3.unpack w))
  | 15 => some (.vpack (F3.unpack w))
  | _ => none

/-- Row 0x9_ of the opcode map (R130, R131). -/
def decodeRow9 (w : W64) : Nat → Option Instr
  | 0 => some (.vunpack (F3.unpack w))
  | 1 => some (.vredsum (F3.unpack w))
  | 2 => some (.vredmax (F3.unpack w))
  | 3 => some (.vredmin (F3.unpack w))
  | 4 => some (.vredadd (F3.unpack w))
  | 5 => some (.vredand (F3.unpack w))
  | 6 => some (.vredor (F3.unpack w))
  | 7 => some (.vredxor (F3.unpack w))
  | 8 => some (.viadd (F3.unpack w))
  | 9 => some (.visub (F3.unpack w))
  | 10 => some (.vimul (F3.unpack w))
  | 11 => some (.vimulh (F3.unpack w))
  | 12 => some (.vimac (F3.unpack w))
  | 13 => some (.vand (F3.unpack w))
  | 14 => some (.vor (F3.unpack w))
  | 15 => some (.vxor (F3.unpack w))
  | _ => none

/-- Row 0xA_ of the opcode map (R130, R131). -/
def decodeRowA (w : W64) : Nat → Option Instr
  | 0 => some (.vandn (F3.unpack w))
  | 1 => some (.vshl (F3.unpack w))
  | 2 => some (.vshr (F3.unpack w))
  | 3 => some (.vsra (F3.unpack w))
  | 4 => some (.vimin (F3.unpack w))
  | 5 => some (.vimax (F3.unpack w))
  | 6 => some (.viminn (F3.unpack w))
  | 7 => some (.vimaxn (F3.unpack w))
  | 8 => some (.vicmp (F3.unpack w))
  | 9 => some (.viabs (F3.unpack w))
  | 10 => some (.vineg (F3.unpack w))
  | 11 => some (.vpopc (F3.unpack w))
  | 12 => some (.vclz (F3.unpack w))
  | 13 => some (.vsel (F3.unpack w))
  | 14 => some (.vperm (F3.unpack w))
  | 15 => some (.vshuf (F3.unpack w))
  | _ => none

/-- Row 0xB_ of the opcode map (R130, R131). -/
def decodeRowB (w : W64) : Nat → Option Instr
  | 0 => some (.vbcast (F3.unpack w))
  | 1 => some (.vmov (F3.unpack w))
  | 2 => some (.vzip (F3.unpack w))
  | 3 => some (.vunzip (F3.unpack w))
  | 4 => some (.vcompress (F3.unpack w))
  | 5 => some (.vexpand (F3.unpack w))
  | 6 => some (.vidx (F3.unpack w))
  | 7 => some (.vpop (F3.unpack w))
  | 8 => some (.vpush (F3.unpack w))
  | 9 => some (.mand (F3.unpack w))
  | 10 => some (.mor (F3.unpack w))
  | 11 => some (.mxor (F3.unpack w))
  | 12 => some (.mandn (F3.unpack w))
  | 13 => some (.mnot (F3.unpack w))
  | 14 => some (.mmov (F3.unpack w))
  | 15 => some (.mset (F3.unpack w))
  | _ => none

/-- Row 0xC_ of the opcode map (R130, R131). -/
def decodeRowC (w lit : W64) : Nat → Option Instr
  | 0 => some (.mget (F3.unpack w))
  | 1 => some (.mcnt (F3.unpack w))
  | 2 => some (.ckacc (F3.unpack w))
  | 3 => some (.ckchk (F3.unpack w))
  | 4 => some (.ckclr (F3.unpack w))
  | 5 => some (.ckget (F3.unpack w))
  | 6 => some (.mfirst (F3.unpack w))
  | 7 => some (.viaddi (FI.unpack w))
  | 8 => some (.vshli (FI.unpack w))
  | 9 => some (.vshri (FI.unpack w))
  | 10 => some (.vsrai (FI.unpack w))
  | 11 => some (.vext (FI.unpack w))
  | 12 => some (.vins (FI.unpack w))
  | 13 => some (.vslide (FI.unpack w))
  | 14 => some (.vimm (FI.unpack w))
  | 15 => some (.vlimm (FL.unpack w) lit)
  | _ => none

/-- Row 0xD_ of the opcode map (R130, R131). -/
def decodeRowD (w : W64) : Nat → Option Instr
  | 0 => some (.revoke (F3.unpack w))
  | 1 => some (.grant (F3.unpack w))
  | 2 => some (.tsweep (F3.unpack w))
  | 3 => some (.tcflush (F3.unpack w))
  | 4 => some (.pgclass (F3.unpack w))
  | 5 => some (.ckpt (FI.unpack w))
  | 6 => some (.ckroll (FI.unpack w))
  | 7 => some (.roleset (FI.unpack w))
  | 8 => some (.csrr (FL.unpack w))
  | 9 => some (.csrw (FL.unpack w))
  | 10 => some (.syscall (FI.unpack w))
  | 11 => some (.tret (FI.unpack w))
  | 12 => some (.halt (FI.unpack w))
  | 13 => if w.extractLsb' 7 4 = 0 then some (.ctxsaveKeep (F3.unpack w)) else if w.extractLsb' 7 4 = 1 then some (.ctxsaveDrop (F3.unpack w)) else none
  | 14 => if w.extractLsb' 7 4 = 0 then some (.ctxload (F3.unpack w)) else if w.extractLsb' 7 4 = 1 then some (.ctxloadEvict (F3.unpack w)) else none
  | 15 => some (.stest (FI.unpack w))
  | _ => none

/-- Row 0xE_ of the opcode map (R130, R131). -/
def decodeRowE (w : W64) : Nat → Option Instr
  | 0 => some (.shelfput (F3.unpack w))
  | _ => none

/-- The instruction whose opcode and function sub-field the word names (R130), before its fields
are checked; `lit` is the slot that follows, which only the literal forms read. -/
def decodeFields (w lit : W64) : Option Instr :=
  match opcodeOf w / 16 with
  | 0 => decodeRow0 w (opcodeOf w % 16)
  | 1 => decodeRow1 w (opcodeOf w % 16)
  | 2 => decodeRow2 w lit (opcodeOf w % 16)
  | 3 => decodeRow3 w (opcodeOf w % 16)
  | 4 => decodeRow4 w (opcodeOf w % 16)
  | 5 => decodeRow5 w (opcodeOf w % 16)
  | 6 => decodeRow6 w (opcodeOf w % 16)
  | 7 => decodeRow7 w (opcodeOf w % 16)
  | 8 => decodeRow8 w (opcodeOf w % 16)
  | 9 => decodeRow9 w (opcodeOf w % 16)
  | 10 => decodeRowA w (opcodeOf w % 16)
  | 11 => decodeRowB w (opcodeOf w % 16)
  | 12 => decodeRowC w lit (opcodeOf w % 16)
  | 13 => decodeRowD w (opcodeOf w % 16)
  | 14 => decodeRowE w (opcodeOf w % 16)
  | _ => none

/-- The instruction that a legal word stands for; none for a word that check 1 or check 4 of R118
refuses. -/
def decode (w lit : W64) : Option Instr := (decodeFields w lit).filter Instr.wf

/-- The opcode lies in 0x01 to 0xE0 (R118 check 1, R132). -/
def opcodeAssigned (w : W64) : Bool := 1 ≤ opcodeOf w && opcodeOf w ≤ 0xE0

/-- The streams in which an opcode is legal (R131). -/
def opcodeStream (op : Nat) : Stream → Bool
  | .c => op ≤ 0x5F || op == 0x6D || 0xD0 ≤ op
  | .a => op ≤ 0x2F || op == 0x3C || (0x45 ≤ op && op ≤ 0x59) || (0x60 ≤ op && op ≤ 0x6F)
  | .x => op ≤ 0x2E || op == 0x3C || (0x70 ≤ op && op ≤ 0xCF)

/-- The two opcodes that take a literal (R125). -/
def takesLiteral (w : W64) : Bool := opcodeOf w == 0x2E || opcodeOf w == 0xCF

/-- A field value that is illegal in one stream: `fin` of `wait` in C (R288). -/
def Instr.legalIn (st : Stream) : Instr → Bool
  | .wait f => !(st = .c && f.imm.getLsbD 25)
  | _ => true

/-- The order of the first check of R118, among checks 1 to 4, that a word fails in a stream;
`litBroken` says that a rule of R34 is broken at its slot. -/
def issueCheck (st : Stream) (litBroken : Bool) (w lit : W64) : Except Nat Instr :=
  if !opcodeAssigned w then .error 1
  else if !opcodeStream (opcodeOf w) st then .error 2
  else if litBroken then .error 3
  else match decode w lit with
    | some i => if i.legalIn st then .ok i else .error 4
    | none => .error 4

/-- The instruction that the decoder reads from `w`, numbered as the opcode table numbers an
instruction's bits: the word is bits [63:0] and a literal slot is bits [127:64] (zero where the row
is given no such bits). -/
def decodeTableWord (_nbits w : Nat) : Option Instr :=
  decode (BitVec.ofNat 64 w) (BitVec.ofNat 64 (w / 2 ^ 64))

/-! The encoder. -/

/-- The guard field as 12 bits (R115). -/
def Guard.pack (g : Guard) : BitVec 12 := BitVec.ofBool g.gs ++ g.gr ++ g.gb

/-- A word of format F3 (R115, R123). -/
def F3.pack (op : BitVec 8) (f : F3) : W64 :=
  op ++ f.g.pack ++ f.d ++ f.s1 ++ f.s2 ++ f.fmt ++ f.rnd ++ BitVec.ofBool f.fzi ++
    BitVec.ofBool f.fzo ++ BitVec.ofBool f.sat ++ f.mask ++ f.fn ++ f.res

/-- A word of format FI (R115, R124). -/
def FI.pack (op : BitVec 8) (f : FI) : W64 := op ++ f.g.pack ++ f.d ++ f.s1 ++ f.imm

/-- A word of format FL (R115, R125). -/
def FL.pack (op : BitVec 8) (f : FL) : W64 := op ++ f.g.pack ++ f.d ++ f.imm

/-- A word of format FB (R115, R126). -/
def FB.pack (op : BitVec 8) (f : FB) : W64 :=
  op ++ f.g.pack ++ f.d ++ f.s1 ++ BitVec.ofBool f.ind ++ f.slot ++ f.off

/-- A word of format FM (R115, R127). -/
def FM.pack (op : BitVec 8) (f : FM) : W64 :=
  op ++ f.g.pack ++ f.d ++ f.s1 ++ f.s2 ++ f.off ++ f.cls ++ f.scope ++ f.hint ++
    BitVec.ofBool f.sgn ++ f.sz

/-- A word of the indexed layout of format FM (R115, R128). -/
def FX.pack (op : BitVec 8) (f : FX) : W64 :=
  op ++ f.g.pack ++ f.d ++ f.s1 ++ f.s2 ++ f.x ++ f.off ++ f.cls ++ f.scope ++ f.hint ++
    BitVec.ofBool f.sgn ++ f.sz

/-- A word of format FJ (R115, R129). -/
def FJ.pack (op : BitVec 8) (f : FJ) : W64 :=
  op ++ f.g.pack ++ f.d ++ f.s1 ++ f.s2 ++ f.k ++ f.cls ++ f.res

/-- The word of an instruction; an event has none, and is given the word zero, which no
instruction has. -/
def encode : Instr → W64
  | .add f => F3.pack 0x01 f
  | .sub f => F3.pack 0x02 f
  | .mul f => F3.pack 0x03 f
  | .mulh f => F3.pack 0x04 f
  | .mulhn f => F3.pack 0x05 f
  | .div f => F3.pack 0x06 f
  | .divn f => F3.pack 0x07 f
  | .rem f => F3.pack 0x08 f
  | .remn f => F3.pack 0x09 f
  | .and f => F3.pack 0x0A f
  | .or f => F3.pack 0x0B f
  | .xor f => F3.pack 0x0C f
  | .andn f => F3.pack 0x0D f
  | .shl f => F3.pack 0x0E f
  | .shr f => F3.pack 0x0F f
  | .sra f => F3.pack 0x10 f
  | .rol f => F3.pack 0x11 f
  | .ror f => F3.pack 0x12 f
  | .min f => F3.pack 0x13 f
  | .max f => F3.pack 0x14 f
  | .minn f => F3.pack 0x15 f
  | .maxn f => F3.pack 0x16 f
  | .cmpeq f => F3.pack 0x17 f
  | .cmpne f => F3.pack 0x18 f
  | .cmplt f => F3.pack 0x19 f
  | .cmpltn f => F3.pack 0x1A f
  | .cmple f => F3.pack 0x1B f
  | .cmplen f => F3.pack 0x1C f
  | .clz f => F3.pack 0x1D f
  | .ctz f => F3.pack 0x1E f
  | .popc f => F3.pack 0x1F f
  | .addi f => FI.pack 0x20 f
  | .muli f => FI.pack 0x21 f
  | .andi f => FI.pack 0x22 f
  | .ori f => FI.pack 0x23 f
  | .xori f => FI.pack 0x24 f
  | .shli f => FI.pack 0x25 f
  | .shri f => FI.pack 0x26 f
  | .srai f => FI.pack 0x27 f
  | .cmpeqi f => FI.pack 0x28 f
  | .cmpnei f => FI.pack 0x29 f
  | .cmplti f => FI.pack 0x2A f
  | .cmpltni f => FI.pack 0x2B f
  | .extr f => FI.pack 0x2C f
  | .extrs f => FI.pack 0x2D f
  | .limm f _ => FL.pack 0x2E f
  | .uld f => FI.pack 0x2F f
  | .br f => FB.pack 0x30 f
  | .call f => FB.pack 0x31 f
  | .ret f => FB.pack 0x32 f
  | .loop f => FB.pack 0x33 f
  | .start f => FB.pack 0x34 f
  | .spawn f => FB.pack 0x35 f
  | .yield f => FI.pack 0x36 f
  | .await f => FM.pack 0x37 f
  | .exit f => FI.pack 0x38 f
  | .feed f => FM.pack 0x39 f
  | .jpost f => FJ.pack 0x3A f
  | .remq f => FJ.pack 0x3B f
  | .wait f => FL.pack 0x3C f
  | .sigwait f => FM.pack 0x3D f
  | .gbar f => FI.pack 0x3E f
  | .phase f => FI.pack 0x3F f
  | .xlat f => F3.pack 0x40 f
  | .refresh f => F3.pack 0x41 f
  | .tdrop f => F3.pack 0x42 f
  | .tqueryCtl f => F3.pack 0x43 f
  | .tqueryVbase f => F3.pack 0x43 f
  | .tqueryLen f => F3.pack 0x43 f
  | .tqueryCur f => F3.pack 0x43 f
  | .tqueryGet f => F3.pack 0x43 f
  | .tquerySet f => F3.pack 0x43 f
  | .reqpg f => FM.pack 0x44 f
  | .fence f => FI.pack 0x45 f
  | .sigadd f => FM.pack 0x46 f
  | .sigset f => FM.pack 0x47 f
  | .lds f => FM.pack 0x48 f
  | .sts f => FM.pack 0x49 f
  | .ldacq f => FM.pack 0x4A f
  | .strel f => FM.pack 0x4B f
  | .wback f => FM.pack 0x4C f
  | .inval f => FM.pack 0x4D f
  | .discard f => FM.pack 0x4E f
  | .pref f => FM.pack 0x4F f
  | .aadd f => FX.pack 0x50 f
  | .amin f => FX.pack 0x51 f
  | .amax f => FX.pack 0x52 f
  | .aminn f => FX.pack 0x53 f
  | .amaxn f => FX.pack 0x54 f
  | .aand f => FX.pack 0x55 f
  | .aor f => FX.pack 0x56 f
  | .axor f => FX.pack 0x57 f
  | .aswap f => FX.pack 0x58 f
  | .acas f => FX.pack 0x59 f
  | .bnew f => FI.pack 0x5A f
  | .bjoin f => FM.pack 0x5B f
  | .bseal f => FI.pack 0x5C f
  | .babort f => FI.pack 0x5D f
  | .bviewNow f => FI.pack 0x5E f
  | .bviewSet f => FI.pack 0x5E f
  | .bviewClr f => FI.pack 0x5E f
  | .bcheck f => FI.pack 0x5F f
  | .bcheckCls f => FI.pack 0x5F f
  | .vld f => FM.pack 0x60 f
  | .vlds f => FX.pack 0x61 f
  | .vldx f => FX.pack 0x62 f
  | .ldb f => FM.pack 0x63 f
  | .vst f => FM.pack 0x64 f
  | .vsts f => FX.pack 0x65 f
  | .vstx f => FX.pack 0x66 f
  | .lld f => FM.pack 0x67 f
  | .lst f => FM.pack 0x68 f
  | .vlld f => FM.pack 0x69 f
  | .vlst f => FM.pack 0x6A f
  | .lqput f => F3.pack 0x6B f
  | .sqget f => F3.pack 0x6C f
  | .tchk f => F3.pack 0x6D f
  | .rprobe f => FM.pack 0x6E f
  | .sqdrop f => F3.pack 0x6F f
  | .vadd f => F3.pack 0x70 f
  | .vsub f => F3.pack 0x71 f
  | .vmul f => F3.pack 0x72 f
  | .vdiv f => F3.pack 0x73 f
  | .vsqrt f => F3.pack 0x74 f
  | .vfma f => F3.pack 0x75 f
  | .vfms f => F3.pack 0x76 f
  | .vfnma f => F3.pack 0x77 f
  | .vfnms f => F3.pack 0x78 f
  | .vmin f => F3.pack 0x79 f
  | .vmax f => F3.pack 0x7A f
  | .vabs f => F3.pack 0x7B f
  | .vneg f => F3.pack 0x7C f
  | .vabd f => F3.pack 0x7D f
  | .vrcp f => F3.pack 0x7E f
  | .vrsq f => F3.pack 0x7F f
  | .vexp2 f => F3.pack 0x80 f
  | .vlog2 f => F3.pack 0x81 f
  | .vsin f => F3.pack 0x82 f
  | .vcos f => F3.pack 0x83 f
  | .vtanh f => F3.pack 0x84 f
  | .vsigm f => F3.pack 0x85 f
  | .vscale f => F3.pack 0x86 f
  | .vround f => F3.pack 0x87 f
  | .vclamp f => F3.pack 0x88 f
  | .vsgnj f => F3.pack 0x89 f
  | .vclass f => F3.pack 0x8A f
  | .vcvt f => F3.pack 0x8B f
  | .vdot f => F3.pack 0x8C f
  | .vcmp f => F3.pack 0x8D f
  | .vpadd f => F3.pack 0x8E f
  | .vpack f => F3.pack 0x8F f
  | .vunpack f => F3.pack 0x90 f
  | .vredsum f => F3.pack 0x91 f
  | .vredmax f => F3.pack 0x92 f
  | .vredmin f => F3.pack 0x93 f
  | .vredadd f => F3.pack 0x94 f
  | .vredand f => F3.pack 0x95 f
  | .vredor f => F3.pack 0x96 f
  | .vredxor f => F3.pack 0x97 f
  | .viadd f => F3.pack 0x98 f
  | .visub f => F3.pack 0x99 f
  | .vimul f => F3.pack 0x9A f
  | .vimulh f => F3.pack 0x9B f
  | .vimac f => F3.pack 0x9C f
  | .vand f => F3.pack 0x9D f
  | .vor f => F3.pack 0x9E f
  | .vxor f => F3.pack 0x9F f
  | .vandn f => F3.pack 0xA0 f
  | .vshl f => F3.pack 0xA1 f
  | .vshr f => F3.pack 0xA2 f
  | .vsra f => F3.pack 0xA3 f
  | .vimin f => F3.pack 0xA4 f
  | .vimax f => F3.pack 0xA5 f
  | .viminn f => F3.pack 0xA6 f
  | .vimaxn f => F3.pack 0xA7 f
  | .vicmp f => F3.pack 0xA8 f
  | .viabs f => F3.pack 0xA9 f
  | .vineg f => F3.pack 0xAA f
  | .vpopc f => F3.pack 0xAB f
  | .vclz f => F3.pack 0xAC f
  | .vsel f => F3.pack 0xAD f
  | .vperm f => F3.pack 0xAE f
  | .vshuf f => F3.pack 0xAF f
  | .vbcast f => F3.pack 0xB0 f
  | .vmov f => F3.pack 0xB1 f
  | .vzip f => F3.pack 0xB2 f
  | .vunzip f => F3.pack 0xB3 f
  | .vcompress f => F3.pack 0xB4 f
  | .vexpand f => F3.pack 0xB5 f
  | .vidx f => F3.pack 0xB6 f
  | .vpop f => F3.pack 0xB7 f
  | .vpush f => F3.pack 0xB8 f
  | .mand f => F3.pack 0xB9 f
  | .mor f => F3.pack 0xBA f
  | .mxor f => F3.pack 0xBB f
  | .mandn f => F3.pack 0xBC f
  | .mnot f => F3.pack 0xBD f
  | .mmov f => F3.pack 0xBE f
  | .mset f => F3.pack 0xBF f
  | .mget f => F3.pack 0xC0 f
  | .mcnt f => F3.pack 0xC1 f
  | .ckacc f => F3.pack 0xC2 f
  | .ckchk f => F3.pack 0xC3 f
  | .ckclr f => F3.pack 0xC4 f
  | .ckget f => F3.pack 0xC5 f
  | .mfirst f => F3.pack 0xC6 f
  | .viaddi f => FI.pack 0xC7 f
  | .vshli f => FI.pack 0xC8 f
  | .vshri f => FI.pack 0xC9 f
  | .vsrai f => FI.pack 0xCA f
  | .vext f => FI.pack 0xCB f
  | .vins f => FI.pack 0xCC f
  | .vslide f => FI.pack 0xCD f
  | .vimm f => FI.pack 0xCE f
  | .vlimm f _ => FL.pack 0xCF f
  | .revoke f => F3.pack 0xD0 f
  | .grant f => F3.pack 0xD1 f
  | .tsweep f => F3.pack 0xD2 f
  | .tcflush f => F3.pack 0xD3 f
  | .pgclass f => F3.pack 0xD4 f
  | .ckpt f => FI.pack 0xD5 f
  | .ckroll f => FI.pack 0xD6 f
  | .roleset f => FI.pack 0xD7 f
  | .csrr f => FL.pack 0xD8 f
  | .csrw f => FL.pack 0xD9 f
  | .syscall f => FI.pack 0xDA f
  | .tret f => FI.pack 0xDB f
  | .halt f => FI.pack 0xDC f
  | .ctxsaveKeep f => F3.pack 0xDD f
  | .ctxsaveDrop f => F3.pack 0xDD f
  | .ctxload f => F3.pack 0xDE f
  | .ctxloadEvict f => F3.pack 0xDE f
  | .stest f => FI.pack 0xDF f
  | .shelfput f => F3.pack 0xE0 f
  | .lineFetch _ _ => 0
  | .launchRecord _ _ _ => 0
  | .benchWaitEnd _ => 0
  | .poolSlotWaitEnd _ => 0
  | .feedAppend _ _ _ => 0
  | .feedWake _ => 0
  | .fabricLaunch _ _ => 0
  | .residencyRequest _ _ => 0
  | .pickup _ => 0
  | .effectiveLevelRise _ => 0
  | .spawnReady _ _ => 0
  | .waiterWake _ _ => 0
  | .remqUnblock _ _ => 0
  | .phaseCountArrival _ _ _ _ => 0
  | .barrierCountArrival _ _ _ _ => 0
  | .jobDispatch _ _ => 0
  | .shareGrant _ => 0
  | .shareWaitExpiry _ _ => 0
  | .jobCompletion _ _ => 0
  | .signalUpdateAck _ _ => 0
  | .shadowLoad _ => 0
  | .planeSwap _ => 0
  | .matrixPass _ => 0
  | .retirement _ => 0
  | .copyLine _ => 0
  | .copyLineComplete _ => 0
  | .reduceContribution _ => 0
  | .mcastMemberWrite _ _ => 0
  | .tableFreeze _ _ _ => 0
  | .requestPerform _ _ => 0
  | .xResultLanding _ => 0
  | .translationComplete _ => 0
  | .shootDown _ _ _ => 0
  | .drainComplete _ _ => 0
  | .pinRequest _ => 0
  | .unpinRequest _ => 0
  | .tierMove _ _ _ => 0
  | .migrationLineCopy _ _ _ _ => 0
  | .migrationRetry _ => 0
  | .rds _ _ => 0
  | .rdx _ _ => 0
  | .upg _ _ => 0
  | .wb _ _ => 0
  | .drop _ _ => 0
  | .snoop _ _ _ => 0
  | .readPacket _ => 0
  | .writePacket _ => 0
  | .atomicPacket _ => 0
  | .signalUpdatePacket _ => 0
  | .replyPacket _ => 0
  | .commitNotice _ _ => 0
  | .stampRequest _ _ => 0
  | .stampReceived _ _ => 0
  | .bundleRecordRequest _ => 0
  | .recordFree _ => 0
  | .managementPacket _ => 0
  | .drainMarker _ _ _ => 0
  | .packetForward _ => 0
  | .retransmission _ _ _ => 0
  | .requestUnresolved _ _ _ => 0
  | .dataFlit _ _ _ _ => 0
  | .replay _ _ _ => 0
  | .controlFlit _ _ _ => 0
  | .freedRefresh _ _ => 0
  | .linkOutOfService _ _ => 0
  | .errorWindowEnd _ _ _ _ => 0
  | .flitBoundarySwitch _ _ _ => 0
  | .trainingSuccess _ _ _ _ => 0
  | .trainingAttemptFail _ _ _ => 0
  | .reconfigureFabric _ => 0
  | .reconfigHold => 0
  | .reconfigDrain => 0
  | .reconfigDark => 0
  | .reconfigRelock => 0
  | .relockTimeout => 0
  | .reconfigRoutes _ => 0
  | .reconfigRun => 0
  | .trapDelivery _ => 0
  | .preemption _ _ _ => 0
  | .selfTest _ _ _ => 0
  | .powerLimitChange _ => 0
  | .bootStep _ _ _ => 0
  | .heartbeat => 0
  | .createContext _ => 0
  | .destroyContext _ => 0
  | .installKey _ _ => 0
  | .removeKey _ => 0
  | .loadCompressionTable _ => 0
  | .mapQueue _ => 0
  | .parkQueue _ => 0
  | .unmapQueue _ => 0
  | .queueParkComplete _ => 0
  | .writeRouteEntry _ => 0
  | .attestationReport _ => 0
  | .resetRungQueue _ => 0
  | .resetRungContext _ => 0
  | .resetRungDie _ => 0
  | .resetRungModule => 0
  | .setContextRegister _ => 0
  | .bindSignalWord _ => 0
  | .registerNoticeWord _ => 0
  | .wakeRegisterWrite _ => 0
  | .threadWake _ => 0
  | .deviceRegisterWrite _ _ => 0
  | .tdiConfigWrite _ => 0
  | .unassignedOpcode _ => 0
  | .coreRelease _ => 0
  | .tdispRequest _ _ => 0
  | .hostPortRequest _ => 0
  | .resamplingInterval _ _ => 0

/-- The literal slot of an instruction that takes one; zero for the others (R34, R125). -/
def encodeLiteral : Instr → W64
  | .limm _ lit => lit
  | .vlimm _ lit => lit
  | _ => 0

end Sys2Proof
end

