-- ==== Sys2Proof/Machine/Poison.lean ====
section
/-! DEFINITION. Poison of registers (R402): the registers that each instruction reads, and the late fault that a stream
raises when it has read a poisoned one. The keys that name registers are those of Store. -/

namespace Sys2Proof.Machine

/-- The key of an S register of a stream. Register 0 is none. -/
def sKey (st : Stream) (r : BitVec 7) : Nat := if r = 0 then 0 else regKey st r.toNat
/-- The key of a guard's register. -/
def gKey (st : Stream) (g : Guard) : Nat := if g.gr = 0 then 0 else regKey st g.gr.toNat
/-- The key of a k register. -/
def kKey (r : BitVec 7) : Nat := 96 + r.toNat
/-- The key of a vector register. -/
def vKey (r : BitVec 7) : Nat := 128 + r.toNat
/-- The key of a source of class VB: a vector register, or a broadcast S register of X. -/
def vbKey (r : BitVec 7) : Nat := if r.toNat < 64 then 128 + r.toNat else sKey .x (r - 64)
/-- The key of a mask register. -/
def mKey (r : BitVec 7) : Nat := 192 + r.toNat
/-- The key of a checksum register. -/
def ckKey (r : BitVec 7) : Nat := 200 + r.toNat

/-- The guard of an instruction of a stream, and the registers that it reads when the guard is satisfied (R402, R240).
Key 0 is none.
Log 21: DEDUCED, unsafe. -/
def regReads (st : Stream) : Instr → Guard × List Nat
  | .add f => (f.g, [sKey st f.s1, sKey st f.s2])
  | .sub f => (f.g, [sKey st f.s1, sKey st f.s2])
  | .mul f => (f.g, [sKey st f.s1, sKey st f.s2])
  | .mulh f => (f.g, [sKey st f.s1, sKey st f.s2])
  | .mulhn f => (f.g, [sKey st f.s1, sKey st f.s2])
  | .div f => (f.g, [sKey st f.s1, sKey st f.s2])
  | .divn f => (f.g, [sKey st f.s1, sKey st f.s2])
  | .rem f => (f.g, [sKey st f.s1, sKey st f.s2])
  | .remn f => (f.g, [sKey st f.s1, sKey st f.s2])
  | .and f => (f.g, [sKey st f.s1, sKey st f.s2])
  | .or f => (f.g, [sKey st f.s1, sKey st f.s2])
  | .xor f => (f.g, [sKey st f.s1, sKey st f.s2])
  | .andn f => (f.g, [sKey st f.s1, sKey st f.s2])
  | .shl f => (f.g, [sKey st f.s1, sKey st f.s2])
  | .shr f => (f.g, [sKey st f.s1, sKey st f.s2])
  | .sra f => (f.g, [sKey st f.s1, sKey st f.s2])
  | .rol f => (f.g, [sKey st f.s1, sKey st f.s2])
  | .ror f => (f.g, [sKey st f.s1, sKey st f.s2])
  | .min f => (f.g, [sKey st f.s1, sKey st f.s2])
  | .max f => (f.g, [sKey st f.s1, sKey st f.s2])
  | .minn f => (f.g, [sKey st f.s1, sKey st f.s2])
  | .maxn f => (f.g, [sKey st f.s1, sKey st f.s2])
  | .cmpeq f => (f.g, [sKey st f.s1, sKey st f.s2])
  | .cmpne f => (f.g, [sKey st f.s1, sKey st f.s2])
  | .cmplt f => (f.g, [sKey st f.s1, sKey st f.s2])
  | .cmpltn f => (f.g, [sKey st f.s1, sKey st f.s2])
  | .cmple f => (f.g, [sKey st f.s1, sKey st f.s2])
  | .cmplen f => (f.g, [sKey st f.s1, sKey st f.s2])
  | .clz f => (f.g, [sKey st f.s1])
  | .ctz f => (f.g, [sKey st f.s1])
  | .popc f => (f.g, [sKey st f.s1])
  | .addi f => (f.g, [sKey st f.s1])
  | .muli f => (f.g, [sKey st f.s1])
  | .andi f => (f.g, [sKey st f.s1])
  | .ori f => (f.g, [sKey st f.s1])
  | .xori f => (f.g, [sKey st f.s1])
  | .shli f => (f.g, [sKey st f.s1])
  | .shri f => (f.g, [sKey st f.s1])
  | .srai f => (f.g, [sKey st f.s1])
  | .cmpeqi f => (f.g, [sKey st f.s1])
  | .cmpnei f => (f.g, [sKey st f.s1])
  | .cmplti f => (f.g, [sKey st f.s1])
  | .cmpltni f => (f.g, [sKey st f.s1])
  | .extr f => (f.g, [sKey st f.s1])
  | .extrs f => (f.g, [sKey st f.s1])
  | .limm f _ => (f.g, [])
  | .uld f => (f.g, [sKey st f.s1])
  | .br f => (f.g, [(if f.ind then sKey st f.s1 else 0)])
  | .call f => (f.g, [(if f.ind then sKey st f.s1 else 0)])
  | .ret f => (f.g, [(if f.ind then sKey st f.s1 else 0)])
  | .loop f => (f.g, [sKey st f.d])
  | .start f => (f.g, [(if f.ind then sKey st f.s1 else 0)])
  | .spawn f => (f.g, [(if f.ind then sKey st f.s1 else 0), sKey st f.d])
  | .yield f => (f.g, [])
  | .await f => (f.g, [kKey f.s1, sKey st f.s2, sKey st f.d])
  | .exit f => (f.g, [])
  | .feed f => (f.g, [kKey f.s1, sKey st f.s2])
  | .jpost f => (f.g, [sKey st f.s1, sKey st f.s2, 96 + f.k.toNat])
  | .remq f => (f.g, [sKey st f.s1, sKey st f.s2, 96 + f.k.toNat, sKey st f.d])
  | .wait f => (f.g, [])
  | .sigwait f => (f.g, [kKey f.s1, sKey st f.s2, sKey st f.d])
  | .gbar f => (f.g, [])
  | .phase f => (f.g, [])
  | .xlat f => (f.g, [sKey st f.s1, sKey st f.s2])
  | .refresh f => (f.g, [96 + f.fmt.toNat])
  | .tdrop f => (f.g, [96 + f.fmt.toNat])
  | .tqueryCtl f => (f.g, [96 + f.fmt.toNat])
  | .tqueryVbase f => (f.g, [96 + f.fmt.toNat])
  | .tqueryLen f => (f.g, [96 + f.fmt.toNat])
  | .tqueryCur f => (f.g, [96 + f.fmt.toNat])
  | .tqueryGet f => (f.g, [96 + f.fmt.toNat])
  | .tquerySet f => (f.g, [sKey st f.d])
  | .reqpg f => (f.g, [kKey f.s1, sKey st f.s2, sKey st f.d])
  | .fence f => (f.g, [])
  | .sigadd f => (f.g, [kKey f.s1, sKey st f.s2, sKey st f.d])
  | .sigset f => (f.g, [kKey f.s1, sKey st f.s2, sKey st f.d])
  | .lds f => (f.g, [(if f.hint = 3 then 0 else kKey f.s1), sKey st f.s2])
  | .sts f => (f.g, [(if f.hint = 3 then 0 else kKey f.s1), sKey st f.s2, sKey st f.d])
  | .ldacq f => (f.g, [kKey f.s1, sKey st f.s2])
  | .strel f => (f.g, [kKey f.s1, sKey st f.s2, sKey st f.d])
  | .wback f => (f.g, [kKey f.s1, sKey st f.s2])
  | .inval f => (f.g, [kKey f.s1, sKey st f.s2])
  | .discard f => (f.g, [kKey f.s1, sKey st f.s2])
  | .pref f => (f.g, [kKey f.s1, sKey st f.s2])
  | .aadd f => (f.g, [kKey f.s1, sKey st f.s2, sKey st f.x])
  | .amin f => (f.g, [kKey f.s1, sKey st f.s2, sKey st f.x])
  | .amax f => (f.g, [kKey f.s1, sKey st f.s2, sKey st f.x])
  | .aminn f => (f.g, [kKey f.s1, sKey st f.s2, sKey st f.x])
  | .amaxn f => (f.g, [kKey f.s1, sKey st f.s2, sKey st f.x])
  | .aand f => (f.g, [kKey f.s1, sKey st f.s2, sKey st f.x])
  | .aor f => (f.g, [kKey f.s1, sKey st f.s2, sKey st f.x])
  | .axor f => (f.g, [kKey f.s1, sKey st f.s2, sKey st f.x])
  | .aswap f => (f.g, [kKey f.s1, sKey st f.s2, sKey st f.x])
  | .acas f => (f.g, [kKey f.s1, sKey st f.s2, sKey st f.x, sKey st f.d])
  | .bnew f => (f.g, [sKey st f.s1])
  | .bjoin f => (f.g, [kKey f.s1, sKey st f.s2, sKey st f.d])
  | .bseal f => (f.g, [])
  | .babort f => (f.g, [])
  | .bviewNow f => (f.g, [sKey st f.s1])
  | .bviewSet f => (f.g, [sKey st f.s1])
  | .bviewClr f => (f.g, [sKey st f.s1])
  | .bcheck f => (f.g, [sKey st f.s1])
  | .bcheckCls f => (f.g, [])
  | .vld f => (f.g, [kKey f.s1, sKey st f.s2])
  | .vlds f => (f.g, [kKey f.s1, sKey st f.s2, sKey st f.x])
  | .vldx f => (f.g, [kKey f.s1, sKey st f.s2])
  | .ldb f => (f.g, [kKey f.s1, sKey st f.s2])
  | .vst f => (f.g, [kKey f.s1, sKey st f.s2])
  | .vsts f => (f.g, [kKey f.s1, sKey st f.s2, sKey st f.x])
  | .vstx f => (f.g, [kKey f.s1, sKey st f.s2])
  | .lld f => (f.g, [sKey st f.s2])
  | .lst f => (f.g, [sKey st f.s2])
  | .vlld f => (f.g, [sKey st f.s2])
  | .vlst f => (f.g, [sKey st f.s2])
  | .lqput f => (f.g, [sKey st f.s1])
  | .sqget f => (f.g, [sKey st f.s2])
  | .tchk f => (f.g, [sKey st f.s1, sKey st f.s2, 96 + f.fmt.toNat])
  | .rprobe f => (f.g, [kKey f.s1, sKey st f.s2])
  | .sqdrop f => (f.g, [])
  | .vadd f => (f.g, [vbKey f.s1, vbKey f.s2, 192 + f.mask.toNat])
  | .vsub f => (f.g, [vbKey f.s1, vbKey f.s2, 192 + f.mask.toNat])
  | .vmul f => (f.g, [vbKey f.s1, vbKey f.s2, 192 + f.mask.toNat])
  | .vdiv f => (f.g, [vbKey f.s1, vbKey f.s2, 192 + f.mask.toNat])
  | .vsqrt f => (f.g, [vKey f.s1, 192 + f.mask.toNat])
  | .vfma f => (f.g, [vbKey f.s1, vbKey f.s2, vKey f.d, 192 + f.mask.toNat])
  | .vfms f => (f.g, [vbKey f.s1, vbKey f.s2, vKey f.d, 192 + f.mask.toNat])
  | .vfnma f => (f.g, [vbKey f.s1, vbKey f.s2, vKey f.d, 192 + f.mask.toNat])
  | .vfnms f => (f.g, [vbKey f.s1, vbKey f.s2, vKey f.d, 192 + f.mask.toNat])
  | .vmin f => (f.g, [vbKey f.s1, vbKey f.s2, 192 + f.mask.toNat])
  | .vmax f => (f.g, [vbKey f.s1, vbKey f.s2, 192 + f.mask.toNat])
  | .vabs f => (f.g, [vKey f.s1, 192 + f.mask.toNat])
  | .vneg f => (f.g, [vKey f.s1, 192 + f.mask.toNat])
  | .vabd f => (f.g, [vbKey f.s1, vbKey f.s2, 192 + f.mask.toNat])
  | .vrcp f => (f.g, [vKey f.s1, 192 + f.mask.toNat])
  | .vrsq f => (f.g, [vKey f.s1, 192 + f.mask.toNat])
  | .vexp2 f => (f.g, [vKey f.s1, 192 + f.mask.toNat])
  | .vlog2 f => (f.g, [vKey f.s1, 192 + f.mask.toNat])
  | .vsin f => (f.g, [vKey f.s1, 192 + f.mask.toNat])
  | .vcos f => (f.g, [vKey f.s1, 192 + f.mask.toNat])
  | .vtanh f => (f.g, [vKey f.s1, 192 + f.mask.toNat])
  | .vsigm f => (f.g, [vKey f.s1, 192 + f.mask.toNat])
  | .vscale f => (f.g, [vbKey f.s1, vbKey f.s2, 192 + f.mask.toNat])
  | .vround f => (f.g, [vKey f.s1, 192 + f.mask.toNat])
  | .vclamp f => (f.g, [vbKey f.s1, vbKey f.s2, vKey f.d, 192 + f.mask.toNat])
  | .vsgnj f => (f.g, [vKey f.s1, vKey f.s2, 192 + f.mask.toNat])
  | .vclass f => (f.g, [vKey f.s1, 192 + f.mask.toNat])
  | .vcvt f => (f.g, [vKey f.s1, 192 + f.mask.toNat])
  | .vdot f => (f.g, [vbKey f.s1, vbKey f.s2, vKey f.d, 192 + f.mask.toNat])
  | .vcmp f => (f.g, [vbKey f.s1, vbKey f.s2, 192 + f.mask.toNat])
  | .vpadd f => (f.g, [vKey f.s1, vKey f.s2, 192 + f.mask.toNat])
  | .vpack f => (f.g, [vKey f.s1, vKey f.s2, 192 + f.mask.toNat])
  | .vunpack f => (f.g, [vKey f.s1, 192 + f.mask.toNat])
  | .vredsum f => (f.g, [vKey f.s1, 192 + f.mask.toNat])
  | .vredmax f => (f.g, [vKey f.s1, 192 + f.mask.toNat])
  | .vredmin f => (f.g, [vKey f.s1, 192 + f.mask.toNat])
  | .vredadd f => (f.g, [vKey f.s1, 192 + f.mask.toNat])
  | .vredand f => (f.g, [vKey f.s1, 192 + f.mask.toNat])
  | .vredor f => (f.g, [vKey f.s1, 192 + f.mask.toNat])
  | .vredxor f => (f.g, [vKey f.s1, 192 + f.mask.toNat])
  | .viadd f => (f.g, [vbKey f.s1, vbKey f.s2, 192 + f.mask.toNat])
  | .visub f => (f.g, [vbKey f.s1, vbKey f.s2, 192 + f.mask.toNat])
  | .vimul f => (f.g, [vbKey f.s1, vbKey f.s2, 192 + f.mask.toNat])
  | .vimac f => (f.g, [vbKey f.s1, vbKey f.s2, vKey f.d, 192 + f.mask.toNat])
  | .vimulh f => (f.g, [vbKey f.s1, vbKey f.s2, 192 + f.mask.toNat])
  | .vand f => (f.g, [vbKey f.s1, vbKey f.s2, 192 + f.mask.toNat])
  | .vor f => (f.g, [vbKey f.s1, vbKey f.s2, 192 + f.mask.toNat])
  | .vxor f => (f.g, [vbKey f.s1, vbKey f.s2, 192 + f.mask.toNat])
  | .vandn f => (f.g, [vbKey f.s1, vbKey f.s2, 192 + f.mask.toNat])
  | .vshl f => (f.g, [vKey f.s1, vbKey f.s2, 192 + f.mask.toNat])
  | .vshr f => (f.g, [vKey f.s1, vbKey f.s2, 192 + f.mask.toNat])
  | .vsra f => (f.g, [vKey f.s1, vbKey f.s2, 192 + f.mask.toNat])
  | .vimin f => (f.g, [vbKey f.s1, vbKey f.s2, 192 + f.mask.toNat])
  | .vimax f => (f.g, [vbKey f.s1, vbKey f.s2, 192 + f.mask.toNat])
  | .viminn f => (f.g, [vbKey f.s1, vbKey f.s2, 192 + f.mask.toNat])
  | .vimaxn f => (f.g, [vbKey f.s1, vbKey f.s2, 192 + f.mask.toNat])
  | .vicmp f => (f.g, [vbKey f.s1, vbKey f.s2, 192 + f.mask.toNat])
  | .viabs f => (f.g, [vKey f.s1, 192 + f.mask.toNat])
  | .vineg f => (f.g, [vKey f.s1, 192 + f.mask.toNat])
  | .vpopc f => (f.g, [vKey f.s1, 192 + f.mask.toNat])
  | .vclz f => (f.g, [vKey f.s1, 192 + f.mask.toNat])
  | .vsel f => (f.g, [vKey f.s1, vKey f.s2, 192 + f.mask.toNat])
  | .vperm f => (f.g, [vKey f.s1, vKey f.s2, 192 + f.mask.toNat])
  | .vshuf f => (f.g, [vKey f.s1, 192 + f.mask.toNat])
  | .vbcast f => (f.g, [vKey f.s1, sKey st f.s2, 192 + f.mask.toNat])
  | .vmov f => (f.g, [vKey f.s1, 192 + f.mask.toNat])
  | .vzip f => (f.g, [vKey f.s1, vKey f.s2, 192 + f.mask.toNat])
  | .vunzip f => (f.g, [vKey f.s1, vKey f.s2, 192 + f.mask.toNat])
  | .vcompress f => (f.g, [vKey f.s1, 192 + f.mask.toNat])
  | .vexpand f => (f.g, [vKey f.s1, 192 + f.mask.toNat])
  | .vidx f => (f.g, [192 + f.mask.toNat])
  | .vpop f => (f.g, [])
  | .vpush f => (f.g, [vKey f.s1, 192 + f.mask.toNat])
  | .mand f => (f.g, [mKey f.s1, mKey f.s2])
  | .mor f => (f.g, [mKey f.s1, mKey f.s2])
  | .mxor f => (f.g, [mKey f.s1, mKey f.s2])
  | .mandn f => (f.g, [mKey f.s1, mKey f.s2])
  | .mnot f => (f.g, [mKey f.s1])
  | .mmov f => (f.g, [mKey f.s1])
  | .mset f => (f.g, [sKey st f.s1])
  | .mget f => (f.g, [mKey f.s1])
  | .mcnt f => (f.g, [mKey f.s1])
  | .ckacc f => (f.g, [vKey f.s1, 192 + f.mask.toNat])
  | .ckchk f => (f.g, [ckKey f.s1, ckKey f.s2])
  | .ckclr f => (f.g, [])
  | .ckget f => (f.g, [ckKey f.s1])
  | .mfirst f => (f.g, [mKey f.s1])
  | .viaddi f => (f.g, [vKey f.s1])
  | .vshli f => (f.g, [vKey f.s1])
  | .vshri f => (f.g, [vKey f.s1])
  | .vsrai f => (f.g, [vKey f.s1])
  | .vext f => (f.g, [vKey f.s1])
  | .vins f => (f.g, [sKey st f.s1])
  | .vslide f => (f.g, [vKey f.s1])
  | .vimm f => (f.g, [])
  | .vlimm f _ => (f.g, [])
  | .revoke f => (f.g, [sKey st f.s1, kKey f.s2, sKey st f.d])
  | .grant f => (f.g, [sKey st f.s1, kKey f.s2])
  | .tsweep f => (f.g, [sKey st f.s1])
  | .tcflush f => (f.g, [sKey st f.s1])
  | .pgclass f => (f.g, [sKey st f.s1, sKey st f.d])
  | .ckpt f => (f.g, [sKey st f.s1])
  | .ckroll f => (f.g, [sKey st f.s1])
  | .roleset f => (f.g, [sKey st f.s1])
  | .csrr f => (f.g, [])
  | .csrw f => (f.g, [sKey st f.d])
  | .syscall f => (f.g, [])
  | .tret f => (f.g, [])
  | .halt f => (f.g, [])
  | .ctxsaveKeep f => (f.g, [sKey st f.s1, kKey f.s2, sKey st f.d])
  | .ctxsaveDrop f => (f.g, [sKey st f.s1, kKey f.s2, sKey st f.d])
  | .ctxload f => (f.g, [sKey st f.s1, kKey f.s2, sKey st f.d])
  | .ctxloadEvict f => (f.g, [sKey st f.s1, kKey f.s2, sKey st f.d])
  | .stest f => (f.g, [])
  | .shelfput f => (f.g, [sKey st f.s1, kKey f.s2, sKey st f.d])
  | _ => (⟨true, 0, 0⟩, [])

/-- The instruction of the issuing stream has left its slot: `s` is the state before it and `t` the one after. An
instruction that stalls, or that traps, has not. -/
def leftSlot (i : Instr) (s t : State) : Bool :=
  let u := (t.coreAt s.core)
  let v := u.stream s.str
  u.mode == .running && u.cont.th == s.cur.cont.th && !(u.pend s.str).isSome &&
    (v.pc != (s.cur.stream s.str).pc || (match i with
      | .br _ => true
      | .loop _ => true
      | _ => false))

/-- What follows an instruction that has read a poisoned register: a late POISON fault of its stream (R402, R240).
Log 21: DEDUCED, unsafe. -/
def State.consumed (i : Instr) (s t : State) : State :=
  let (g, l) := regReads s.str i
  let l := gKey s.str g :: (if s.guardHolds g then l else [])
  let bad := l.any fun k => k != 0 && s.cur.regPoison.contains k
  if bad && leftSlot i s t then
    t.raiseAt s.core s.str { code := cPoison, kind := 2, epc := some (s.cur.stream s.str).pc }
  else t

end Sys2Proof.Machine
end

