-- ==== Sys2Proof/Machine/Issue.lean ====
section
/-! DEFINITION. What a stream does in its turn (R30, R33, R34, R118): its current slot as it reads it from
its copy of its line, the literal rules, and what it waits for. -/

namespace Sys2Proof.Machine

open Host (Outcome)

/-- The 64-bit slot that a PC names in a line (R25). -/
def slotWord (line : BitVec 512) (pc : W64) : W64 := line.extractLsb' (8 * (pc.toNat % 64)) 64

/-- The slot number of a PC: its bits [5:3] minus one. -/
def slotOf (pc : W64) : Nat := pc.toNat / 8 % 8 - 1

/-- Slot `i` of a line holds a literal (R27). -/
def literalBit (line : BitVec 512) (i : Nat) : Bool := line.getLsbD (32 + 18 + i)

/-- Slot `i` of a line carries a static mark (R27). -/
def staticBit (line : BitVec 512) (i : Nat) : Bool := line.getLsbD (32 + 25 + i)

/-- The literal that follows a slot; zero after slot 6. -/
def literalOf (line : BitVec 512) (pc : W64) : W64 :=
  if slotOf pc < 6 then slotWord line (pc + 8) else 0

/-- A rule of R34 is broken at a slot. -/
def literalBroken (line : BitVec 512) (pc : W64) : Bool :=
  let i := slotOf pc
  literalBit line i ||
    (takesLiteral (slotWord line pc) && (i == 6 || !literalBit line (i + 1) || staticBit line (i + 1)))

/-- What a stream does in its turn. -/
inductive Turn where
  | idle
  | land
  | fetch
  | badPc
  | illegal (order : Nat)
  | run (i : Instr)
  deriving DecidableEq, Repr

/-- The TDI of a context is in ERROR: the context does not issue (R409).
Log 71: DEDUCED, unsafe. -/
def State.tdiStopped (s : State) (ctx : Nat) : Bool :=
  SMap.get .configUnlocked s.mgmt.tdis (s.ctxAt ctx).tdi = .error

/-- A request of A has stopped: A issues nothing further (R191). -/
def Core.stoppedA (c : Core) : Bool := c.reqs.any fun r => r.str = .a && r.stop.isSome

/-- The d field of an instruction word (R115). -/
def dField (w : W64) : BitVec 7 := w.extractLsb' 37 7

/-- The instruction names a register of its stream that an earlier request of the stream is still to write (R133, R194):
the stream waits for it. -/
def Core.interlocked (c : Core) (st : Stream) (w : W64) (i : Instr) : Bool :=
  let (g, l) := regReads st i
  c.reqs.any fun r => r.str = st && (match memOpOf r.instr with
    | some op => op.kind.writesD && (let k := sKey st (BitVec.ofNat 7 op.d); k != 0 && (gKey st g :: sKey st (dField w) :: l).contains k)
    | none => false)

/-- The instructions of C that wait for the requests that C has issued past: those that act on a job, a record, a bundle,
an entry, a mode or the continuation itself, and those whose access follows every earlier one.
Log 18: DEDUCED, unsafe. -/
def joins : Instr → Bool
  | .start _ | .spawn _ | .yield _ | .await _ | .sigwait _ | .exit _ | .feed _ | .jpost _ | .remq _ | .gbar _ | .xlat _
  | .refresh _ | .tdrop _ | .reqpg _ | .bnew _ | .bjoin _ | .bseal _ | .babort _ | .bviewNow _ | .bviewSet _
  | .bviewClr _ | .bcheck _ | .bcheckCls _ | .revoke _ | .grant _ | .tsweep _ | .tcflush _ | .pgclass _ | .ckpt _
  | .ckroll _ | .roleset _ | .csrw _ | .ctxsaveKeep _ | .ctxsaveDrop _ | .ctxload _ | .ctxloadEvict _ | .stest _
  | .shelfput _ => true
  | _ => false

/-- A stream does not issue yet: a register that the instruction names is still to be written, or the instruction waits
for the requests of C.
Log 18: DEDUCED, unsafe. -/
def Core.mustWait (c : Core) (st : Stream) (w : W64) (i : Instr) : Bool :=
  c.interlocked st w i || (st = .c && joins i && c.reqs.any fun r => r.str = .c && !r.kept)

/-- The guard of an instruction names a register that an earlier request of its stream is still to write. -/
def Core.guardWaits (c : Core) (st : Stream) (i : Instr) : Bool :=
  c.reqs.any fun r => r.str = st && (match memOpOf r.instr with
    | some op => op.kind.writesD && (let k := sKey st (BitVec.ofNat 7 op.d); k != 0 && gKey st (regReads st i).1 == k)
    | none => false)

/-- An instruction waits before it issues: for the register of its guard, and when its guard holds for what it needs
itself. One whose guard is not satisfied reads no other operand and stalls on no counter (R117). -/
def State.waitsToIssue (s : State) (w : W64) (i : Instr) : Bool :=
  s.cur.guardWaits s.str i || (s.guardHolds (regReads s.str i).1 && s.cur.mustWait s.str w i)

/-- What the issuing stream does in its turn: nothing when its core does not run, when it is frozen or waits
for an answer; otherwise it fetches, or issues the slot of its PC after the checks of R118. -/
def State.turnOf (s : State) : Turn :=
  let c := s.cur
  let st := s.str
  let v := c.stream st
  if c.mode ≠ .running ∨ s.tdiStopped c.ctx ∨ c.saving.isSome ∨ (st ≠ .c ∧ c.cont.th) ∨ v.awaiting.isSome then .idle
  else if st = .c ∧ (c.cwait ≠ .none ∨ s.homes.feedSleepers.any fun p => p.1 = s.core) then .idle
  else if st ≠ .c ∧ c.firstPending.isSome then .idle
  else if st = .a ∧ c.stoppedA then .idle
  else if st = .x ∧ c.inflight.any fun f => f.remaining = 0 then .land
  else if v.fell then .fetch
  else if !namesSlot v.pc then .badPc
  else match v.line with
    | none => .fetch
    | some line =>
      match issueCheck st (literalBroken line v.pc) (slotWord line v.pc) (literalOf line v.pc) with
      | .ok i => if s.waitsToIssue (slotWord line v.pc) i then .idle else .run i
      | .error k => .illegal k

/-- What follows the issue of an instruction of C: the requests that were outstanding when it issued, which C has now issued
past (R194). `s` is the state before the instruction and `t` the one after. -/
def State.issuedPast (i : Instr) (s t : State) : State :=
  if s.str = .c ∧ (s.cur.reqs.any fun r => r.str = .c) ∧ (leftSlot i s t ∨ (t.coreAt s.core).cwait ≠ .none) then
    t.modCore s.core fun c => { c with reqs := c.reqs.map fun r =>
      if r.str = .c ∧ (s.cur.reqs.any fun q => q.num = r.num) then { r with past := true } else r }
  else t

/-- What follows an instruction that has run: the requests that C has issued past, and the poison that it has read. -/
def State.afterIssue (i : Instr) (s t : State) : State := State.consumed i s (State.issuedPast i s t)

/-- UNASSIGNED_OPCODE (R118, R132): the issuing stream raises ILLEGAL at its slot; sys.cause names the check
that failed.
Log 17: DEDUCED, unsafe. -/
def execUnassignedOpcode (order : Nat) (s : State) : Outcome State Fault Refusal :=
  .next (s.raise { code := cIllegal, info := order })

/-- A stream whose PC names no slot raises ILLEGAL there (R25).
Log 16: DEDUCED, safe. -/
def State.badPc (s : State) : State := s.raise { code := cIllegal }

end Sys2Proof.Machine
end

