-- ==== Sys2Proof/Machine/Bench.lean ====
section
/-! DEFINITION. The Bench (R89 to R92, R95): the partial evaluation of a code image into residual code, and the
reasons for which it declines. The residual lines stand in this order: for each C and A chain head in ascending
line order the version of the head, then the versions that it leads to, each from a new line; then the X
lines. -/

namespace Sys2Proof.Machine

open Host (Outcome)

/-! ### What an instruction is to the Bench -/

/-- A code image: its lines from address 0. -/
abbrev Image := List (BitVec 512)

/-- The stream field of a line (R26). -/
def lineStream (l : BitVec 512) : Nat := (l.extractLsb' 29 3).toNat
/-- The next field of a line, in lines (R26). -/
def lineNext (l : BitVec 512) : Int := (l.extractLsb' 0 24).toInt

/-- Line `i` of an image. -/
def Image.line (m : Image) (i : Nat) : BitVec 512 := m.getD i 0

/-- The code lines of an image (R29). -/
def Image.codeLines (m : Image) : Nat := (m.filter fun l => lineStream l ≤ 2).length

/-- A line is the first of a chain: no line of its stream reaches it through its next field (R89). -/
def Image.isHead (m : Image) (i : Nat) : Bool :=
  !(m.zipIdx.any fun p => lineStream p.1 = lineStream (m.line i) && lineNext p.1 ≠ 0 &&
    (p.2 : Int) + lineNext p.1 = (i : Int))

/-- The PC of slot 0 of line `i`. -/
def headPc (i : Nat) : Nat := 64 * i + 8

/-- A PC is the first slot of a chain head of a stream (R89). -/
def Image.headAt (m : Image) (st : Stream) (pc : Nat) : Bool :=
  pc % 64 = 8 && pc / 64 < m.length && lineStream (m.line (pc / 64)) = streamCode st && m.isHead (pc / 64)

/-- The integer forms: their sources, guard, destination and meaning. -/
def intInfo : Instr → Option (List (BitVec 7) × Guard × BitVec 7 × (State → Outcome State Fault Refusal))
  | .add f => some ([f.s1, f.s2], f.g, f.d, execAdd f)
  | .sub f => some ([f.s1, f.s2], f.g, f.d, execSub f)
  | .mul f => some ([f.s1, f.s2], f.g, f.d, execMul f)
  | .mulh f => some ([f.s1, f.s2], f.g, f.d, execMulh f)
  | .mulhn f => some ([f.s1, f.s2], f.g, f.d, execMulhn f)
  | .div f => some ([f.s1, f.s2], f.g, f.d, execDiv f)
  | .divn f => some ([f.s1, f.s2], f.g, f.d, execDivn f)
  | .rem f => some ([f.s1, f.s2], f.g, f.d, execRem f)
  | .remn f => some ([f.s1, f.s2], f.g, f.d, execRemn f)
  | .and f => some ([f.s1, f.s2], f.g, f.d, execAnd f)
  | .or f => some ([f.s1, f.s2], f.g, f.d, execOr f)
  | .xor f => some ([f.s1, f.s2], f.g, f.d, execXor f)
  | .andn f => some ([f.s1, f.s2], f.g, f.d, execAndn f)
  | .shl f => some ([f.s1, f.s2], f.g, f.d, execShl f)
  | .shr f => some ([f.s1, f.s2], f.g, f.d, execShr f)
  | .sra f => some ([f.s1, f.s2], f.g, f.d, execSra f)
  | .rol f => some ([f.s1, f.s2], f.g, f.d, execRol f)
  | .ror f => some ([f.s1, f.s2], f.g, f.d, execRor f)
  | .min f => some ([f.s1, f.s2], f.g, f.d, execMin f)
  | .max f => some ([f.s1, f.s2], f.g, f.d, execMax f)
  | .minn f => some ([f.s1, f.s2], f.g, f.d, execMinn f)
  | .maxn f => some ([f.s1, f.s2], f.g, f.d, execMaxn f)
  | .cmpeq f => some ([f.s1, f.s2], f.g, f.d, execCmpeq f)
  | .cmpne f => some ([f.s1, f.s2], f.g, f.d, execCmpne f)
  | .cmplt f => some ([f.s1, f.s2], f.g, f.d, execCmplt f)
  | .cmpltn f => some ([f.s1, f.s2], f.g, f.d, execCmpltn f)
  | .cmple f => some ([f.s1, f.s2], f.g, f.d, execCmple f)
  | .cmplen f => some ([f.s1, f.s2], f.g, f.d, execCmplen f)
  | .clz f => some ([f.s1, f.s2], f.g, f.d, execClz f)
  | .ctz f => some ([f.s1, f.s2], f.g, f.d, execCtz f)
  | .popc f => some ([f.s1, f.s2], f.g, f.d, execPopc f)
  | .addi f => some ([f.s1], f.g, f.d, execAddi f)
  | .muli f => some ([f.s1], f.g, f.d, execMuli f)
  | .andi f => some ([f.s1], f.g, f.d, execAndi f)
  | .ori f => some ([f.s1], f.g, f.d, execOri f)
  | .xori f => some ([f.s1], f.g, f.d, execXori f)
  | .shli f => some ([f.s1], f.g, f.d, execShli f)
  | .shri f => some ([f.s1], f.g, f.d, execShri f)
  | .srai f => some ([f.s1], f.g, f.d, execSrai f)
  | .cmpeqi f => some ([f.s1], f.g, f.d, execCmpeqi f)
  | .cmpnei f => some ([f.s1], f.g, f.d, execCmpnei f)
  | .cmplti f => some ([f.s1], f.g, f.d, execCmplti f)
  | .cmpltni f => some ([f.s1], f.g, f.d, execCmpltni f)
  | .extr f => some ([f.s1], f.g, f.d, execExtr f)
  | .extrs f => some ([f.s1], f.g, f.d, execExtrs f)
  | _ => none

/-- The S register that a form other than those of `intInfo` writes. -/
def otherDest : Instr → Option (BitVec 7)
  | .limm f _ => some f.d
  | .feed f => some f.d
  | .gbar f => some f.d
  | .phase f => some f.d
  | .xlat f => some f.d
  | .refresh f => some f.d
  | .tdrop f => some f.d
  | .tqueryCtl f => some f.d
  | .tqueryVbase f => some f.d
  | .tqueryLen f => some f.d
  | .tqueryCur f => some f.d
  | .tqueryGet f => some f.d
  | .lds f => some f.d
  | .ldacq f => some f.d
  | .aadd f => some f.d
  | .amin f => some f.d
  | .amax f => some f.d
  | .aminn f => some f.d
  | .amaxn f => some f.d
  | .aand f => some f.d
  | .aor f => some f.d
  | .axor f => some f.d
  | .aswap f => some f.d
  | .acas f => some f.d
  | .bnew f => some f.d
  | .bseal f => some f.d
  | .bviewNow f => some f.d
  | .bviewSet f => some f.d
  | .bviewClr f => some f.d
  | .bcheck f => some f.d
  | .bcheckCls f => some f.d
  | .sqget f => some f.d
  | .tchk f => some f.d
  | .rprobe f => some f.d
  | .grant f => some f.d
  | .tsweep f => some f.d
  | .ckpt f => some f.d
  | .ckroll f => some f.d
  | .csrr f => some f.d
  | .ctxsaveKeep f => some f.d
  | .ctxsaveDrop f => some f.d
  | .ctxload f => some f.d
  | .ctxloadEvict f => some f.d
  | .stest f => some f.d
  | .shelfput f => some f.d
  | .uld f => some f.d
  | .call f => some f.d
  | .loop f => some f.d
  | .sigwait f => some f.d
  | .await f => some f.d
  | _ => none

/-- The S register that a C or A instruction writes. -/
def scalarDest (i : Instr) : Option (BitVec 7) :=
  match intInfo i with
  | some (_, _, d, _) => some d
  | none => otherDest i

/-- The guard is always satisfied (R39). -/
def guardAlways (g : Guard) : Bool := g.gs && g.gr = 0 && g.gb = 0

/-- An always-guarded instruction after which a chain does not go on to the next slot. -/
def endsWalk : Instr → Bool
  | .br f => guardAlways f.g
  | .ret f => guardAlways f.g
  | .exit f => guardAlways f.g
  | .tret f => guardAlways f.g
  | .wait f => guardAlways f.g && f.imm.getLsbD 25
  | _ => false

/-- An instruction that may carry a static mark in a stream (R90). -/
def mayBeStatic (st : Stream) (i : Instr) : Bool :=
  match st, i with
  | .x, _ => false
  | _, .limm _ _ => true
  | _, .uld _ => true
  | .c, .br f => !f.ind
  | .c, .loop f => !f.ind
  | _, i => (intInfo i).isSome

/-! ### The known map (R91) -/

/-- The registers that the Bench knows: the value of each, and whether residual code has placed it. -/
abbrev Known := SMap (W64 × Bool)

/-- The value of a register, if it is known; register 0 is zero. -/
def Known.val (m : Known) (r : BitVec 7) : Option W64 :=
  if r = 0 then some 0 else (SMap.find m r.toNat).map (·.1)

/-- The destination of a static instruction receives its value. -/
def Known.assign (m : Known) (d : BitVec 7) (v : W64) : Known :=
  if d = 0 then m
  else SMap.put m d.toNat (v, match SMap.find m d.toNat with
    | some (w, placed) => placed && w = v
    | none => false)

/-- The destination of a dynamic instruction becomes unknown. -/
def Known.forget (m : Known) (d : Option (BitVec 7)) : Known :=
  match d with
  | some d => SMap.erase m d.toNat
  | none => m

/-- The map after a dynamic instruction (R91): a suspension keeps x1 to x4, and of the others what its outcomes
agree on.
Log 30: DEDUCED, unsafe. -/
def Known.after (m : Known) (i : Instr) : Known :=
  let low := (m.filter fun p => 1 ≤ p.1 && p.1 ≤ 4)
  let zeros := m.filter fun p => 6 ≤ p.1 && p.2.1 = 0
  match i with
  | .yield _ => low ++ (List.range 26).map fun k => (k + 6, ((0 : W64), true))
  | .await f => Known.forget (low ++ zeros) (some f.d)
  | .sigwait f => Known.forget (low ++ zeros) (some f.d)
  | .remq _ => low ++ zeros
  | i => m.forget (scalarDest i)

/-! ### Residual slots and lines -/

/-- A residual slot: its bits, its origin PC, and whether it is a literal, a materialisation slot or padding. -/
structure RSlot where
  word : W64
  origin : Nat
  lit : Bool
  mat : Bool
  pad : Bool
  deriving DecidableEq, Repr, Inhabited

/-- Where the chain of a residual line goes after slot 6: it ends, or it goes on in the line that follows, in another
residual line, or in one that stands for a line outside the image.
Log 30: DEDUCED, unsafe. -/
inductive RLink where
  | ends
  | follows
  | line (n : Nat)
  | outside (pc : Nat)
  deriving DecidableEq, Repr, Inhabited

/-- A residual line: its stream field, its slots, and where its chain goes on. -/
structure RLine where
  stream : Nat
  slots : List RSlot
  next : RLink
  deriving DecidableEq, Repr, Inhabited

/-- A pair of an origin PC and a known map, in a stream (R91). -/
structure Pair where
  st : Stream
  pc : Nat
  known : Known
  deriving DecidableEq, Repr

/-- The Bench at work: the lines that are closed, the slots of the line that is open, the place of each version,
the pairs that still need one, the transfers whose target is not yet placed, and the static instructions
performed. -/
structure Bench where
  lines : List RLine
  cur : List RSlot
  placed : List (Pair × Nat)
  wanted : List Pair
  fixes : List (Nat × Pair)
  steps : Nat
  deriving Repr

/-- The place of the next slot: 7 for each line before it, and its slot number. -/
def Bench.pos (b : Bench) : Nat := 7 * b.lines.length + b.cur.length

/-- Appends a slot; a full line is closed and its chain goes on. -/
def Bench.put (b : Bench) (st : Stream) (r : RSlot) : Bench :=
  let cur := b.cur ++ [r]
  if cur.length = 7 then { b with lines := b.lines ++ [⟨streamCode st, cur, .follows⟩], cur := [] }
  else { b with cur := cur }

/-- The last closed line takes a link. -/
def linkLast (k : RLink) : List RLine → List RLine
  | [] => []
  | [l] => [{ l with next := k }]
  | l :: t => l :: linkLast k t

/-- The slots of a line that its chain does not fill: no words, with the origin PCs that follow that of the last slot
(R95, R425).
Log 30: DEDUCED, unsafe. -/
def unusedSlots (l : List RSlot) : List RSlot :=
  let o := (l.getLast?.map fun r => r.origin).getD 0
  (List.range (7 - l.length)).map fun k => ⟨0, o + 8 * (k + 1), false, false, false⟩

/-- Ends a version: the chain ends with its last slot. -/
def Bench.close (b : Bench) (st : Stream) : Bench :=
  if b.cur.isEmpty then { b with lines := linkLast .ends b.lines }
  else { b with lines := b.lines ++ [⟨streamCode st, b.cur ++ unusedSlots b.cur, .ends⟩], cur := [] }

/-- The never-guarded `add x0, x0, x0` (R92). -/
def padWord : W64 := encode (.add ⟨⟨false, 0, 0⟩, 0, 0, 0, 0, 0, false, false, false, 0, 0, 0⟩)

/-- A padding slot that maps to an origin PC. -/
def padSlot (origin : Nat) : RSlot := ⟨padWord, origin, false, false, true⟩

/-- Pads the open line up to slot `n`. -/
def Bench.padUntil (b : Bench) (st : Stream) (n origin : Nat) : Nat → Bench
  | 0 => b
  | fuel + 1 => if b.cur.length = n then b else (b.put st (padSlot origin)).padUntil st n origin fuel

/-- The chain leaves its line by slot 6: the line is padded, a whole one where a version begins and holds nothing yet. -/
def Bench.lineEnd (b : Bench) (st : Stream) (origin : Nat) : Bench :=
  let b := if b.cur.isEmpty && (b.placed.any fun q => q.2 = b.pos) then b.put st (padSlot origin) else b
  b.padUntil st 0 origin 7

/-- A version goes on where a link says, by falling through. -/
def Bench.linkTo (b : Bench) (st : Stream) (origin : Nat) (k : RLink) : Bench :=
  let b := b.lineEnd st origin
  { b with lines := linkLast k b.lines }

/-- Appends an instruction and its literal, which never starts in slot 6. -/
def Bench.emit (b : Bench) (st : Stream) (w : W64) (lit : Option W64) (origin : Nat) (mat : Bool) : Bench :=
  match lit with
  | none => b.put st ⟨w, origin, false, mat, false⟩
  | some v =>
    let b := if b.cur.length = 6 then b.put st (padSlot origin) else b
    (b.put st ⟨w, origin, false, mat, false⟩).put st ⟨v, if mat then origin else origin + 8, true, mat, false⟩

/-- The always-satisfied guard. -/
def guardYes : Guard := ⟨true, 0, 0⟩

/-- The instruction that places a value in a register (R91), with its literal. -/
def placeWord (r : Nat) (v : W64) : W64 × Option W64 :=
  let d := BitVec.ofNat 7 r
  let imm := v.setWidth 30
  if imm.signExtend 64 = v then (encode (.addi ⟨guardYes, d, 0, imm⟩), none)
  else (encode (.limm ⟨guardYes, d, 0⟩ v), some v)

/-- Materialises every known register that is not placed, in ascending order (R91).
Log 30: DEDUCED, unsafe. -/
def Bench.materialise (b : Bench) (st : Stream) (m : Known) (origin : Nat) : Bench × Known :=
  (m.foldl (fun (b : Bench) p =>
      if p.2.2 then b
      else
        let (w, lit) := placeWord p.1 p.2.1
        b.emit st w lit origin true) b,
    m.map fun p => (p.1, (p.2.1, true)))

/-- An always-guarded `br` to a version (R91). -/
def brWord : W64 := encode (.br ⟨guardYes, 0, 0, false, 0, 0⟩)

/-- Transfers to a version that has a place or will have one. -/
def Bench.want (b : Bench) (p : Pair) : Bench :=
  if (b.placed.any fun q => q.1 = p) || b.wanted.contains p then b else { b with wanted := b.wanted ++ [p] }

/-- A slot whose transfer target is a pair. -/
def Bench.emitTo (b : Bench) (st : Stream) (w : W64) (p : Pair) (origin : Nat) : Bench :=
  let at_ := b.pos
  let b := b.put st ⟨w, origin, false, false, false⟩
  { (b.want p) with fixes := b.fixes ++ [(at_, p)] }

/-! ### Walking a chain -/

/-- What the Bench reads: the image, the uniform bytes, the key mask and L. -/
structure BenchIn where
  image : Image
  snapshot : List Byte
  mask : List Byte
  len : Nat
  deriving Repr

/-- A uniform byte is key-marked (R75). -/
def BenchIn.marked (x : BenchIn) (i : Nat) : Bool := bitOf (x.mask.getD (i / 8) 0).toNat (i % 8)

/-- A PC as 64 bits hold it. -/
def wrapPc (t : Int) : Nat := (t % 2 ^ 64).toNat

/-- The PC of the next slot in chain order, and whether the chain ends there (R32). -/
def Image.fall (m : Image) (pc : Nat) (lit : Bool) : Nat × Bool :=
  let base := if lit then pc + 8 else pc
  if base / 8 % 8 < 7 then (base + 8, false)
  else
    let n := lineNext (m.line (base / 64))
    if n = 0 then (base + 8, true) else (wrapPc (((base / 64 : Nat) + n) * 64 + 8), false)

/-- The target of a direct transfer at a PC. -/
def directTarget (f : FB) (pc : Nat) : Nat :=
  wrapPc (((pc / 64 : Nat) + f.off.toInt) * 64 + (f.slot.toNat + 1) * 8)

/-- A PC lies in a line of the image. -/
def Image.inside (m : Image) (pc : Nat) : Bool := pc / 64 < m.length

/-- A line of the image that a stream can enter (R31, orders 1 to 3). -/
def Image.enters (m : Image) (st : Stream) (pc : Nat) : Bool :=
  m.inside pc && lineStream (m.line (pc / 64)) = streamCode st && ((m.line (pc / 64)).extractLsb' 24 4) = 0

/-- A stand-in for line `i` of the image, which its stream cannot enter: a line whose link word fails the same check. A
stream field above 7 marks the reserved bits of the link word. -/
def Image.standIn (m : Image) (i : Nat) : RLine :=
  ⟨lineStream (m.line i) + 8 * ((m.line i).extractLsb' 24 4).toNat,
    (List.range 7).map fun k => ⟨0, headPc i + 8 * k, false, false, false⟩, .ends⟩

/-- Places the stand-in for the line of a pair's PC, which is entered at the slot that the PC names (R31, R93). -/
def Bench.badLine (b : Bench) (m : Image) (p : Pair) : Bench :=
  { b with lines := b.lines ++ [m.standIn (p.pc / 64)], placed := b.placed ++ [(p, 7 * b.lines.length + (p.pc / 8 % 8 - 1))] }

/-- The value that a static instruction gives its destination, performed exactly as its meaning defines on a core
that holds the known registers; the error is the reason of R92. -/
def BenchIn.perform (x : BenchIn) (st : Stream) (m : Known) (i : Instr) : Except Nat (Option (BitVec 7 × W64)) :=
  let scratch : State :=
    let s : State := { State.reset with core := 0, str := st }
    s.modCore 0 fun c => m.foldl (fun c p => c.setScalar st p.1 p.2.1) c
  match i with
  | .limm f lit => .ok (some (f.d, lit))
  | .uld f => match m.val f.s1 with
    | none => .error 2
    | some b =>
      let a := b.toNat + f.imm.toNat % 1024
      let size := 2 ^ (f.imm.toNat / 1024 % 4)
      if a + size ≤ x.len ∧ (List.range size).all fun k => x.marked (a + k) then
        .ok (some (f.d, extend (f.imm.getLsbD 12) size (natAt x.snapshot a size)))
      else .error 3
  | i => match intInfo i with
    | none => .ok none
    | some (src, _, d, run) =>
      if src.any fun r => (m.val r).isNone then .error 2
      else match run scratch with
        | .next t => .ok (some (d, (t.coreAt 0).scalar st d.toNat))
        | _ => .error 2

/-- The guard of a C or A instruction that may be static. -/
def staticGuard : Instr → Guard
  | .limm f _ => f.g
  | .uld f => f.g
  | .br f => f.g
  | .loop f => f.g
  | i => match intInfo i with
    | some (_, g, _, _) => g
    | none => guardYes

/-- A guard holds on known values (R116). -/
def Known.guard (m : Known) (g : Guard) : Option Bool :=
  (m.val (g.gr.setWidth 7)).map fun v => v.getLsbD g.gb.toNat != g.gs

/-- What a static instruction comes to: the map after it, and where control goes: a target, or none for the next
slot. -/
def BenchIn.static (x : BenchIn) (st : Stream) (m : Known) (pc : Nat) (i : Instr) :
    Except Nat (Known × Option Nat) :=
  match m.guard (staticGuard i) with
  | none => .error 2
  | some false => match i with
    -- the assertions of R91 are made whatever the guard's value
    | .br _ => .ok (m, none)
    | .loop f => if (m.val f.d).isNone then .error 2 else .ok (m, none)
    | i => match x.perform st m i with
      | .error e => .error e
      | .ok _ => .ok (m, none)
  | some true => match i with
    | .br f => .ok (m, some (directTarget f pc))
    | .loop f => match m.val f.d with
      | none => .error 2
      | some c =>
        if c = 0 then .ok (m, none)
        else .ok (m.assign f.d (c - 1), if c - 1 = 0 then none else some (directTarget f pc))
    | i => match x.perform st m i with
      | .error e => .error e
      | .ok none => .ok (m, none)
      | .ok (some (d, v)) => .ok (m.assign d v, none)

/-- The target of a dynamic transfer: the direct target, and the reason to decline when it is held in a register
or names no chain head where it must (R89, R91). A `ret` that the walk reaches declines, since its target is held in a
register.
Log 30: DEDUCED, unsafe. -/
def BenchIn.target (x : BenchIn) (pc : Nat) (i : Instr) : Except Nat (Option (Stream × Nat × Bool)) :=
  match i with
  | .ret _ => .error 6
  | .br f => if f.ind then .error 6 else .ok (some (.c, directTarget f pc, false))
  | .loop f => if f.ind then .error 6 else .ok (some (.c, directTarget f pc, false))
  | .call f => if f.ind then .error 6 else .ok (some (.c, directTarget f pc, false))
  | .spawn f =>
    if f.ind then .error 6
    else if x.image.headAt .c (directTarget f pc) then
      .ok (some (.c, directTarget f pc, true))
    else .error 7
  | .start f =>
    let st : Stream := if f.d = 1 then .a else .x
    if f.ind then .error 6
    else if x.image.headAt st (directTarget f pc) then
      .ok (some (st, directTarget f pc, true))
    else .error 7
  | _ => .ok none

/-- Copies an instruction that traps in both runs as it stands. A slot whose literal bit is set stands in slot 0, where no
instruction before it owns it (R34, R35).
Log 30: DEDUCED, unsafe. -/
def Bench.copyTrap (b : Bench) (st : Stream) (w : W64) (lit ends : Bool) (pc : Nat) : Bench :=
  let b := if lit then b.padUntil st 0 pc 7 else b
  let b := if ends then b.padUntil st 6 pc 7 else b
  b.put st ⟨w, pc, lit, false, false⟩

/-- Walks one version from an origin PC to its end (R91, R92). `via` is the origin PC of the static transfer or of
the slot by which the walk came here, and `first` that the version starts here.
Log 30: DEDUCED, unsafe. -/
def BenchIn.walk (x : BenchIn) (st : Stream) : Nat → Bench → Nat → Known → Nat → Bool → Except Nat Bench
  | 0, _, _, _, _, _ => .error 5
  | fuel + 1, b, pc, m, via, first =>
    let pair : Pair := ⟨st, pc, m⟩
    let limit := min (4 * x.image.codeLines) 8192
    if limit < b.lines.length then .error 4
    else if first && !x.image.enters st pc then .ok (b.badLine x.image pair)
    else if st = .a && !first && !x.image.enters st pc then
      -- A has no `br`: it falls into the stand-in, or out of the residual code
      let (b, _) := b.materialise st m via
      .ok (if x.image.inside pc then (b.lineEnd st via).badLine x.image pair else b.linkTo st via (.outside pc))
    else if st = .a && !first && (b.placed.any fun q => q.1 = pair) then
      -- nor one to a version: it falls into its first line, or into a copy of it that begins a line
      match b.placed.find? fun q => q.1 = pair && q.2 % 7 = 0 with
      | some q =>
        let (b, _) := b.materialise st m via
        .ok (b.linkTo st via (.line (q.2 / 7)))
      | none => x.walk st fuel (b.lineEnd st via) pc m via true
    else if !first && ((b.placed.any fun q => q.1 = pair) || !x.image.enters st pc) then
      -- a version that exists, or a line that cannot be entered, is reached by a transfer of its own
      let (b, _) := b.materialise st m via
      .ok ((b.emitTo st brWord pair via).close st)
    else
      let b := { b with placed := b.placed ++ [(pair, b.pos)] }
      let line := x.image.line (pc / 64)
      let w64 := BitVec.ofNat 64 pc
      let w := slotWord line w64
      let lit := literalOf line w64
      let slot := pc / 8 % 8 - 1
      match issueCheck st (literalBroken line w64) w lit with
      | .error _ =>
        let (b, m) := b.materialise st m pc
        let (t, ends) := x.image.fall pc false
        let b := b.copyTrap st w (literalBit line slot) ends pc
        if ends then .ok (b.close st) else x.walk st fuel b t m t false
      | .ok i =>
        let takes := takesLiteral w
        let (t, ends) := x.image.fall pc takes
        if staticBit line slot then
          match x.static st m pc i with
          | .error e => .error e
          | .ok (m, dst) =>
            let b := { b with steps := b.steps + 1 }
            if 1048576 < b.steps then .error 5
            else match dst with
              | some t => x.walk st fuel b t m pc false
              | none =>
                if ends then
                  let (b, _) := b.materialise st m (if takes then pc + 8 else pc)
                  let o := pc / 64 * 64 + 56
                  .ok (((b.padUntil st 6 o 7).put st (padSlot o)).close st)
                else x.walk st fuel b t m t false
        else
          let (b, m) := b.materialise st m pc
          let b := if ends then b.padUntil st (if takes then 5 else 6) pc 7 else b
          match x.target pc i with
          | .error e => .error e
          | .ok dst =>
            let b := match dst with
              | some (.x, q, _) => { (b.put st ⟨w, pc, false, false, false⟩) with fixes := b.fixes ++ [(b.pos, ⟨.x, q, []⟩)] }
              | some (t, q, head) => b.emitTo st w ⟨t, q, if head then [] else m.forget (scalarDest i)⟩ pc
              | none => b.emit st w (if takes then some lit else none) pc false
            if ends ∨ endsWalk i then .ok (b.close st)
            else x.walk st fuel b t (m.after i) t false

/-- Places every version that is wanted; a target outside the image needs none (R31, order 1). -/
def BenchIn.drain (x : BenchIn) : Nat → Bench → Except Nat Bench
  | 0, _ => .error 4
  | fuel + 1, b => match b.wanted with
    | [] => .ok b
    | p :: rest =>
      let b := { b with wanted := rest }
      if !x.image.inside p.pc || (b.placed.any fun q => q.1 = p) then x.drain fuel b
      else match x.walk p.st 2097152 b p.pc p.known p.pc true with
        | .error e => .error e
        | .ok b => x.drain fuel b

/-- A slot of a code line carries a static mark that it may not carry (R90). -/
def Image.badMark (m : Image) (i : Nat) : Bool :=
  let line := m.line i
  (List.range 7).any fun k =>
    staticBit line k && (lineStream line = 2 ||
      (!literalBit line k && match (if lineStream line = 0 then Stream.c else .a) with
        | st =>
          let pc := BitVec.ofNat 64 (64 * i + 8 + 8 * k)
          match issueCheck st (literalBroken line pc) (slotWord line pc) (literalOf line pc) with
          | .ok i => !mayBeStatic st i
          | .error _ => false))

/-! ### The residual code -/

/-- The PC of a place. -/
def placePc (p : Nat) : Nat := 64 * (p / 7) + 8 * (p % 7 + 1)

/-- Bits 28:0 of a word with its direct target (R126): the slot and the line offset. -/
def retarget (w : W64) (at_ dst : Nat) : W64 :=
  let off := BitVec.ofInt 26 (((dst / 7 : Nat) : Int) - ((at_ / 7 : Nat) : Int))
  let slot := BitVec.ofNat 3 (dst % 7)
  (w &&& ~~~0x1FFFFFFF#64) ||| (slot.setWidth 64 <<< 26) ||| off.setWidth 64

/-- The link word of a residual line. -/
def linkOf (code : Nat) (next : Int) : BitVec 32 :=
  BitVec.ofNat 32 (code % 8 * 2 ^ 29 + 2 ^ 28 + code / 8 % 16 * 2 ^ 24) ||| (BitVec.ofInt 24 next).setWidth 32

/-- A residual line's 64 bytes; line `n` has back-map index `n` + 1 (R95). -/
def RLine.bits (l : RLine) (n : Nat) (next : Int) : BitVec 512 :=
  let lits := (l.slots.zipIdx.filter fun p => p.1.lit).foldl (fun a p => a + 2 ^ (18 + p.2)) 0
  let words := (List.range 7).foldl (fun (a : Nat) i =>
    a + ((l.slots.getD i default).word).toNat * 2 ^ (64 * (i + 1))) 0
  BitVec.ofNat 512 ((linkOf l.stream next).toNat + ((n + 1) % 2 ^ 18 + lits) * 2 ^ 32 + words)

/-- The PC of the first slot of the line that a line's next field names. -/
def Image.nextHead (m : Image) (i : Nat) : Nat := wrapPc (((i : Int) + lineNext (m.line i)) * 64 + 8)

/-- The residual copy of X line `i` as residual line `n`: unchanged but for its link and header words (R89). -/
def Image.xBits (m : Image) (i n : Nat) (next : Int) : BitVec 512 :=
  let line := m.line i
  let head := linkOf (2 + 8 * (line.extractLsb' 24 4).toNat) next
  (line >>> 64 <<< 64) ||| head.setWidth 512 ||| (line &&& (0x1FC0000#512 <<< 32)) |||
    (BitVec.ofNat 512 ((n + 1) % 2 ^ 18) <<< 32)

/-- A table of the places of slots that a property selects. -/
def slotPcs (ls : List RLine) (f : RSlot → Bool) : List Nat :=
  ls.zipIdx.flatMap fun p => (p.1.slots.zipIdx.filter fun q => f q.1).map fun q => placePc (7 * p.2 + q.2)

/-- The residual code of an image, or the reason for which the Bench declines (R89 to R92).
Log 30: DEDUCED, unsafe. -/
def BenchIn.specialise (x : BenchIn) : Except Nat Residual :=
  let m := x.image
  let idx := List.range m.length
  if idx.any fun i => lineStream (m.line i) ≤ 2 && m.badMark i then .error 1
  else
    let heads := idx.filter fun i => lineStream (m.line i) ≤ 1 && m.isHead i
    let start : Except Nat Bench := .ok ⟨[], [], [], [], [], 0⟩
    let walked := heads.foldl (fun acc i => match acc with
      | .error e => .error e
      | .ok b =>
        let st : Stream := if lineStream (m.line i) = 0 then .c else .a
        x.drain 65536 (b.want ⟨st, headPc i, []⟩)) start
    match walked with
    | .error e => .error e
    | .ok b =>
      let xs := idx.filter fun i => lineStream (m.line i) = 2
      let base := b.lines.length
      -- the lines that X lines name by their next fields and that X cannot enter
      let nexts := (xs.filter fun i => lineNext (m.line i) ≠ 0).map m.nextHead
      let bad := ((nexts.filter fun p => m.inside p && !xs.contains (p / 64)).map (· / 64)).eraseDups
      let total := base + xs.length + bad.length
      if min (4 * m.codeLines) 8192 < total then .error 4
      else
        let falls := b.lines.filterMap fun l => match l.next with | .outside pc => some pc | _ => none
        let out := (((b.fixes.map (·.2.pc)) ++ nexts ++ falls).filter fun p => !m.inside p).map (· / 64) |>.eraseDups
        let xPlace : Nat → Nat := fun i =>
          if xs.contains i then base + xs.idxOf i else base + xs.length + bad.idxOf i
        -- a PC outside the image stands for one outside the residual code
        let outside : Nat → Nat := fun pc => 7 * (total + out.idxOf (pc / 64)) + (pc / 8 % 8 - 1)
        let place : Pair → Nat := fun p =>
          if !m.inside p.pc then outside p.pc
          else if p.st = .x then 7 * xPlace (p.pc / 64) + (p.pc / 8 % 8 - 1)
          else ((b.placed.find? fun q => q.1 = p).map (·.2)).getD 0
        let retargeted := b.lines.zipIdx.map fun l =>
          { l.1 with slots := l.1.slots.zipIdx.map fun q =>
            match b.fixes.find? fun f => f.1 = 7 * l.2 + q.2 with
            | some f => { q.1 with word := retarget q.1.word f.1 (place f.2) }
            | none => q.1 }
        let own := retargeted.zipIdx ++ bad.zipIdx.map fun q => (m.standIn q.1, base + xs.length + q.2)
        let bits : RLine × Nat → BitVec 512 := fun l => l.1.bits l.2 (match l.1.next with
          | .ends => 0
          | .follows => 1
          | .line n => (n : Int) - (l.2 : Int)
          | .outside pc => ((outside pc / 7 : Nat) : Int) - (l.2 : Int))
        let xCode := xs.zipIdx.map fun q => m.xBits q.1 (base + q.2)
          (if lineNext (m.line q.1) = 0 then 0
            else ((place ⟨.x, m.nextHead q.1, []⟩ / 7 : Nat) : Int) - ((base + q.2 : Nat) : Int))
        let rows := (own.flatMap fun l => l.1.slots.zipIdx.map fun q => (placePc (7 * l.2 + q.2), q.1.origin)) ++
          (xs.zipIdx.flatMap fun q => (List.range 7).map fun k => (placePc (7 * (base + q.2) + k), headPc q.1 + 8 * k)) ++
          out.zipIdx.flatMap fun q => (List.range 7).map fun k => (placePc (7 * (total + q.2) + k), headPc q.1 + 8 * k)
        .ok
          { lines := (own.take base).map bits ++ xCode ++ (own.drop base).map bits
            origin := rows
            heads := (heads.map fun i =>
                (headPc i, placePc (place ⟨if lineStream (m.line i) = 0 then .c else .a, headPc i, []⟩))) ++
              (xs.filter m.isHead).map fun i => (headPc i, placePc (7 * xPlace i))
            mats := slotPcs retargeted (·.mat)
            pads := slotPcs retargeted (·.pad) }

end Sys2Proof.Machine
end

