-- ==== Sys2Proof/Machine/Queues.lean ====
section
/-! DEFINITION. Mapped queues and the firmware threads that serve them (R412, R414 to R416): wakes, the entries of
a ring in order, and what ends an entry. -/

namespace Sys2Proof.Machine

open Host (Outcome)

/-! ### Host and module memory -/

/-- `n` bytes at the address of a queue or a structure that the host reads. -/
def State.qRead (s : State) (a : QAddr) (n : Nat) : List Byte :=
  if a.host then Memory.readBytes s.hostMem a.addr n else s.physBytes a.addr n

/-- A number of `n` bytes there. -/
def State.qNat (s : State) (a : QAddr) (n : Nat) : Nat := natOfBytes (s.qRead a n)

/-- Writes bytes there, for a context. -/
def State.qWrite (s : State) (ctx : Nat) (a : QAddr) (l : List Byte) : State :=
  if a.host then { s with hostMem := Memory.writeBytes s.hostMem a.addr l } else s.physWrite ctx a.addr l

/-- An address `n` bytes on. -/
def qAdd (a : QAddr) (n : Nat) : QAddr := { a with addr := a.addr + n }

/-- Some byte there is at an address without memory. -/
def qUnmapped (a : QAddr) (n : Nat) : Bool := !a.host && !(isMapped a.addr && isMapped (a.addr + n - 1))

/-! ### Queues -/

/-- A queue that is not mapped. -/
def Queue.reset : Queue := ⟨.unmapped, false, false, 0, 0, 0, ⟨true, 0⟩, 0, 0, false, none, none⟩

/-- Queue `q`. -/
def State.queue (s : State) (q : Nat) : Queue := SMap.get .reset s.mgmt.queues q

/-- Puts queue `q` back. -/
def State.setQueue (s : State) (q : Nat) (v : Queue) : State :=
  { s with mgmt := { s.mgmt with queues := SMap.put s.mgmt.queues q v } }

/-- The bytes of an entry (R414). -/
def Queue.entrySize (v : Queue) : Nat := if v.kind = 1 then 256 else 64

/-- Where entry `i` of a ring stands (R414). -/
def Queue.entryAt (v : Queue) (i : Nat) : QAddr := qAdd v.base (64 + v.entrySize * (i % 2 ^ v.n))

/-- A command as it stands in its entry: its eight quads. -/
def State.readCmd (s : State) (a : QAddr) : Cmd :=
  ⟨(List.range 8).map fun i => BitVec.ofNat 64 (s.qNat (qAdd a (8 * i)) 8), a⟩

/-- Operand quad `i` of a command, at offset 8 i. -/
def cmdQuad (c : Cmd) (i : Nat) : Nat := (c.quads.getD i 0).toNat

/-- The opcode of a command. -/
def cmdOp (c : Cmd) : Nat := cmdQuad c 0 % 256

/-- The queue whose thread serves the entry at an address, if any. -/
def State.serving (s : State) (a : QAddr) : Option Nat :=
  (s.mgmt.queues.find? fun p => p.2.busy && p.2.entryAt p.2.head = a).map (·.1)

/-- The entry that a thread serves is complete: head advances with a release, and the thread goes on to the next
entry, or a parked queue comes to rest (R414, R416). -/
def State.entryEnd (s : State) (a : QAddr) : State :=
  match s.serving a with
  | none => s
  | some q =>
    let v := s.queue q
    let h := (v.head + 1) % 2 ^ 64
    let s := s.qWrite v.ctx (qAdd v.base 8) (bytesOf 8 h)
    let s := s.setQueue q { v with head := h, busy := false }
    if v.state = .parked then s.post [.queueParkComplete q]
    else s.post [.threadWake q]

/-- Firmware writes the status of a command and completes its entry (R412, R414): 0 done, 1 refused, 2 an unknown
opcode. A command without an entry of a queue only ends. -/
def State.cmdDone (s : State) (c : Cmd) (status : Nat) : State :=
  if (s.serving c.src).isSome then
    (s.qWrite 0 (qAdd c.src 0x38) (bytesOf 8 status)).entryEnd c.src
  else s

/-- A command is refused or done. -/
def State.cmdEnd (s : State) (c : Cmd) (ok : Bool) : State := s.cmdDone c (if ok then 0 else 1)

/-- The status word of a launch-queue entry is written, in class 0 with a release, and the entry completes (R77,
R414). -/
def State.entryStatus (s : State) (ctx : Nat) (a : QAddr) (word : Nat) : State :=
  (s.qWrite ctx (qAdd a 0x58) (bytesOf 8 word)).entryEnd a

/-! ### Threads (R415, R416) -/

/-- WAKE_REGISTER_WRITE (R415, R416): the pending bit is set; the thread of a MAPPED queue wakes.
Log 62: DEDUCED, unsafe. -/
def execWakeRegisterWrite (queue : Nat) (s : State) : Outcome State Fault Refusal :=
  if 31 < queue then .next s
  else
    let v := s.queue queue
    let s := s.setQueue queue { v with pending := true }
    if v.state = .mapped then .next (s.post [.threadWake queue]) else .next s

/-- QUEUE_PARK_COMPLETE (R416): the thread of a PARKED queue has finished its entry; its head and tail are saved, and the queue
is UNMAPPED. -/
def execQueueParkComplete (queue : Nat) (s : State) : Outcome State Fault Refusal :=
  let v := s.queue queue
  if v.state = .parked ∧ !v.busy then
    .next (s.setQueue queue { v with state := .unmapped, saved := some (v.head, s.qNat v.base 8) }) else .next s

end Sys2Proof.Machine
end

