-- ==== Sys2Proof/Machine/Traps.lean ====
section
/-! DEFINITION. System registers (R392, R393), the trap-level forms `syscall`, `tret` and `halt` (R379, R394),
the delivery of pending traps, and `roleset` (R182, R395). -/

namespace Sys2Proof.Machine

open Host (Outcome)

/-! ### Registers (R392) -/

/-- sys.cfg (R21). -/
def State.sysCfg (s : State) : W64 :=
  BitVec.ofNat 64 (0x5808102020604001 +
    (List.range 4).foldl (fun a d => if (s.dieAt d).inService then a + 2 ^ (40 + d) else a) 0)

/-- sys.ctx of a core (R374). -/
def State.sysCtx (s : State) (n : Nat) : W64 :=
  let c := s.coreAt n
  let x := s.ctxAt c.ctx
  BitVec.ofNat 64 (natOfBool x.sup * 2 ^ 63 + natOfBool x.prot * 2 ^ 62 + natOfBool c.cont.th * 2 ^ 61 +
    natOfBool c.cont.res * 2 ^ 60 + c.ctx % 1024)

/-- sys.shares of a core (R392). -/
def State.sysShares (s : State) (n : Nat) : W64 :=
  let c := s.coreAt n
  let limit := ((s.launchAt c.launchDie c.launch).map fun l => l.shares).getD 0
  BitVec.ofNat 64 (limit % 256 * 256 + s.sharesHeld (dieOf n) c.launchDie c.launch % 256)

/-- The value of register `r` on core `n`; none when the number is unknown (R392). -/
def State.csr (s : State) (n r : Nat) : Option W64 :=
  let c := s.coreAt n
  let x := s.ctxAt c.ctx
  match r with
  | 0x000 => some s.sysCfg
  | 0x001 => some (BitVec.ofNat 64 (dieOf n * 256 + n))
  | 0x002 => some s.fab.peerid
  | 0x010 => some (s.sysCtx n)
  | 0x011 => some c.cont.tvec
  | 0x012 => some c.cont.cause
  | 0x013 => some c.cont.epc
  | 0x014 => some c.cont.opc
  | 0x015 => some c.cont.cpc
  | 0x016 => some c.cont.apc
  | 0x017 => some c.cont.xpc
  | 0x018 => some c.cont.tmpa
  | 0x019 => some c.cont.tmpb
  | 0x01A => some c.cont.aretry
  | 0x020 => some c.cont.fpstat
  | 0x021 => some c.cont.ldstat
  | 0x022 => some c.cont.bview
  | 0x023 => some x.vsel
  | 0x024 => some c.bankrole0
  | 0x025 => some c.bankrole1
  | 0x026 => some c.cont.ssave
  | 0x027 => some (s.sysShares n)
  | 0x028 => some (BitVec.ofNat 64 (x.ckpt % 2 ^ 32))
  | 0x030 => some x.ptbase
  | 0x031 => some x.callow0
  | 0x032 => some x.callow1
  | _ => none

/-- CSRR (R392).
Log 17: DEDUCED, unsafe. -/
def execCsrr (f : FL) (s : State) : Outcome State Fault Refusal :=
  issue f.g false false (fun s =>
    match s.csr s.core f.imm.toNat with
    | some v => .ok (.fall, s.wr f.d v)
    | none => trap cIllegal 0 s) s

/-- The writable bits of a PC register (R378). -/
def pcMask : W64 := 0xFFFFFFFFFF
/-- The writable bits of sys.tvec (R375). -/
def tvecMask : W64 := 0x800000FFFFFFFFFF
/-- The writable bits of sys.fpstat (R56). -/
def fpstatMask : W64 := 0x1F1F
/-- The writable bits of sys.ldstat (R198). -/
def ldstatMask : W64 := 0xF
/-- The writable bits of sys.vsel (R82). -/
def vselMask : W64 := 0xF
/-- The writable bits of sys.ssave (R389). -/
def ssaveMask : W64 := 0xFFFFFFC00
/-- The writable bits of sys.ptbase (R160). -/
def ptbaseMask : W64 := 0x800000FFFFFF8000

/-- The length in KiB that sys.ssave names (R389). -/
def ssaveKib (v : W64) : Nat := bitsOf v.toNat 35 24
/-- The SPAD start that sys.ssave names. -/
def ssaveStart (v : W64) : Nat := bitsOf v.toNat 23 10 * 1024

/-- Changes the continuation registers of the issuing core. -/
def State.modCont (s : State) (f : ContRegs → ContRegs) : State := s.modCur fun c => { c with cont := f c.cont }

/-- Writes context register `r` of a context: 0x23 sys.vsel, 0x30 sys.ptbase, 0x31 and 0x32 the allowance
(R393). -/
def State.setCtxReg (s : State) (ctx r : Nat) (v : W64) : State :=
  s.modCtx ctx fun x => match r with
    | 0x023 => { x with vsel := v &&& vselMask }
    | 0x030 => { x with ptbase := v &&& ptbaseMask }
    | 0x031 => { x with callow0 := v }
    | 0x032 => { x with callow1 := v }
    | _ => x

/-- CSRW (R392).
Log 17: DEDUCED, unsafe. -/
def execCsrw (f : FL) (s : State) : Outcome State Fault Refusal :=
  issue f.g false false (fun s =>
    let v := s.rd f.d
    let c := s.cur
    let quiet := c.cont.th || (c.sa.idle && c.sx.idle)
    let ctxReg : Nat → Except Stop (Flow × State) := fun r =>
      if s.curCtx.sup then .ok (.fall, s.setCtxReg c.ctx r v) else trap cPriv 0 s
    match f.imm.toNat with
    | 0x011 => .ok (.fall, s.modCont fun r => { r with tvec := v &&& tvecMask })
    | 0x013 => .ok (.fall, s.modCont fun r => { r with epc := v &&& pcMask })
    | 0x015 => .ok (.fall, s.modCont fun r => { r with cpc := v &&& pcMask })
    | 0x016 => .ok (.fall, s.modCont fun r => { r with apc := v &&& pcMask })
    | 0x017 => .ok (.fall, s.modCont fun r => { r with xpc := v &&& pcMask })
    | 0x018 => .ok (.fall, s.modCont fun r => { r with tmpa := v })
    | 0x019 => .ok (.fall, s.modCont fun r => { r with tmpb := v })
    | 0x020 =>
      if quiet then .ok (.fall, s.modCont fun r => { r with fpstat := v &&& fpstatMask }) else .error .stall
    | 0x021 =>
      if quiet then .ok (.fall, s.modCont fun r => { r with ldstat := v &&& ldstatMask }) else .error .stall
    | 0x023 => ctxReg 0x023
    | 0x026 =>
      if 3072 < ssaveKib v then trap cIllegal 0 s
      else .ok (.fall, s.modCont fun r => { r with ssave := v &&& ssaveMask })
    | 0x030 => ctxReg 0x030
    | 0x031 => ctxReg 0x031
    | 0x032 => ctxReg 0x032
    | _ => trap cIllegal 0 s) s

/-! ### Trap-level forms (R394) -/

/-- SYSCALL (R394). -/
def execSyscall (f : FI) (s : State) : Outcome State Fault Refusal :=
  issue f.g false false (fun s =>
    .error (.trap { code := cSyscall, info := f.imm.toNat % 2 ^ 16, epc := some s.fallPc })) s

/-- The trap that the handler returns from is one of kind 0 of a stream: the stream stands at sys.epc (R394). -/
def Core.ownTrap (c : Core) (st : Stream) : Bool :=
  c.cont.cause.toNat / 2 ^ 62 = 0 && bitsOf c.cont.cause.toNat 61 60 = streamCode st

/-- A resume PC of a stream: sys.epc for the stream of a kind 0 trap (R394). -/
def Core.resumeAt (c : Core) (st : Stream) : W64 :=
  let r := c.cont
  if c.ownTrap st then r.epc
  else match st with
    | .c => r.cpc
    | .a => r.apc
    | .x => r.xpc

/-- A numbered request that has gone unanswered is sent again under its ID (R343). -/
def State.resendNumbered (s : State) (peer die id : Nat) : State :=
  match s.fab.outstanding.find? fun q => q.packet.dst = peer && q.packet.sdie = die && q.packet.id = id with
  | none => s
  | some q =>
    let l := s.fab.outstanding.map fun r => if r = q then { r with tries := 0 } else r
    State.send { s with fab := { s.fab with outstanding := l } } q.packet

/-- A request of A is issued afresh (R192): it reads its k register again. -/
def Req.afresh (c : Core) (r : Req) : Req :=
  { r with stop := none, tok := match memOpOf r.instr with | some op => c.tok op.k | none => r.tok }

/-- A request that has gone unanswered awaits its reply again (R343). -/
def Req.again (r : Req) : Req := { r with stop := none, await := r.segs.map fun g => (r.peer, lineNo g.addr) }

/-- A's requests go on after `tret` (R192, R343): an unresolved one is sent again under its ID, and the others that have not
been checked are issued afresh, in order.
Log 58: DEDUCED, unsafe. -/
def State.retryA (s : State) (n : Nat) : State :=
  let l := (s.coreAt n).reqs
  if !(l.any fun r => r.str = .a && r.stop.isSome) then s
  else
    let lost : Req → Bool := fun r => r.str = .a && r.stop.isSome && r.checked && r.id.isSome
    let go : Core → Req → Req := fun c r =>
      if lost r then r.again else if r.str = .a ∧ !r.checked then r.afresh c else r
    let s := s.modCore n fun c => { c with reqs := c.reqs.map (go c) }
    let s := (l.filter lost).foldl (fun s r => s.resendNumbered r.peer r.idDie (r.id.getD 0)) s
    s.post [.requestPerform n .a]

/-- The unresolved request of C after `tret` (R343): sent again when C resumes at its slot, else given up.
Log 58: DEDUCED, unsafe. -/
def State.retryC (s : State) (n : Nat) (pc : W64) : State :=
  match (s.coreAt n).unresolved with
  | none => s
  | some r =>
    if pc = pcReg r.pc then
      let s := s.modCore n fun c => { c with
        unresolved := none, cont := { c.cont with aretry := 0 }
        reqs := c.reqs ++ [{ r.again with num := c.nextNum, past := false }], cwait := .request }
      match r.id with
      | some id => s.resendNumbered r.peer r.idDie id
      | none => s
    else s.dropUnresolved n

/-- A stream continues at `pc` after `tret`; it keeps its line when the slot lies in it (R30). One that has reached the end
of its chain, and has not trapped for it yet, has still to trap (R32). -/
def StreamState.resume (v : StreamState) (pc : W64) (resid : Bool) : StreamState :=
  if v.pc = pc ∧ v.residual = resid then v
  else if v.residual = resid then v.jump pc
  else { v with pc := pc, line := none, fell := false, residual := resid }

/-- The core as `tret` finds it again: each stream stands at its resume PC (R375, R394), C in its stall when it froze there,
and a `gbar` that a trap has interrupted has its arrival back (R349). `th` is the level that follows. -/
def Core.returned (c : Core) (th : Bool) : Core :=
  ({ c with
    cont := { c.cont with th := th }
    reqs := c.reqs.map fun r => if r.str = .c then { r with past := true } else r
    arrived := c.outer
    outer := none
    sc := { c.sc with pc := c.resumeAt .c, line := none, fell := false, residual := c.cont.res }
    sa := c.sa.resume (c.resumeAt .a) c.sa.residual
    sx := c.sx.resume (c.resumeAt .x) c.sx.residual } : Core).thaw

/-- The streams of the issuing core return to what they ran; a pending trap is delivered at once, before any of them
issues, and th stays 1 (R379). -/
def State.trapReturn (s : State) : State :=
  match s.cur.firstPending with
  | some (st, p) => (s.modCur fun c => c.returned true).deliverHeld s.core st p
  | none =>
    let s := s.modCur fun c => c.returned false
    ((s.retryC s.core s.cur.sc.pc).retryA s.core).parkKept s.core

/-- TRET (R379, R394): a pending trap is delivered; when there is none, a target of C that names no slot raises ILLEGAL
there. -/
def execTret (f : FI) (s : State) : Outcome State Fault Refusal :=
  issue f.g false false (fun s =>
    let c := s.cur
    if !c.cont.th then trap cIllegal 0 s
    else if namesSlot (c.resumeAt .c) ∨ c.firstPending.isSome then .ok (.leave, s.trapReturn)
    else .ok (.leave, (s.modCur fun c => c.returned false).raise { code := cIllegal, epc := some (c.resumeAt .c) })) s

/-- HALT (R394): the core freezes with C at the next slot and reports itself halted. -/
def execHalt (f : FI) (s : State) : Outcome State Fault Refusal :=
  issue f.g true false (fun s =>
    let s := (s.advance false).modCur fun c => { c with mode := .halted }
    .ok (.leave, { s with mgmt := { s.mgmt with posted := s.mgmt.posted ++ [⟨1, s.core, 0⟩] } })) s

/-- CORE_RELEASE (R394): the management complex releases a halted core; its streams go on. -/
def execCoreRelease (core : Nat) (s : State) : Outcome State Fault Refusal :=
  if (s.coreAt core).mode = .halted then
    .next ((s.modCore core fun c => { c with mode := .running }).post [.trapDelivery core])
  else .next s

/-- TRAP_DELIVERY (R373, R379): the first pending trap of a core is delivered. -/
def execTrapDelivery (core : Nat) (s : State) : Outcome State Fault Refusal := .next (s.deliverPending core)

/-! ### Local memory (R182, R395) -/

/-- The banks of a mask whose role `role` changes. -/
def Core.changing (c : Core) (mask role : Nat) : List Nat :=
  (List.range 32).filter fun b => bitOf mask b && c.bankRole b ≠ role

/-- A role word with the role of bank `b` set. -/
def setRole (w : W64) (b role : Nat) : W64 :=
  (w &&& ~~~(7#64 <<< (3 * (b % 16)))) ||| (BitVec.ofNat 64 role <<< (3 * (b % 16)))

/-- The core with the roles of banks changed: the banks hold zeros, and the tags of ABUF slots follow their
banks (R182, R257). -/
def Core.changeRoles (c : Core) (l : List Nat) (role : Nat) : Core :=
  let old := c.banksOf 3
  let c' := l.foldl (fun (c : Core) b =>
    if b < 16 then { c with bankrole0 := setRole c.bankrole0 b role }
    else { c with bankrole1 := setRole c.bankrole1 b role }) c
  let new := c'.banksOf 3
  let tags := c.abufTags.foldl (fun (t : SMap Nat) p =>
    let b := old.getD (p.1 / 96) 0
    if l.contains b then t else SMap.put t (new.idxOf b * 96 + p.1 % 96) p.2) []
  { c' with
    localMem := c.localMem.filter fun p => !l.contains (p.1 / bankBytes)
    localPoison := c.localPoison.filter fun w => !l.contains (8 * w / bankBytes)
    abufTags := tags }

/-- A job that has not completed names one of the buffers. -/
def Core.jobNames (c : Core) (bufs : List Nat) : Bool :=
  c.jobs.any fun p => p.2.active && (cardFeet p.2.card).any fun f => bufs.contains f.bufOf

/-- A request for a line that the core caches from a remote home is under way (R182). -/
def Core.coherent (c : Core) : Bool :=
  c.reqs.any fun r => r.stop.isNone && !r.await.isEmpty && r.segs.any fun g => g.frame.mode = 2

/-- ROLESET (R182, R395). -/
def execRoleset (f : FI) (s : State) : Outcome State Fault Refusal :=
  issue f.g false false (fun s =>
    let mask := (s.rd f.s1).toNat
    let role := f.imm.toNat % 8
    let c := s.cur
    let l := c.changing mask role
    let bufs := (role :: l.map c.bankRole).filter (· ≠ 0)
    let leaves := l.any fun b => c.bankRole b = 0
    if 2 ^ 32 ≤ mask ∨ 4 < role then trap cIllegal 0 s
    else if l.isEmpty then .ok (.fall, s)
    else if c.jobNames bufs ∨ (leaves ∧ c.coherent) then .error .stall
    else
      let s := if !leaves then s
        else if f.imm.getLsbD 3 then s.flushCache s.core
        else s.modCur fun c => { c with lines := [] }
      .ok (.fall, s.modCur fun c => c.changeRoles l role)) s

end Sys2Proof.Machine
end

