-- ==== Sys2Proof/Machine/SaveArea.lean ====
section
/-! DEFINITION. The save area (R383, R387 to R390): its bytes, where they lie, what a save writes and what a
restore reads back. -/

namespace Sys2Proof.Machine

open Host (Outcome)

/-! ### Where an area lies -/

/-- An area as an extent. -/
def AreaAt.ent (a : AreaAt) : CabEntry := { CabEntry.reset with vbase := BitVec.ofNat 64 a.va, frames := a.frames }

/-- The location of an area: the home and physical address of its first byte. -/
def State.areaPlace (s : State) (a : AreaAt) : Nat :=
  match a.ent.elemSegs 0 0 1 with
  | g :: _ => (if s.isRemote g.frame then (g.frame.peer + 1) * 2 ^ 40 else 0) + g.addr
  | [] => 0

/-- The area at offset `off` of an extent, over the pages of `n` bytes. -/
def CabEntry.areaAt (e : CabEntry) (off n : Nat) : AreaAt :=
  let va := e.vbase.toNat + off
  ⟨va, e.frames.filter fun f => f.vpage < va + n && va < f.vpage + 2 ^ f.bits⟩

/-- Bytes [off, off + n) of an area; `got` holds the lines of other chips that have arrived. -/
def State.areaBytes (s : State) (got : List GotLine) (a : AreaAt) (off n : Nat) :
    List Byte :=
  (a.ent.elemSegs 0 off n).flatMap fun g =>
    if g.frame.hole then List.replicate g.len 0
    else if s.isRemote g.frame then
      bytesOf g.len (match gotLine got g.frame.peer (lineNo g.addr) with
        | some (d, _) => lineBytes d g.lineOff g.len
        | none => 0)
    else s.physBytes g.addr g.len

/-- The parts of bytes [off, off + n) of an area. -/
def AreaAt.parts (a : AreaAt) (off n : Nat) : List Seg := a.ent.elemSegs 0 off n

/-- The lines of other chips that bytes [off, off + n) of an area need and `got` lacks. -/
def State.areaNeeds (s : State) (got : List GotLine) (a : AreaAt) (off n : Nat) :
    List (Nat × Nat) :=
  (((a.ent.elemSegs 0 off n).filter fun g =>
    s.isRemote g.frame && (gotLine got g.frame.peer (lineNo g.addr)).isNone).map
      fun g => (g.frame.peer, lineNo g.addr)).eraseDups

/-- Poison moves into the sectors of an area on this module (R402). -/
def State.areaTaint (s : State) (a : AreaAt) (offs : List Nat) : State :=
  offs.foldl (fun s off => (a.ent.elemSegs 0 off 1).foldl (fun s g =>
    if s.isRemote g.frame || g.frame.hole then s
    else { s with poison := (s.poison ++ [g.addr / 32]).eraseDups }) s) s

/-- Writes bytes into an area from offset `off`, on behalf of a context: at their homes here, and as packets that
no request awaits to other chips (core `n` names them). `bad` are offsets in the area that receive poison (R402).
Log 43: DEDUCED, unsafe. -/
def State.areaWrite (s : State) (n ctx : Nat) (a : AreaAt) (off : Nat) (l : List Byte) (bad : List Nat) : State :=
  let s := s.entWrite ctx a.ent off l
  let s := (a.ent.elemSegs 0 off l.length).foldl (fun s g =>
    if s.isRemote g.frame then
      s.sendAside n { s.packet 1 g.frame.peer 2 with
        line := lineNo g.addr, sect := sectorsOf (byteMask g.lineOff g.len),
        mask := byteMask g.lineOff g.len,
        data := lineWith 0 g.lineOff g.len (natOfBytes ((l.drop g.pos).take g.len)),
        body := [BitVec.allOnes 64, s.viewWord 0, pageWord ctx g.frame,
          (sectorMarks g.lineOff (off + g.pos) g.len bad).setWidth 64] }
    else s) s
  s.areaTaint a bad

/-- The sector of an area's byte is poisoned (R402); a sector of another chip carries its mark in its line. -/
def State.areaBad (s : State) (got : List GotLine) (a : AreaAt) (off n : Nat) : Bool :=
  (a.ent.elemSegs 0 off n).any fun g =>
    if s.isRemote g.frame then match gotLine got g.frame.peer (lineNo g.addr) with
      | some (_, p) => poisonHit p g.lineOff g.len
      | none => false
    else poisonHit (s.homePoison (lineNo g.addr)) g.lineOff g.len

/-! ### The bytes of a save (R387) -/

/-- The length of an area in bytes. -/
def areaLen (kib : Nat) : Nat := 0x16400 + 1024 * kib + 16

/-- A list of bytes brought to length `n` with zeros. -/
def padTo (n : Nat) (l : List Byte) : List Byte := l.take n ++ List.replicate (n - l.length) 0

/-- 64-bit words in a row. -/
def wordBytes (l : List Nat) : List Byte := l.flatMap (bytesOf 8)

/-- A register number that names a module register (R392, R393). -/
def isModuleReg (r : Nat) : Bool := r = 0x000 || r = 0x001 || r = 0x002 || r = 0x027

/-- The run word of a stream. -/
def StreamState.runWord (v : StreamState) : Nat :=
  natOfBool v.started * 2 ^ 63 + natOfBool v.finished * 2 ^ 62 + natOfBool v.residual * 2 ^ 61 + v.pc.toNat % 2 ^ 40

/-- The counters of a stream. -/
def Core.counterWords (c : Core) (st : Stream) : List Nat :=
  [c.loads st, c.stores st, (c.stream st).copies, (c.stream st).tile]

/-- The in-flight queue in ascending landing cycle, in issue order among equals (R383). -/
def Core.sortedFlight (c : Core) : List InFlight :=
  sortBy (fun a b => decide (a.remaining ≤ b.remaining)) c.inflight

/-- The requests of A, oldest first: its fences stand in the device beside them. -/
def Core.reqsA (c : Core) : List Req := c.reqs.filter fun r => r.str = .a && (memOpOf r.instr).isSome

/-- The count word at 0x6B8. -/
def Core.countWord (c : Core) : Nat :=
  let q : Nat → Nat → Nat := fun n sh => n % 32 * 2 ^ sh
  q (c.loadQ 0).length 0 + q (c.loadQ 1).length 5 + q (c.loadQ 2).length 10 + q (c.loadQ 3).length 15 +
    q (c.storeQ 0).length 20 + q (c.storeQ 1).length 25 + c.inflight.length % 64 * 2 ^ 30 +
    c.reqsA.length % 128 * 2 ^ 36

/-- The write mask of an in-flight entry by the 32-bit lanes that it touches (R48, R383). -/
def laneMask (m : Vec) : Nat :=
  (List.range 64).foldl (fun a i => if m.extractLsb' (32 * i) 32 = 0 then a else a + 2 ^ i) 0

/-- An entry of the in-flight queue (R383). -/
def InFlight.bytes (f : InFlight) : List Byte :=
  let value : List Byte := match f.op with
    | .write => bytesOf 256 f.value.toNat
    | .ckIsum n => padTo 256 (bytesOf 16 n.toNat)
    | .ckFsum n nan pinf ninf count =>
      padTo 256 (bytesOf 48 (n % (2 ^ 384 : Nat)).toNat ++
        bytesOf 8 (natOfBool nan + natOfBool pinf * 2 + natOfBool ninf * 4) ++ bytesOf 8 count)
    | .check => List.replicate 256 0
  let whole := 2 ^ 64 - 1
  let (n, file, wmask) := match f.dest with
    | .e n => (n, 0, whole)
    | .v n => (n, 1, if f.op = .write then laneMask f.wmask else whole)
    | .m n => (n, 2, whole)
    | .ck n => (n, 3, whole)
  let op := match f.op with
    | .write => 0
    | .ckIsum _ => 1
    | .ckFsum _ _ _ _ _ => 2
    | .check => 3
  value ++ bytesOf 8 wmask ++
    bytesOf 8 (n % 64 + file * 2 ^ 6 + f.remaining % 32 * 2 ^ 8 + f.flags.toNat * 2 ^ 13 + op * 2 ^ 18 +
      f.pc.toNat % 2 ^ 40 * 2 ^ 24)

/-- The six words that name a request: instruction, PC, base, slot, request ID and peer.
Log 43: DEDUCED, unsafe. -/
def Req.words (r : Req) : List Nat :=
  [(encode r.instr).toNat, r.pc.toNat, r.base.toNat, r.slot, r.id.getD 0, r.peer]

/-- A request record of A. -/
def Req.bytes (r : Req) : List Byte :=
  padTo 320 (wordBytes r.words ++ vecBytes r.data.data ++ bytesOf 8 r.data.enable.toNat)

/-- The code of a job's state (R284). -/
def JobState.code : JobState → Nat
  | .free => 0
  | .pending => 1
  | .ready => 2
  | .running => 3
  | .parked => 4
  | .done => 5

/-- The state of a code. -/
def jobStateOf (n : Nat) : JobState :=
  if n = 1 then .pending else if n = 2 then .ready else if n = 3 then .running else if n = 4 then .parked
  else if n = 5 then .done else .free

/-- A Sideboard slot of the area. -/
def Job.bytes (j : Job) : List Byte :=
  let count := ((List.range 32).filter j.preds.getLsbD).length
  bytesOf 128 j.card.toNat ++
    wordBytes [j.preds.toNat + j.bound.getD 0 % 2 ^ 32 * 2 ^ 32,
      j.state.code + count % 32 * 2 ^ 3 + natOfBool j.bound.isSome * 2 ^ 8 + natOfBool (j.view.getLsbD 63) * 2 ^ 9 +
        j.view.toNat % 2 ^ 48 * 2 ^ 16, j.cursor, 0] ++
    bytesOf 16 j.checksum0.toNat ++ bytesOf 16 j.checksum1.toNat

/-- A pending trap of the area. -/
def pendBytes (p : Option PendingTrap) : List Byte :=
  match p with
  | some t => wordBytes [t.cause.toNat, t.epc.toNat, t.opc.toNat]
  | none => List.replicate 24 0

/-- The header of an area (R388). -/
def State.areaHeader (s : State) (n serial : Nat) (drop esc : Bool) (cause : Nat) : List Byte :=
  let c := s.coreAt n
  padTo 64 (wordBytes [1,
    c.ctx % 1024 + natOfBool drop * 2 ^ 16 + natOfBool (s.ctxAt c.ctx).prot * 2 ^ 17 + natOfBool c.cont.th * 2 ^ 18 +
      natOfBool esc * 2 ^ 19 + n % 128 * 2 ^ 20 + c.recSlot % 2 ^ 16 * 2 ^ 32 + c.recDie % 4 * 2 ^ 48,
    serial, cause, c.cont.ssave.toNat, areaLen (ssaveKib c.cont.ssave)])

/-- The bytes of a save from 0x40 up to the tag (R387).
Log 43: DEDUCED, unsafe. -/
def State.areaBody (s : State) (n : Nat) : List Byte :=
  let c := s.coreAt n
  let regs : SMap W64 → Nat → List Byte := fun t k => wordBytes ((List.range k).map fun i => (SMap.get 0 t i).toNat)
  let spad := (List.range (1024 * ssaveKib c.cont.ssave)).map fun i =>
    let a := ssaveStart c.cont.ssave + i
    if c.inBuf 1 a 1 then Memory.read c.localMem (c.bufAddr 1 a) else 0
  let shadow := c.matrix.shadow
  regs c.x 32 ++ regs c.k 16 ++ regs c.a 32 ++ regs c.e 32 ++
    wordBytes ((List.range 8).map fun i => (c.maskReg i).toNat) ++
    (List.range 4).flatMap (fun i => bytesOf 16 (c.chk i).toNat) ++
    wordBytes ((List.range 64).map fun r =>
      if isModuleReg r then 0
      -- a halted core is saved with sys.cpc at the slot after its `halt` (R394)
      else if r = 0x15 ∧ c.mode = .halted then (pcReg c.sc.pc).toNat
      else ((s.csr n r).getD 0).toNat) ++
    wordBytes [c.sc.runWord, c.sa.runWord, c.sx.runWord] ++
    wordBytes (c.counterWords .c ++ c.counterWords .a ++ c.counterWords .x) ++
    bytesOf 8 c.countWord ++
    wordBytes ((List.range 16).map fun i => (c.bound i).getD (2 ^ 64 - 1)) ++
    (if c.matrix.shadowReady then bytesOf 16 (shadow.src % 2 ^ 24 + shadow.fmt % 16 * 2 ^ 24 + 2 ^ 63)
      else List.replicate 16 0) ++
    (List.range 32).flatMap (fun i => match c.job i with
      | some j => bytesOf 4 (j.launch % 2 ^ 16 + j.die % 4 * 2 ^ 16)
      | none => bytesOf 4 0) ++
    padTo 48 (bytesOf 8 (c.aview.toNat % 2 ^ 48 + natOfBool (c.aview.getLsbD 63) * 2 ^ 63)) ++
    (List.range 64).flatMap (fun i => vecBytes (c.vec i)) ++
    (List.range 4).flatMap (fun q => padTo 4352 ((c.loadQ q).flatMap fun e =>
      vecBytes e.data ++ wordBytes [e.resid.toNat, e.view.toNat])) ++
    (List.range 2).flatMap (fun q => padTo 4224 ((c.storeQ q).flatMap fun e =>
      vecBytes e.data ++ bytesOf 8 e.enable.toNat)) ++
    padTo 9792 (c.sortedFlight.flatMap InFlight.bytes) ++
    padTo 30720 (c.reqsA.flatMap Req.bytes) ++
    (List.range 32).flatMap (fun i => match c.job i with
      | some j => j.bytes
      | none => List.replicate 192 0) ++
    padTo 192 (pendBytes c.pendC ++ pendBytes c.pendA ++ pendBytes c.pendX ++ padTo 64 (match c.unresolved with
      | some r => wordBytes r.words
      | none => [])) ++
    spad

/-- The offset in an area of the register that a key of Store names. -/
def areaReg (k : Nat) : Nat :=
  if k < 32 then 0x40 + 8 * k
  else if k < 64 then 0x1C0 + 8 * (k - 32)
  else if k < 96 then 0x2C0 + 8 * (k - 64)
  else if k < 128 then 0x140 + 8 * (k - 96)
  else if k < 192 then 0x800 + 256 * (k - 128)
  else if k < 200 then 0x3C0 + 8 * (k - 192)
  else 0x400 + 16 * (k - 200)

/-- The bytes of the register that a key names. -/
def regBytes (k : Nat) : Nat := if k < 128 then 8 else if k < 192 then 256 else if k < 200 then 8 else 16

/-- The keys of the registers that hold a value. -/
def regKeys : List Nat :=
  (List.range 204).filter fun k => k != 0 && k != 32 && k != 64 && k != 192 && !(112 ≤ k && k < 128)

/-- The offsets of the area that receive poison: registers, queue entries, in-flight entries and SPAD words (R402).
Log 21: DEDUCED, unsafe. 43: DEDUCED, unsafe. -/
def Core.areaPoison (c : Core) : List Nat :=
  let lq := (List.range 4).flatMap fun q => (c.loadQ q).zipIdx.filterMap fun p =>
    if p.1.poison then some (0x4800 + 4352 * q + 272 * p.2) else none
  let sq := (List.range 2).flatMap fun q => (c.storeQ q).zipIdx.filterMap fun p =>
    if p.1.poison then some (0x8C00 + 4224 * q + 264 * p.2) else none
  let fl := c.sortedFlight.zipIdx.filterMap fun p => if p.1.poison then some (0xAD00 + 272 * p.2) else none
  let sp := if c.localPoison.isEmpty then []
    else (List.range (128 * ssaveKib c.cont.ssave)).filterMap fun w =>
      let a := ssaveStart c.cont.ssave + 8 * w
      if c.inBuf 1 a 8 && c.bufPoison 1 a 8 then some (0x16400 + 8 * w) else none
  c.regPoison.map areaReg ++ lq ++ sq ++ fl ++ sp

/-- The IV of a context's save (R389). -/
def saveIv (ctx serial : Nat) : List Nat := (bytesOf 2 ctx ++ bytesOf 2 0 ++ bytesOf 8 serial).map (·.toNat)

/-- The bytes of an area from its header and body: sealed under the context's key when it is protected, with a
tag; otherwise with a tag of zeros (R387, R389).
Log 14: DESIGN CHOICE, safe. -/
def sealArea (x : Ctx) (ctx serial : Nat) (header body : List Byte) : List Byte :=
  if x.prot then
    let (ct, tag) := gcmSeal x.sealKey (saveIv ctx serial) (header.map (·.toNat)) (body.map (·.toNat)) true
    header ++ ct.map (BitVec.ofNat 8) ++ tag.map (BitVec.ofNat 8)
  else header ++ body ++ List.replicate 16 0

/-- The body of an area in clear, and whether its tag verifies (R390). -/
def openArea (x : Ctx) (ctx serial : Nat) (area : List Byte) : List Byte × Bool :=
  let header := area.take 64
  let body := (area.drop 64).take (area.length - 80)
  if x.prot then
    let (pt, tag) := gcmSeal x.sealKey (saveIv ctx serial) (header.map (·.toNat)) (body.map (·.toNat)) false
    (pt.map (BitVec.ofNat 8), tag.map (BitVec.ofNat 8) = area.drop (area.length - 16))
  else (body, true)

/-! ### The steps of a pre-emption (R385) -/

/-- The requests of C that a reconfiguration holds at their source (R367), and those that stand behind one: their stream is
at a pre-emption point, and they are saved as requests still to be checked.
Log 44: DEDUCED, unsafe. -/
def State.heldAtSource (s : State) (n : Nat) : List Req :=
  if s.fab.reconf = .run then []
  else (s.coreAt n).reqs.foldl (fun l r =>
    if r.str = .c ∧ r.checked ∧ !r.sent ∧ r.got.isEmpty ∧ r.await.isEmpty ∧
      (r.segs.any (fun g => s.isRemote g.frame) ∨ l.any fun q => s.standsBefore n q r) then l ++ [r] else l) []

/-- What a core itself must come to in a pre-emption (R385): C has its answers, the checked requests other than those of
`held` have performed or stopped, no engine runs, the results that were due have landed, and no stream awaits a line. A wait
that a remote home has parked, and that C froze at, is no request under way.
Log 44: DEDUCED, unsafe. -/
def Core.parked (c : Core) (held : List Req) : Bool :=
  c.cwait = .none && (c.frozen.all fun z => c.reqs.any fun r => r.kept && r.num = z.num) &&
    !(c.reqs.any fun r => r.checked && r.stop.isNone && !r.kept && !held.contains r) &&
    c.matrix.running.isNone && c.matrix.loading.isNone && c.piece.isNone &&
    !(c.jobs.any fun p => p.2.state = .running) &&
    !(c.inflight.any fun f => f.remaining = 0) &&
    !([Stream.c, .a, .x].any fun st => (c.stream st).awaiting.isSome)

/-- The signal update of a DONE job stays held at its source: its home has no route, or the fabric is being reconfigured
(R367, R368). -/
def State.updateHeld (s : State) (n slot : Nat) : Bool :=
  let own : Outstanding → Bool := fun q => q.tag == [1, n, slot]
  (s.fab.held.any fun q => own q && (s.fab.reconf != .run || !s.hasRoute q.packet.dst)) ||
    s.fab.outstanding.any fun q => own q && !s.hasRoute q.packet.dst

/-- A pre-emption has what it waits for (R385): the core has parked, and each DONE job has finished its signal update, or
has it held (R368). -/
def State.parked (s : State) (n : Nat) : Bool :=
  (s.coreAt n).parked (s.heldAtSource n) && (s.coreAt n).jobs.all fun p => p.2.state != .done || s.updateHeld n p.1

/-- The held signal updates of jobs change their owner. -/
def State.retag (s : State) (f : List Nat → List Nat) : State :=
  let g : Outstanding → Outstanding := fun q => { q with tag := f q.tag }
  { s with fab := { s.fab with held := s.fab.held.map g, outstanding := s.fab.outstanding.map g } }

/-- The updates of jobs that end without them (R287): those held are dropped, and the answers of those sent release
nothing. `gone` names the owners that have ended. -/
def State.dropUpdates (s : State) (gone : List Nat → Bool) : State :=
  let s : State := { s with fab := { s.fab with held := s.fab.held.filter fun q => !gone q.tag } }
  s.retag fun t => if gone t then [0] else t

/-- The owner of an update is a job of a core. -/
def ownerCore (n : Nat) : List Nat → Bool
  | [1, m, _] => m = n
  | _ => false

/-- The owner of an update is a saved job of a record. -/
def ownerRec (die slot uid : Nat) : List Nat → Bool
  | [3, d, i, u, _] => d = die && i = slot && u = uid
  | _ => false

/-- The held updates of a core's jobs go with the record that is saved (R368).
Log 43: DEDUCED, unsafe. -/
def State.heldToRec (s : State) (n die slot uid : Nat) : State :=
  s.retag fun t => match t with
    | [1, m, i] => if m = n then [3, die, slot, uid, i] else t
    | _ => t

/-- The held updates of a record's jobs go with the core that it is restored on. -/
def State.heldToCore (s : State) (n die slot uid : Nat) : State :=
  s.retag fun t => match t with
    | [3, d, i, u, j] => if d = die ∧ i = slot ∧ u = uid then [1, n, j] else t
    | _ => t

/-- A job that is DONE after a restore, and of whose update nothing is under way, makes it (R287).
Log 43: DEDUCED, unsafe. -/
def State.finishDone (s : State) (n : Nat) : State :=
  (s.coreAt n).jobs.foldl (fun s p =>
    if p.2.state ≠ .done ∨ ((s.fab.held ++ s.fab.outstanding).any fun q => q.tag == [1, n, p.1]) then s
    else s.signalWord (dieOf n) ⟨p.2.ctx, p.2.sigTok, p.2.sigOff, p.2.cls⟩ (completionWord p.2.err p.2.cause)
      [1, n, p.1]) s

/-- Step 1 of R385: the streams of a core freeze as R373 and R382 say.
Log 44: DEDUCED, unsafe. -/
def State.beginSave (s : State) (n : Nat) (cmd : SaveCmd) : State :=
  (s.freeze n).modCore n fun c => { c with saving := some cmd }

/-- A core after a save (R385): with `.keep` its memory stays resident for the record; with `.drop` it is
released with zeros. The arrival of a `gbar` goes with the record (R349). -/
def Core.afterSave (c : Core) (drop : Bool) : Core :=
  let r := { c.release with jobs := [], matrix := Core.reset.matrix }
  if drop then
    { r with localMem := [], localPoison := [], abufTags := [], bankrole0 := 0, bankrole1 := 0, resident := none }
  else { r with mode := .saved, ctx := c.ctx, recDie := c.recDie, recSlot := c.recSlot }

/-- The write of the area in step 5 of R385, under the context's next save serial.
Log 43: DEDUCED, unsafe. -/
def State.writeSave (s : State) (n : Nat) (cmd : SaveCmd) : State :=
  let s := s.wakeFeed n
  let c := s.coreAt n
  let x := s.ctxAt c.ctx
  let serial := x.saveCount + 1
  let cause := (cmd.cause.map (·.toNat)).getD cPreempt
  let area := sealArea x c.ctx serial (s.areaHeader n serial cmd.drop cmd.cause.isSome cause) (s.areaBody n)
  let s := s.areaWrite n c.ctx cmd.area 0 area c.areaPoison
  (s.modCtx c.ctx fun x => { x with saveCount := serial }).modCore n fun c =>
    { c with saving := some { cmd with serial := some serial } }

/-- The record enters SAVED, and step 6 of R385, once the area is written.
Log 43: DEDUCED, unsafe. -/
def State.finishSave (s : State) (n : Nat) (cmd : SaveCmd) (serial : Nat) : State :=
  let c := s.coreAt n
  let late := s.heldAtSource n
  let s := late.foldl (fun s r => s.flightReq c.ctx r false) s
  let s := s.modRec c.recDie c.recSlot fun r =>
    { r with
      state := .saved, serial := serial, area := cmd.area, keep := if cmd.drop then none else some n,
      heldJobs := c.jobs
      heldReqs := (c.reqs.filter fun r => r.str = .a || late.contains r).map fun r =>
        if r.str = .c then { r with checked := false } else r
      heldC := c.unresolved,
      heldBinds := (c.binds.map (·.2)).eraseDups, heldMasks := c.sortedFlight.map (·.wmask),
      heldArrived := c.arrived, heldOuter := c.outer, heldAcked := [] }
  let s := s.heldToRec n c.recDie c.recSlot (((s.recAt c.recDie c.recSlot).map (·.uid)).getD 0)
  let s := (s.modCore n fun c => c.afterSave cmd.drop).unschedule n
  let s := if cmd.drop then s.post [.pickup n] else s
  -- the Sideboard is empty: what is BLOCKED on it may enter (R278)
  let s := s.post ((s.blockedAll n).map fun p => .remqUnblock p.1 p.2)
  let s := match cmd.owner with
    | some (ctx, i) => s.flight ctx i false
    | none => s
  let s := if cmd.cause.isSome then
      { s with mgmt := { s.mgmt with posted := s.mgmt.posted ++ [⟨3, n, (cmd.cause.getD 0)⟩] } }
    else s
  match cmd.reply with
  | some (core, d) => s.answerStatus core d 0 (CWait.manages (· == 0))
  | none => s

/-- An area on this module names an address without memory. -/
def State.areaHole (s : State) (a : AreaAt) (n : Nat) : Option Nat := s.badPart (a.ent.elemSegs 0 0 n)

/-- Steps 4 to 6 of R385, once the core has parked: its CACHE is written back, the area is written, and the record enters
SAVED, each when the bytes of the one before have reached their homes. `again` is the event that goes on after a wait.
Log 44: DEDUCED, unsafe. -/
def State.runSave (s : State) (n : Nat) (cmd : SaveCmd) (again : Event) : State :=
  let s := if cmd.serial.isSome then s else
    let s := s.flushCache n
    if s.coreLeaving n then s else s.writeSave n cmd
  match ((s.coreAt n).saving.bind (·.serial)) with
  | some serial => if s.coreLeaving n then s.post [again] else s.finishSave n cmd serial
  | none => s.post [again]

/-- PREEMPTION (R385, R386): firmware's request, or one under way, freezes the core's streams, waits for its
requests and engines, and saves its continuation. A core without a RUNNING continuation ignores it.
Log 44: DEDUCED, unsafe. -/
def execPreemption (core pa : Nat) (release : Bool) (s : State) : Outcome State Fault Refusal :=
  let c := s.coreAt core
  if c.mode ≠ .running ∧ c.mode ≠ .halted then .next s
  else
    let cmd := c.saving.getD ⟨none, physArea pa, release, none, none, none⟩
    let s := if c.saving.isSome then s else s.beginSave core cmd
    if cmd.serial.isSome || s.parked core then
      match s.areaHole cmd.area (areaLen (ssaveKib (s.coreAt core).cont.ssave)) with
      | some a => .fault (.unmappedPhysical a)
      | none => .next (s.runSave core cmd (.preemption core pa release))
    else
      let due := if (s.coreAt core).inflight.any fun f => f.remaining = 0 then [Event.xResultLanding core] else []
      .next (s.post (due ++ [.preemption core pa release]))

/-! ### Reading an area back (R390) -/

/-- A table of 64-bit words of an area. -/
def areaTable (img : List Byte) (off k : Nat) : SMap W64 :=
  (List.range k).foldl (fun t i => SMap.set 0 t i (BitVec.ofNat 64 (natAt img (off + 8 * i) 8))) []

/-- A stream from its run word and its counters. -/
def areaStream (img : List Byte) (i : Nat) : StreamState :=
  let w := natAt img (0x640 + 8 * i) 8
  { StreamState.reset with
    started := bitOf w 63, finished := bitOf w 62, residual := bitOf w 61, pc := BitVec.ofNat 64 (w % 2 ^ 40),
    copies := natAt img (0x658 + 32 * i + 16) 8, tile := natAt img (0x658 + 32 * i + 24) 8 }

/-- An entry of the in-flight queue of an area; `held` is the exact write mask that the device has kept beside its lanes. -/
def areaFlight (img : List Byte) (bad : Bool) (at_ : Nat) (held : Option Vec) : InFlight :=
  let v := natAt img at_ 256
  let wm := natAt img (at_ + 0x100) 8
  let w := natAt img (at_ + 0x108) 8
  let n := w % 64
  let file := bitsOf w 7 6
  let op := bitsOf w 19 18
  let lanes : Vec := BitVec.ofNat 2048 ((List.range 64).foldl (fun (a : Nat) i =>
    if bitOf wm i then a + (2 ^ 32 - 1) * 2 ^ (32 * i) else a) (0 : Nat))
  let mask : Vec := (held.filter fun m => laneMask m = wm).getD lanes
  let sum : Nat := v % 2 ^ 384
  let flags := v / 2 ^ 384
  { dest := if file = 0 then .e n else if file = 1 then .v n else if file = 2 then .m (n % 8) else .ck (n % 4)
    wmask := if file = 1 then mask else allBits
    value := BitVec.ofNat 2048 v
    remaining := bitsOf w 12 8
    op := if op = 0 then .write
      else if op = 1 then .ckIsum (BitVec.ofNat 128 v)
      else if op = 2 then
        .ckFsum (if sum < 2 ^ 383 then (sum : Int) else (sum : Int) - (2 ^ 384 : Nat)) (bitOf flags 0) (bitOf flags 1)
          (bitOf flags 2) (bitsOf v 511 448)
      else .check
    flags := BitVec.ofNat 5 (bitsOf w 17 13)
    pc := BitVec.ofNat 64 (bitsOf w 63 24)
    poison := bad }

/-- A request of an area: its record, over what the device has kept of it. -/
def areaReq (img : List Byte) (at_ : Nat) (r : Req) : Req :=
  { r with
    instr := (decode (BitVec.ofNat 64 (natAt img at_ 8)) 0).getD r.instr
    pc := BitVec.ofNat 64 (natAt img (at_ + 8) 8)
    base := BitVec.ofNat 64 (natAt img (at_ + 16) 8)
    slot := natAt img (at_ + 24) 8
    id := r.id.map fun _ => natAt img (at_ + 32) 8
    peer := natAt img (at_ + 40) 8 }

/-- An A request of an area, with the entry that it took; it reads its k register again. -/
def areaReqA (img : List Byte) (i : Nat) (r : Req) : Req :=
  let at_ := 0xD340 + 320 * i
  let q := areaReq img at_ r
  let tok : W64 := match memOpOf q.instr with
    | some op => BitVec.ofNat 64 (natAt img (0x140 + 8 * op.k) 8)
    | none => q.tok
  { q with tok := tok, data := { q.data with
      data := BitVec.ofNat 2048 (natAt img (at_ + 48) 256), enable := BitVec.ofNat 64 (natAt img (at_ + 304) 8) } }

/-- The requests of A from the `n` records of an area that begin at number `i`, among the fences, and the requests of C,
that the device has kept.
-/
def areaReqs (img : List Byte) (n : Nat) : Nat → List Req → List Req
  | _, [] => []
  | i, r :: rest =>
    if (memOpOf r.instr).isNone || r.str = .c then r :: areaReqs img n i rest
    else if i < n then areaReqA img i r :: areaReqs img n (i + 1) rest
    else areaReqs img n i rest

/-- A Sideboard job of an area, over what the device has kept of it: PARKED becomes READY (R284), and
one that waited for a share waits again (R113). -/
def areaJob (img : List Byte) (i : Nat) (j : Job) : Option Job :=
  let at_ := 0x14B40 + 192 * i
  let w0 := natAt img (at_ + 128) 8
  let w1 := natAt img (at_ + 136) 8
  let st := jobStateOf (w1 % 8)
  let l := natAt img (0x750 + 4 * i) 4
  if st = .free then none
  else some { j with
    card := BitVec.ofNat 1024 (natAt img at_ 128)
    state := if st = .parked ∨ st = .running then .ready else st
    preds := BitVec.ofNat 32 w0
    bound := if bitOf w1 8 then some (w0 / 2 ^ 32) else none
    view := BitVec.ofNat 64 (natOfBool (bitOf w1 9) * 2 ^ 63 + w1 / 2 ^ 16)
    cursor := natAt img (at_ + 144) 8
    checksum0 := BitVec.ofNat 128 (natAt img (at_ + 160) 16)
    checksum1 := BitVec.ofNat 128 (natAt img (at_ + 176) 16)
    launch := l % 2 ^ 16, die := l / 2 ^ 16 % 4, key := 0, waiting := false, expired := false, share := false }

/-- A pending trap of an area. -/
def areaPend (img : List Byte) (at_ : Nat) : Option PendingTrap :=
  let w : Nat → W64 := fun i => BitVec.ofNat 64 (natAt img (at_ + 8 * i) 8)
  if w 0 = 0 then none else some ⟨w 0, w 1, w 2⟩

/-- The continuation registers of an area, from its system block and its header. -/
def areaCont (img : List Byte) : ContRegs :=
  let r : Nat → W64 := fun n => BitVec.ofNat 64 (natAt img (0x440 + 8 * n) 8)
  { fpstat := r 0x20 &&& fpstatMask, ldstat := r 0x21 &&& ldstatMask, tvec := r 0x11 &&& tvecMask, bview := r 0x22,
    ssave := BitVec.ofNat 64 (natAt img 0x20 8), tmpa := r 0x18, tmpb := r 0x19, cause := r 0x12,
    epc := r 0x13 &&& pcMask, opc := r 0x14 &&& pcMask, cpc := r 0x15 &&& pcMask, apc := r 0x16 &&& pcMask,
    xpc := r 0x17 &&& pcMask, aretry := r 0x1A, th := bitOf (natAt img 8 8) 18, res := (r 0x10).getLsbD 60 }

/-- The registers, queues and counters of a core from an area in clear; `bad` tells poisoned offsets, and `r` is
the record with what the device has kept. -/
def Core.readArea (c : Core) (img : List Byte) (bad : Nat → Nat → Bool) (r : Rec) : Core :=
  let count := natAt img 0x6B8 8
  let reqsA := areaReqs img (bitsOf count 42 36) 0 r.heldReqs
  let lq : Nat → List LqEntry := fun q => (List.range (bitsOf count (5 * q + 4) (5 * q))).map fun i =>
    let a := 0x4800 + 4352 * q + 272 * i
    ⟨!(reqsA.any fun r => r.queue = q && r.slot = i && r.kind?.any fun k => !k.isStore), BitVec.ofNat 2048 (natAt img a 256),
      BitVec.ofNat 64 (natAt img (a + 256) 8), BitVec.ofNat 64 (natAt img (a + 264) 8), bad a 272⟩
  let sq : Nat → List SqEntry := fun q => (List.range (bitsOf count (20 + 5 * q + 4) (20 + 5 * q))).map fun i =>
    let a := 0x8C00 + 4224 * q + 264 * i
    ⟨BitVec.ofNat 2048 (natAt img a 256), BitVec.ofNat 64 (natAt img (a + 256) 8), bad a 264⟩
  let unres : Option Req := if natAt img 0x16388 8 = 0 then none else r.heldC.map fun q => areaReq img 0x16388 q
  let jobs := (List.range 32).filterMap fun i =>
    ((SMap.find r.heldJobs i).bind (areaJob img i)).map fun j => (i, j)
  let binds := (List.range 16).filterMap fun i =>
    let w := natAt img (0x6C0 + 8 * i) 8
    if w = 2 ^ 64 - 1 then none else some (i, w)
  let m : SMap W64 := (List.range 8).foldl (fun t i =>
    if i = 0 then t else SMap.set 0 t i (BitVec.ofNat 64 (natAt img (0x3C0 + 8 * i) 8))) []
  { c with
    x := SMap.erase (areaTable img 0x40 32) 0, k := areaTable img 0x140 16, a := SMap.erase (areaTable img 0x1C0 32) 0,
    e := SMap.erase (areaTable img 0x2C0 32) 0, m := m,
    ck := (List.range 4).foldl (fun t i => SMap.set 0 t i (BitVec.ofNat 128 (natAt img (0x400 + 16 * i) 16))) [],
    v := (List.range 64).foldl (fun t i => SMap.set 0 t i (BitVec.ofNat 2048 (natAt img (0x800 + 256 * i) 256))) [],
    sc := areaStream img 0, sa := areaStream img 1, sx := areaStream img 2,
    lq := (List.range 4).foldl (fun t q => SMap.put t q (lq q)) [],
    sq := (List.range 2).foldl (fun t q => SMap.put t q (sq q)) [],
    inflight := (List.range (bitsOf count 35 30)).map fun i =>
      areaFlight img (bad (0xAD00 + 272 * i) 272) (0xAD00 + 272 * i) (r.heldMasks[i]?),
    reqs := reqsA, unresolved := unres, cont := areaCont img,
    pendC := areaPend img 0x16340, pendA := areaPend img 0x16358, pendX := areaPend img 0x16370,
    binds := binds, aview := BitVec.ofNat 64 (natAt img 0x7D0 8), jobs := jobs,
    regPoison := regKeys.filter fun k => bad (areaReg k) (regBytes k),
    jobOrder := jobs.foldl (fun n p => max n (p.2.order + 1)) c.jobOrder }

/-- The SPAD range of an area is restored (R387, R390): the bytes that the SPAD has. -/
def Core.readSpad (c : Core) (img : List Byte) (bad : Nat → Nat → Bool) : Core :=
  let n := min (1024 * ssaveKib c.cont.ssave) (c.bufSize 1 - ssaveStart c.cont.ssave)
  let c := c.bufWrite 1 (ssaveStart c.cont.ssave) ((img.drop 0x16400).take n)
  (List.range (n / 8)).foldl (fun (c : Core) w =>
    if bad (0x16400 + 8 * w) 8 then c.bufTaint 1 (ssaveStart c.cont.ssave + 8 * w) 8 else c) c

/-- A buffer footprint of a card leaves the SPAD range of sys.ssave (R390). -/
def Core.leavesSpad (c : Core) (k : Card) : Bool :=
  let lo := ssaveStart c.cont.ssave
  let hi := min (lo + 1024 * ssaveKib c.cont.ssave) (c.bufSize 1)
  (cardFeet k).any fun f => match f with
    | .buf _ b a n => b ≠ 1 || a < lo || hi < a + n
    | _ => false

/-- Checks 1 and 2 of R390 on a header: the fields, then the record. -/
def State.headerReason (s : State) (h : List Byte) (place : Nat) : Nat :=
  let ctl := natAt h 8 8
  let ss := natAt h 0x20 8
  let ctx := ctl % 1024
  let ok := natAt h 0 8 = 1 ∧ bitsOf ctl 15 10 = 0 ∧ bitsOf ctl 31 27 = 0 ∧ ctl / 2 ^ 50 = 0 ∧ ss % 1024 = 0 ∧
    ss / 2 ^ 36 = 0 ∧ ss / 2 ^ 24 ≤ 3072 ∧ natAt h 0x28 8 = areaLen (ss / 2 ^ 24) ∧ natAt h 0x30 16 = 0 ∧
    bitOf ctl 17 = (s.ctxAt ctx).prot
  if !ok then 1
  else match s.recAt (bitsOf ctl 49 48) (bitsOf ctl 47 32) with
    | some r =>
      if r.state ≠ .saved ∨ r.ctx ≠ ctx ∨ s.areaPlace r.area ≠ place then 2
      else if r.serial ≠ natAt h 0x10 8 then 3
      else 0
    | none => 2

/-- The checks of R390 on an area at a place: its body in clear, or the reason of the refusal. -/
def State.checkArea (s : State) (area : List Byte) (place : Nat) : Except Nat (List Byte) :=
  let h := area.take 64
  match s.headerReason h place with
  | 0 =>
    let ctx := natAt h 8 8 % 1024
    let (body, ok) := openArea (s.ctxAt ctx) ctx (natAt h 0x10 8) area
    if ok then .ok (h ++ body) else .error 4
  | k => .error k

/-- A core's jobs are told to go on after a restore or a rollback. -/
def State.wakeJobs (s : State) (n : Nat) : State :=
  (s.readyJobs n).post [.jobDispatch n true, .jobDispatch n false]

/-- Other local memory of a core is given up for a restore: another record loses its resident memory (R399). -/
def State.takeMemory (s : State) (n : Nat) : State :=
  let s := s.flushCache n
  let c := s.coreAt n
  let s := if c.mode = .saved then s.modRec c.recDie c.recSlot fun r => { r with keep := none } else s
  s.modCore n fun c => { c with bankrole0 := 0, bankrole1 := 0, localMem := [], localPoison := [], abufTags := [] }

/-- The streams of a restored core go on: outside a handler, with no trap to deliver, requests that had stopped or gone
unanswered go on as well (R192, R343). -/
def State.resumeRestored (s : State) (n : Nat) : State :=
  let s := [Stream.c, .a, .x].foldl (fun s st => if ((s.coreAt n).stream st).idle then s else s.schedule n st) s
  let c := s.coreAt n
  let s := if c.cont.th ∨ c.firstPending.isSome then s else (s.retryC n c.sc.pc).retryA n
  (s.wakeJobs n).post [.requestPerform n .c, .requestPerform n .a, .trapDelivery n]

/-- A restore that has passed every check writes the continuation onto core `n` (R390, R285). -/
def State.restore (s : State) (n : Nat) (img : List Byte) (bad : Nat → Nat → Bool) : State :=
  let ctl := natAt img 8 8
  let die := bitsOf ctl 49 48
  let slot := bitsOf ctl 47 32
  match s.recAt die slot with
  | none => s
  | some r =>
    let own : Bool := r.keep == some n
    -- a record that another core holds leaves it
    let s := match r.keep with
      | some m => if own then s else (s.modCore m Core.release).post [.pickup m]
      | none => s
    let s := if own then s else s.takeMemory n
    let s := s.setRec die slot { r with
      state := .running, serial := 0, keep := none, area := ⟨0, []⟩, heldJobs := [], heldReqs := [], heldC := none,
      heldBinds := [], heldMasks := [], heldArrived := none, heldOuter := none, heldAcked := [] }
    let s := s.heldToCore n die slot r.uid
    let s := s.modCore n fun c =>
      let roles : Core := if own then c
        else { c with bankrole0 := BitVec.ofNat 64 (natAt img (0x440 + 8 * 0x24) 8)
                      bankrole1 := BitVec.ofNat 64 (natAt img (0x440 + 8 * 0x25) 8) }
      let d := { roles.release with
        mode := .running, recDie := die, recSlot := slot, ctx := r.ctx, launchDie := r.launchDie, launch := r.launch,
        group := r.group, resident := some r.ctx, arrived := r.heldArrived, outer := r.heldOuter }
      (d.readArea img bad r).readSpad img bad
    let w := natAt img 0x740 8
    let m0 := Core.reset.matrix
    let m : Matrix :=
      if !bitOf w 63 then m0
      else if own then
        { m0 with shadow := (s.coreAt n).loadPlane (bitsOf w 27 24) (w % 2 ^ 24), shadowReady := true }
      else { m0 with refused := true }
    let s := s.modCore n fun c => { c with matrix := m }
    let s := (r.heldAcked.foldl (fun s k => s.countJob n k false) s).finishDone n
    let lost := if own then [] else ((s.coreAt n).jobs.filter fun p => (s.coreAt n).leavesSpad p.2.card).map (·.1)
    let s := lost.foldl (fun s i => s.jobDone n i (some cRestore)) s
    s.resumeRestored n

/-! ### The forms (R399) -/

/-- C asks for the lines of other chips that a form reads, with the sectors of the parts that it will read, and waits for
them. -/
def askLines (i : Instr) (tok : Nat) (got : List GotLine) (segs : List Seg) (needs : List (Nat × Nat)) :
    Act Flow := fun s =>
  match needs.find? fun p => !s.hasRoute p.1 with
  | some p => trap cPeer (p.1 % 4096 * 16) s
  | none =>
    if s.fab.reconf ≠ .run then .ok (.stay, s)
    else
      let s := needs.foldl (fun s p =>
        s.send { s.reqPacket s.core .c 0 p.1 1 0 p.2 with
          sect := segSect segs p, body := [BitVec.allOnes 64, s.viewWord 0, pageWord s.cur.ctx (frameOf segs p.1 p.2)] }) s
      let r := { s.newReq i 7 0 0 0 .none .none with
        checked := true, sent := true, tokIndex := tok, got := got, await := needs }
      let s := s.flight s.cur.ctx tok true
      .ok (.stay, s.modCur fun c => { c with reqs := c.reqs ++ [r], cwait := .request })

/-- A core has a RUNNING continuation. -/
def Core.occupied (c : Core) : Bool := c.mode = .running || c.mode = .halted

/-- The checks that `ctxsave` and `ctxload` share: the target core and the offset (R399, R391).
Log 45: DEDUCED, unsafe. -/
def State.badTarget (s : State) (core off : Nat) : Bool := 127 < core || core = s.core || off % 64 ≠ 0

/-- `ctxsave` (R399): C waits until the core's continuation is saved.
Log 45: DEDUCED, unsafe. -/
def ctxsaveBody (f : F3) (drop : Bool) : Act Flow := fun s =>
  let n := (s.rd f.s1).toNat
  let off := (s.rd f.d).toNat
  let tok := s.cur.tok f.s2.toNat
  if s.badTarget n off then trap cIllegal 0 s
  else
    let len := areaLen (ssaveKib (s.coreAt n).cont.ssave)
    match s.checkToken s.cur.ctx tok off len (needR ||| needW) with
    | .error e => trap e 0 s
    | .ok e =>
      let segs := e.elemSegs 0 off len
      if segs.any s.movedPart then trap cStale 0 s
      else match s.badPart segs, segs.find? fun g => s.isRemote g.frame && !s.hasRoute g.frame.peer with
      | some a, _ => .error (.fault (.unmappedPhysical a))
      | none, some g => trap cPeer (g.frame.peer % 4096 * 16) s
      | none, none =>
        if !(s.coreAt n).occupied then .ok (.fall, s.wr f.d 1)
        else if (s.coreAt n).saving.isSome then .error .stall
        else
          let i := tokIndex tok
          let s := (s.noteToken s.core s.cur.ctx i).flight s.cur.ctx i true
          let cmd : SaveCmd := ⟨some (s.cur.ctx, i), e.areaAt off len, drop, none, some (s.core, f.d.toNat), none⟩
          let s := s.modCur fun c => { c with cwait := .management f.d.toNat 0 }
          .ok (.stay, (s.beginSave n cmd).post [.preemption n 0 drop])

/-- CTXSAVE_KEEP (R385, R399). -/
def execCtxsaveKeep (f : F3) (s : State) : Outcome State Fault Refusal :=
  issue f.g true false (ctxsaveBody f false) s

/-- CTXSAVE_DROP (R385, R399). -/
def execCtxsaveDrop (f : F3) (s : State) : Outcome State Fault Refusal :=
  issue f.g true false (ctxsaveBody f true) s

/-- `ctxload` (R390, R399); `got` holds the lines of other chips that have arrived.
Log 45: DEDUCED, unsafe. -/
def ctxloadBody (i : Instr) (f : F3) (evict : Bool) (got : List GotLine) : Act Flow :=
  fun s =>
  let n := (s.rd f.s1).toNat
  let off := (s.rd f.d).toNat
  let tok := s.cur.tok f.s2.toNat
  let ctx := s.cur.ctx
  let k := tokIndex tok
  let refuse : Nat → Except Stop (Flow × State) := fun r => trap cRestore r s
  if s.badTarget n off then trap cIllegal 0 s
  else match s.checkToken ctx tok off (areaLen 0) needR with
    | .error e => trap e 0 s
    | .ok e =>
      let head := e.areaAt off 64
      if (head.parts 0 64).any s.movedPart then trap cStale 0 s
      else match s.areaHole head 64, s.areaNeeds got head 0 64 with
      | some a, _ => .error (.fault (.unmappedPhysical a))
      | none, p :: ps => askLines i k got ((e.areaAt off (areaLen 0)).parts 0 (areaLen 0)) (p :: ps) s
      | none, [] =>
        let kib := min 3072 (bitsOf (natAt (s.areaBytes got head 0 64) 0x20 8) 35 24)
        let len := areaLen kib
        match s.checkToken ctx tok off len needR with
        | .error e => trap e 0 s
        | .ok e =>
          let area := e.areaAt off len
          if (area.parts 0 len).any s.movedPart then trap cStale 0 s
          else match s.areaHole area len, s.areaNeeds got area 0 len with
          | some a, _ => .error (.fault (.unmappedPhysical a))
          | none, p :: ps => askLines i k got (area.parts 0 len) (p :: ps) s
          | none, [] =>
            let s := s.noteToken s.core ctx k
            let c := s.coreAt n
            if c.occupied then .ok (.fall, s.wr f.d 1)
            else match s.checkArea (s.areaBytes got area 0 len) (s.areaPlace area) with
              | .error r => refuse r
              | .ok img =>
                let ctl := natAt img 8 8
                let other : Bool := c.mode == .saved && !(c.recDie = bitsOf ctl 49 48 && c.recSlot = bitsOf ctl 47 32)
                if other && !evict then .ok (.fall, s.wr f.d 2)
                else if !c.jobs.isEmpty ∨ c.underTest then .error .stall
                else .ok (.fall, (s.restore n img (s.areaBad got area)).wr f.d 0)

/-- CTXLOAD (R390, R399). -/
def execCtxload (f : F3) (s : State) : Outcome State Fault Refusal :=
  issue f.g true false (ctxloadBody (.ctxload f) f false []) s

/-- CTXLOAD_EVICT (R390, R399). -/
def execCtxloadEvict (f : F3) (s : State) : Outcome State Fault Refusal :=
  issue f.g true false (ctxloadBody (.ctxloadEvict f) f true []) s

/-! ### Sweeping tokens (R166, R396) -/

/-- A continuation of a context is RUNNING on some core. -/
def State.ctxRunning (s : State) (ctx : Nat) : Bool := s.cores.any fun p => p.2.ctx = ctx && p.2.occupied

/-- The SAVED records of a context, by die and slot. -/
def State.savedRecs (s : State) (ctx : Nat) : List ((Nat × Nat) × Rec) :=
  (List.range 4).flatMap fun d => (s.dieAt d).recs.filterMap fun p =>
    if p.2.ctx = ctx ∧ p.2.state = .saved then some ((d, p.1), p.2) else none

/-- The area of a record as memory holds it. -/
def State.recArea (s : State) (got : List GotLine) (r : Rec) : List Byte :=
  let kib := min 3072 (bitsOf (natAt (s.areaBytes got r.area 0 64) 0x20 8) 35 24)
  s.areaBytes got r.area 0 (areaLen kib)

/-- The token names a RETIRED entry. -/
def State.retiredToken (s : State) (ctx : Nat) (t : W64) : Bool := t ≠ 0 && (s.cab ctx (tokIndex t)).state = .retired

/-- The offsets of the tokens of an area: the k registers and the tokens of its cards. -/
def areaTokens (img : List Byte) : List Nat :=
  ((List.range 16).map fun i => 0x140 + 8 * i) ++
    (List.range 32).filterMap fun i =>
      let at_ := 0x14B40 + 192 * i
      let kind := natAt img at_ 8 / 2 ^ 60
      if natAt img (at_ + 136) 8 % 8 ≠ 0 ∧ (kind = 3 ∨ kind = 4 ∨ kind = 5 ∨ kind = 7) then some (at_ + 8) else none

/-- Replaces the tokens of RETIRED entries in one record and its area, and seals the area again under a new
serial; the count of tokens replaced. -/
def State.sweepRec (s : State) (got : List GotLine) (ctx : Nat)
    (q : (Nat × Nat) × Rec) (img : List Byte) : Nat × State :=
  let hits := (areaTokens img).filter fun o => s.retiredToken ctx (BitVec.ofNat 64 (natAt img o 8))
  let img := hits.foldl (fun (l : List Byte) o => l.take o ++ List.replicate 8 0 ++ l.drop (o + 8)) img
  let held := q.2.heldJobs.filter fun p => s.retiredToken ctx p.2.sigTok
  let jobs := q.2.heldJobs.map fun p => (p.1, if s.retiredToken ctx p.2.sigTok then { p.2 with sigTok := 0 } else p.2)
  let x := s.ctxAt ctx
  let serial := x.saveCount + 1
  let header := img.take 0x10 ++ bytesOf 8 serial ++ (img.drop 0x18).take 0x28
  let area := sealArea x ctx serial header (img.drop 64)
  let marks : List Nat := (List.range (area.length / 32)).filterMap fun i =>
    if s.areaBad got q.2.area (32 * i) 32 then some (32 * i) else none
  let s := s.areaWrite s.core ctx q.2.area 0 area marks
  let s := s.modCtx ctx fun x => { x with saveCount := serial }
  (hits.length + held.length, s.setRec q.1.1 q.1.2 { q.2 with serial := serial, heldJobs := jobs })

/-- `tsweep` (R396, R166). -/
def tsweepBody (f : F3) (got : List GotLine) : Act Flow := fun s =>
  let t := (s.rd f.s1).toNat
  let recs := s.savedRecs t
  let needs := recs.flatMap fun q => s.areaNeeds got q.2.area 0 64
  let more := recs.flatMap fun q => s.areaNeeds got q.2.area 0
    (areaLen (min 3072 (bitsOf (natAt (s.areaBytes got q.2.area 0 64) 0x20 8) 35 24)))
  let imgs := recs.map fun q => s.checkArea (s.recArea got q.2) (s.areaPlace q.2.area)
  if 1024 ≤ t then trap cIllegal 0 s
  else if s.ctxRunning t then .ok (.fall, s.wr f.d (BitVec.allOnes 64))
  else if recs.any (fun q => (q.2.area.parts 0 (areaLen 0)).any s.movedPart) then trap cStale 0 s
  else if !needs.isEmpty then
    askLines (.tsweep f) 0 got (recs.flatMap fun q => q.2.area.parts 0 (areaLen 0)) needs.eraseDups s
  else if !more.isEmpty then
    askLines (.tsweep f) 0 got (recs.flatMap fun q => q.2.area.parts 0 (areaLen 3072)) more.eraseDups s
  else if imgs.any (fun i => match i with | .ok _ => false | .error _ => true) then
    .ok (.fall, s.wr f.d (BitVec.allOnes 64))
  else
    let (n, s) := (recs.zip imgs).foldl (fun (acc : Nat × State) p => match p.2 with
      | .ok img =>
        let (k, s) := acc.2.sweepRec got t p.1 img
        (acc.1 + k, s)
      | .error _ => acc) (0, s)
    let s := s.modCtx t fun x => { x with cabinet := x.cabinet.map fun p =>
      (p.1, if p.2.state = .retired then { p.2 with state := .free, gen := 0 } else p.2) }
    .ok (.fall, s.wr f.d (BitVec.ofNat 64 n))

/-- TSWEEP (R396). -/
def execTsweep (f : F3) (s : State) : Outcome State Fault Refusal := issue f.g true false (tsweepBody f []) s

/-! ### Checkpoints (R398, R404 to R406) -/

/-- The records of a context, by die and slot. -/
def State.ctxRecs (s : State) (ctx : Nat) : List ((Nat × Nat) × Rec) :=
  (List.range 4).flatMap fun d => (s.dieAt d).recs.filterMap fun p =>
    if p.2.ctx = ctx then some ((d, p.1), p.2) else none

/-- The launches of a context, by die and number. -/
def State.ctxLaunches (s : State) (ctx : Nat) : List ((Nat × Nat) × Launch) :=
  (List.range 4).flatMap fun d => (s.dieAt d).launches.filterMap fun p =>
    if p.2.ctx = ctx then some ((d, p.1), p.2) else none

/-- The interval of a context closes and the next opens (R398, R404, R405).
Log 46: DEDUCED, unsafe. -/
def State.openInterval (s : State) (ctx : Nat) : State :=
  let s : State := { s with homes := { s.homes with undo := s.homes.undo.filter fun u => u.ctx ≠ ctx } }
  let recs := s.ctxRecs ctx
  let launches := s.ctxLaunches ctx
  s.modCtx ctx fun x =>
    { x with ckpt := (x.ckpt + 1) % 2 ^ 32, overflow := false, recSnap := recs, launchSnap := launches }

/-- CKPT (R398). -/
def execCkpt (f : FI) (s : State) : Outcome State Fault Refusal :=
  issue f.g true false (fun s =>
    let t := (s.rd f.s1).toNat
    if 1024 ≤ t then trap cIllegal 0 s
    else if s.ctxRunning t then .ok (.fall, s.wr f.d (BitVec.allOnes 64))
    else
      let s := s.openInterval t
      .ok (.fall, s.wr f.d (BitVec.ofNat 64 (s.ctxAt t).ckpt))) s

/-- The cores whose local memory a context holds. -/
def State.memoryCores (s : State) (ctx : Nat) : List Nat :=
  (s.cores.filter fun p => p.2.resident = some ctx).map (·.1)

/-- An engine of a core runs a job. -/
def Core.engineBusy (c : Core) : Bool :=
  c.matrix.running.isSome || c.matrix.loading.isSome || c.piece.isSome || c.jobs.any fun p => p.2.state = .running

/-- The in-flight counts that a record holds: of the signal words of its saved jobs and of a blocked `remq`, and
of its unresolved requests. -/
def Rec.flights (r : Rec) : List (Nat × Nat) :=
  r.heldJobs.map (fun p => (p.2.ctx, tokIndex p.2.sigTok)) ++
    (match r.wait with
      | .remq _ j _ => [(j.ctx, tokIndex j.sigTok)]
      | _ => []) ++
    ((r.heldReqs ++ r.heldC.toList).filter fun q => q.id.isSome).map fun q => (r.ctx, q.tokIndex)

/-- The in-flight counts of records change. -/
def State.recFlights (s : State) (l : List ((Nat × Nat) × Rec)) (up : Bool) : State :=
  (l.flatMap fun q => q.2.flights).foldl (fun s p => s.flight p.1 p.2 up) s

/-- Every Sideboard slot of a core is freed without a signal update (R406). -/
def State.freeJobs (s : State) (n : Nat) : State :=
  let c := s.coreAt n
  let s := c.jobs.foldl (fun s p =>
    (s.returnShare n p.1).flight p.2.ctx (tokIndex p.2.sigTok) false) s
  let s := s.dropUpdates (ownerCore n)
  let s : State := { s with events := s.events.filter fun e => match e with
    | .signalUpdateAck m _ => m ≠ n
    | _ => true }
  let s := s.modCore n fun c => { c with jobs := [], matrix := Core.reset.matrix, stopping := false, piece := none }
  let s := c.jobs.foldl (fun s p => s.reapLaunch p.2.die p.2.launch) s
  s.post ((s.blockedAll n).map fun p => .remqUnblock p.1 p.2)

/-- A record of the start of the interval returns (R406): READY on the Shelves with a new t0; WAITING tests and
parks again; SAVED and BLOCKED stay. `now` is what its slot held before.
Log 46: DEDUCED, unsafe. -/
def State.returnRec (s : State) (now : Option Rec) (q : (Nat × Nat) × Rec) : State :=
  let (die, slot) := q.1
  let r := q.2
  match r.state, r.wait with
  | .saved, _ =>
    let keep := now.bind fun p => if p.state = .saved ∧ p.serial = r.serial then p.keep else none
    s.setRec die slot { r with keep := keep }
  | .blocked, .remq t _ _ => (s.setRec die slot r).post (if (s.coreAt t).openSlot.isSome then [.remqUnblock die slot] else [])
  | .waiting, .signal _ _ home addr thr op d pc =>
    -- at another chip, and on a word that has versions, the form issues again
    if 16 ≤ home ∨ (SMap.find s.homes.bLines (lineNo addr)).isSome then
      (s.setRec die slot { r with pc := pc }).makeReady die slot r.homeDie
    else
      let v : W64 := BitVec.ofNat 64 (lineBytes (s.homeLine (lineNo addr)) (addr % 128) 8)
      let s := s.setRec die slot r
      let w : Waiter := ⟨addr, die, slot, 0, thr, op, none⟩
      if waitHolds op v thr then (s.modRec die slot fun r => { r with args := r.args.set (d - 1) v }).post [.waiterWake die slot]
      else { s with homes := { s.homes with waiters := s.homes.waiters ++ [w] } }
  | _, _ => (s.setRec die slot r).makeReady die slot r.homeDie

/-- Steps 2 and 5 of R406: the continuations and launches of a context return to what they were. -/
def State.returnRecs (s : State) (ctx : Nat) : State :=
  let x := s.ctxAt ctx
  let now := s.ctxRecs ctx
  let old := if x.log then x.recSnap else now
  let s := (s.recFlights now false).recFlights old true
  -- what a record that stays SAVED holds back stays held; the updates of the others' jobs are not made
  let stays : ((Nat × Nat) × Rec) → Bool := fun q =>
    old.any fun p => p.1 = q.1 && p.2.uid = q.2.uid && p.2.state == .saved && p.2.serial = q.2.serial
  let s := now.foldl (fun s q => if stays q then s else s.dropUpdates (ownerRec q.1.1 q.1.2 q.2.uid)) s
  let s := (List.range 4).foldl (fun s d => s.modDie d fun q =>
    { q with
      recs := q.recs.filter fun p => p.2.ctx ≠ ctx
      launches := if !x.log then q.launches
        else (x.launchSnap.filter fun l => l.1.1 = d).foldl (fun t l => SMap.put t l.1.2 l.2)
          (q.launches.filter fun p => p.2.ctx ≠ ctx) }) s
  let s := s.modCtx ctx fun x => { x with poolUsed := old.length }
  let s := old.foldl (fun s q => s.returnRec ((now.find? fun p => p.1 = q.1).map (·.2)) q) s
  (s.ctxLaunches ctx).foldl (fun s l => s.reapLaunch l.1.1 l.1.2) s

/-- Steps 3 and 4 of R406: every cached copy of a logged line is invalidated without write-back, and the old
values return in reverse order.
Log 46: DEDUCED, unsafe. -/
def State.returnLines (s : State) (ctx : Nat) : State :=
  let log := s.homes.undo.filter fun u => u.ctx = ctx && u.interval = (s.ctxAt ctx).ckpt
  let s := log.foldl (fun s u => s.cores.foldl (fun s p => s.modCore p.1 fun c => c.dropLine u.line) s) s
  log.reverse.foldl (fun s u => (s.putLine u.line u.old (BitVec.allOnes 128) u.pois).testWaiters u.line) s

/-- The waits of a context's records end, with the wakes that are due: no write of the rollback wakes them, and a record that
parks again is woken by its own word alone (R406).
Log 46: DEDUCED, unsafe. -/
def State.endWaits (s : State) (ctx : Nat) : State :=
  let now := s.ctxRecs ctx
  let mine : Nat → Nat → Bool := fun d i => now.any fun q => q.1 = (d, i)
  let s := now.foldl (fun s q => match q.2.state, q.2.wait with
    | .waiting, .signal _ _ home addr _ _ _ _ => if 16 ≤ home then s.unpark (home - 16) addr q.1.1 q.1.2 else s
    | _, _ => s) s
  { s with
    homes := { s.homes with waiters := s.homes.waiters.filter fun w => !(w.peer = 0 && mine w.recDie w.recSlot) }
    events := s.events.filter fun e => match e with
      | .waiterWake d i => !mine d i
      | _ => true }

/-- A rollback of a context whose engines have parked (R406).
Log 46: DEDUCED, unsafe. -/
def State.rollBack (s : State) (ctx : Nat) : State :=
  let cs := s.memoryCores ctx
  let s := cs.foldl State.freeJobs s
  let s := ((s.endWaits ctx).returnLines ctx).returnRecs ctx
  -- a core whose record is no longer SAVED there is idle
  cs.foldl (fun s n =>
    let c := s.coreAt n
    let held := match s.recAt c.recDie c.recSlot with
      | some r => r.state = .saved && r.keep = some n
      | none => false
    let s := if c.mode = .saved && !held then s.modCore n Core.release else s
    s.post [.pickup n]) s

/-- A rollback is given up while the engines of its cores park: they go on as they were, and a share that is free meanwhile
finds its job (R113, R405).
Log 46: DEDUCED, unsafe. -/
def State.giveUpRoll (s : State) (cs : List Nat) : State :=
  (cs.filter fun n => (s.coreAt n).stopping).foldl (fun s n => (s.modCore n fun c =>
    { c with stopping := false, jobs := c.jobs.map fun p =>
      (p.1, if p.2.state = .parked then { p.2 with state := .ready } else p.2) }).wakeJobs n |>.post
        [.pickup n, .shareGrant (dieOf n)]) s

/-- CKROLL (R398, R405, R406): C waits until the engines that run jobs of the context have parked.
Log 46: DEDUCED, unsafe. -/
def execCkroll (f : FI) (s : State) : Outcome State Fault Refusal :=
  issue f.g true false (fun s =>
    let t := (s.rd f.s1).toNat
    let cs := s.memoryCores t
    if 1024 ≤ t then trap cIllegal 0 s
    else if s.ctxRunning t then
      .ok (.fall, (s.giveUpRoll cs).wr f.d (BitVec.allOnes 64))
    else if (s.ctxAt t).overflow then .ok (.leave, (s.giveUpRoll cs).raise { code := cIllegal })
    else if cs.any fun n => (s.coreAt n).engineBusy then
      .ok (.stay, cs.foldl (fun s n => s.modCore n fun c => { c with stopping := true }) s)
    else .ok (.fall, (s.rollBack t).wr f.d 0)) s

end Sys2Proof.Machine
end

