-- ==== Sys2Proof/Machine/Launch.lean ====
section
/-! DEFINITION. The launch front end of a die (R72 to R88, R97 to R99, R108, R109): launch and feed-append records,
the specialisation cache, acceptance, `shelfput` (R399), and launches over the fabric (R83, R84). -/

namespace Sys2Proof.Machine

open Host (Outcome)

/-! ### Answers -/

/-- Sends a management packet that answers one of a peer (R372). -/
def State.mgmtReply (s : State) (p : Packet) (op : Nat) (body : List W64) : State :=
  let r := { s.packet 7 p.src 0 with id := p.id, op := op, body := body }
  let s := s.send r
  { s with fab := { s.fab with mgmtReplies := s.fab.mgmtReplies.map fun q =>
      if q.peer = p.src ∧ q.id = p.id then { q with reply := r } else q } }

/-- The status word of a record is written where its launcher looks for it (R77, R83). -/
def State.launchStatus (s : State) (ctx : Nat) (src : LaunchSrc) (word : Nat) : State :=
  match src with
  | .entry a => s.entryStatus ctx a word
  | .packet p => s.mgmtReply p 2 [BitVec.ofNat 64 word]

/-- The 256 bytes of a record: of its queue entry, or of its packet after the context word. -/
def State.recordBytes (s : State) (src : LaunchSrc) : List Byte :=
  match src with
  | .entry a => s.qRead a 256
  | .packet p => (p.body.drop 1).flatMap fun w => bytesOf 8 w.toNat

/-! ### Lines of other chips that a front end reads -/

/-- The lines that have arrived for a record. -/
def State.frontGot (s : State) (die : Nat) (src : LaunchSrc) : List GotLine :=
  ((s.dieAt die).reads.find? fun r => r.src = src).elim [] (·.got)

/-- A record keeps its place among those that a front end has begun, or takes the last. -/
def Die.keepRead (d : Die) (r : FrontRead) : Die :=
  { d with reads :=
      if d.reads.any fun q => q.src = r.src then d.reads.map fun q => if q.src = r.src then r else q
      else d.reads ++ [r] }

/-- The front end of a die asks for lines that a record needs, by the sectors of the parts that it reads (R358). -/
def State.frontAsk (s : State) (die ctx : Nat) (src : LaunchSrc) (queue : Option Nat) (segs : List Seg)
    (needs : List (Nat × Nat)) : State :=
  let s := s.modDie die fun d => d.keepRead ⟨src, ctx, s.frontGot die src, needs, queue, false⟩
  needs.foldl (fun s p => s.send { s.packet 0 p.1 1 with
    sdie := die, sstr := 2, line := p.2, sect := segSect segs p,
    body := [BitVec.allOnes 64, s.viewWord 0, pageWord ctx (frameOf segs p.1 p.2), 1] }) s

/-- The event in which a front end takes a record. -/
def recordEvent (die ctx : Nat) (src : LaunchSrc) (append : Bool) : Event :=
  match src with
  | .entry a => if append then .feedAppend die ctx a else .launchRecord die ctx a
  | .packet p => .fabricLaunch die p

/-- A record is done with: the next append to the same queue, in the order of their arrival, has its turn (R80). -/
def State.frontDone (s : State) (die : Nat) (src : LaunchSrc) : State :=
  let d := s.dieAt die
  let rest := d.reads.filter (·.src ≠ src)
  let s := s.modDie die fun d => { d with reads := rest }
  match (d.reads.find? (·.src = src)).bind (·.queue) with
  | none => s
  | some q => match rest.find? (·.queue = some q) with
    | some r => if r.await.isEmpty then s.post [recordEvent die r.ctx r.src true] else s
    | none => s

/-- A line that a front end has asked for arrives; with the last, the record is taken again. -/
def State.frontLine (s : State) (die peer line : Nat) (d : BitVec 1024) (p : BitVec 5) : State :=
  match (s.dieAt die).reads.find? fun r => r.await.contains (peer, line) with
  | none => s
  | some r =>
    let r' := { r with got := r.got ++ [(peer, line, d, p)], await := r.await.filter (· ≠ (peer, line)) }
    let s := s.modDie die fun d => { d with reads := d.reads.map fun q => if q.src = r.src then r' else q }
    if r'.await.isEmpty then
      s.post [recordEvent die r.ctx r.src (natAt (s.recordBytes r.src) 7 1 = 2)]
    else s

/-! ### The checks of a launch record (R73 to R76, R81) -/

/-- Status codes of R77. -/
def cBadKind : Nat := 0x10
/-- BAD_IMAGE. -/
def cBadImage : Nat := 0x11
/-- BAD_TOKEN. -/
def cBadToken : Nat := 0x12
/-- BAD_UNIFORM. -/
def cBadUniform : Nat := 0x13
/-- BAD_GROUPS. -/
def cBadGroups : Nat := 0x14
/-- BAD_SHARES. -/
def cBadShares : Nat := 0x15
/-- BAD_POLICY. -/
def cBadPolicy : Nat := 0x16
/-- DECLINED. -/
def cDeclined : Nat := 0x17
/-- CACHE_FULL. -/
def cCacheFull : Nat := 0x18
/-- FEED_FULL. -/
def cFeedFull : Nat := 0x19
/-- NO_SLOT. -/
def cNoSlot : Nat := 0x1A

/-- A launch record. -/
structure LRecord where
  control : Nat
  image : W64
  utok : W64
  uoff : Nat
  ulen : Nat
  gtok : W64
  goff : Nat
  ctok : W64
  coff : Nat
  stok : W64
  soff : Nat
  variants : List Nat
  zeros : Bool
  deriving DecidableEq, Repr, Inhabited

/-- The fields of a launch record (R73); `zeros` says that every reserved byte is zero. -/
def readLaunch (b : List Byte) : LRecord :=
  let q : Nat → Nat := fun o => natAt b o 8
  let w : Nat → W64 := fun o => BitVec.ofNat 64 (q o)
  { control := q 0, image := w 8, utok := w 0x10, uoff := q 0x18, ulen := q 0x20, gtok := w 0x28, goff := q 0x30,
    ctok := w 0x38, coff := q 0x40, stok := w 0x48, soff := q 0x50,
    variants := (List.range 8).map fun i => q (0x60 + 8 * i), zeros := (b.drop 0xA0).all (· = 0) }

/-- The kind of a record. -/
def recKind (control : Nat) : Nat := bitsOf control 63 56
/-- The policy of a launch. -/
def LRecord.policy (r : LRecord) : Nat := bitsOf r.control 55 48
/-- The variant of a launch. -/
def LRecord.variant (r : LRecord) : Nat := bitsOf r.control 47 45
/-- The shares of a launch. -/
def LRecord.shares (r : LRecord) : Nat := bitsOf r.control 39 32
/-- The number of initial records. -/
def LRecord.count (r : LRecord) : Nat := bitsOf r.control 31 16

/-- The budgets of used variant entries decrease strictly (R81). -/
def decreasing : List Nat → Bool
  | a :: b :: t => b < a && decreasing (b :: t)
  | _ => true

/-- Step 1 of R76: the status of the first check that fails, or 0. -/
def LRecord.step1 (r : LRecord) : Nat :=
  let used := r.variants.filter fun v => v / 2 ^ 40 ≠ 0
  if recKind r.control ≠ 1 ∨ bitsOf r.control 44 40 ≠ 0 ∨ bitsOf r.control 15 0 ≠ 0 ∨ r.ulen / 2 ^ 11 ≠ 0 ∨ !r.zeros ∨
    r.count = 0 ∨ 1024 < r.count then cBadKind
  else if 3 < r.policy then cBadPolicy
  else if r.variants.getD r.variant 0 / 2 ^ 40 = 0 ∨ !decreasing (used.map (· / 2 ^ 40)) then cBadKind
  else 0

/-- Step 2 of R76: every token of the record passes its check, with the alignment of its offset. -/
def State.launchTokens (s : State) (ctx : Nat) (r : LRecord) : Bool :=
  let ok : W64 → Nat → Nat → BitVec 4 → Nat → Bool := fun t off n need al =>
    (match s.checkCab ctx t off n need with | .ok _ => true | .error _ => false) && off % al = 0
  ok r.image 0 (s.cab ctx (tokIndex r.image)).length.toNat needX 1 && ok r.utok r.uoff 1152 needR 64 &&
    ok r.gtok r.goff 8192 needR 64 && ok r.ctok r.coff (64 * r.count) needR 64 && ok r.stok r.soff 8 needA 8

/-- The extents that a front end reads for a launch: its image, uniform area, group table and records, with the
bytes it takes of each.
Log 31: DEDUCED, unsafe. -/
def State.launchExtents (s : State) (ctx : Nat) (r : LRecord) : List (AreaAt × Nat) :=
  let at_ : W64 → Nat → Nat → AreaAt × Nat := fun t off n => ((s.cab ctx (tokIndex t)).areaAt off n, n)
  [at_ r.image 0 ((s.cab ctx (tokIndex r.image)).length.toNat / 64 * 64), at_ r.utok r.uoff 1152,
    at_ r.gtok r.goff 8192, at_ r.ctok r.coff (64 * r.count)]

/-- The lines of an image from its bytes. -/
def imageLines (b : List Byte) : List (BitVec 512) :=
  (List.range (b.length / 64)).map fun i => BitVec.ofNat 512 (natAt b (64 * i) 64)

/-- R29 refuses an image. -/
def Image.refused (m : Image) : Bool :=
  m.any fun l => l.getLsbD 28 || (lineStream l ≤ 2 && (l.extractLsb' 32 18) ≠ 0)

/-- Step 4 of R76: the uniform length and the key mask are good (R75). -/
def uniformOk (len : Nat) (mask : List Byte) : Bool :=
  len ≤ 1024 && (List.range 1024).all fun i => i < len || !bitOf (mask.getD (i / 8) 0).toNat (i % 8)

/-- A group table under an allowance (R108, R109): its valid groups, or none when it breaks a rule. -/
def readGroups (x : Ctx) (b : List Byte) : Option (SMap Group) :=
  let allow : BitVec 128 := x.callow1 ++ x.callow0
  let row : Nat → Option (Option (Nat × Group)) := fun i =>
    let mem := natAt b (32 * i) 16
    let ctl := natAt b (32 * i + 16) 8
    let rest := natAt b (32 * i + 24) 8
    if bitOf ctl 63 then
      let g : Group := ⟨BitVec.ofNat 128 mem &&& allow, ctl % 16⟩
      if rest ≠ 0 ∨ bitsOf ctl 62 4 ≠ 0 ∨ g.members = 0 then none else some (some (i, g))
    else if mem = 0 ∧ ctl = 0 ∧ rest = 0 then some none
    else none
  let rows := (List.range 256).map row
  if rows.any (·.isNone) then none
  else
    let gs := rows.filterMap fun r => r.bind id
    if (List.range 128).any fun c => 4 < (gs.filter fun g => g.2.members.getLsbD c).length then none
    else some gs

/-- A continuation record of a launch (R97), checked under R98; none when it breaks a rule.
Log 31: DEDUCED, unsafe. -/
def State.readRec (s : State) (ctx die launch : Nat) (heads : Nat → Bool) (valid : Nat → Bool) (b : List Byte) :
    Option Rec :=
  let ctl := natAt b 0 8
  let frame := natAt b 8 8
  let ftok : W64 := BitVec.ofNat 64 (natAt b 0x10 8)
  let kind := frame / 2 ^ 62
  let off := frame % 2 ^ 40
  let pc := ctl % 2 ^ 40
  let group := bitsOf ctl 53 46
  let tokOk : Bool := match s.checkCab ctx ftok off 64 (needR ||| needW) with | .ok _ => true | .error _ => false
  if ctl / 2 ^ 54 ≠ ctx ∨ !valid group ∨ bitsOf ctl 42 40 ≠ 1 ∨ !heads pc ∨ kind = 3 ∨ bitsOf frame 61 40 ≠ 0 ∨
    natAt b 0x18 8 ≠ 0 ∨ (kind ≠ 2 ∧ ftok ≠ 0) ∨ (kind = 0 ∧ off ≠ 0) ∨ (kind = 1 ∧ 2 ^ 24 ≤ off) ∨ (kind = 2 ∧ !tokOk) then none
  else some
    { state := .ready, ctx := ctx, launchDie := die, launch := launch, group := group, prio := bitsOf ctl 45 43,
      pc := BitVec.ofNat 64 pc, frameKind := kind, frameOff := off, ftok := ftok,
      args := (List.range 4).map fun i => BitVec.ofNat 64 (natAt b (0x20 + 8 * i) 8), t0 := 0, wait := .none,
      homeDie := die, serial := 0, area := ⟨0, []⟩, keep := none, uid := 0, heldJobs := [], heldReqs := [], heldC := none, heldBinds := [],
      heldMasks := [], heldArrived := none, heldOuter := none, heldAcked := [] }

/-- The cache key of R86.
Log 77: DEDUCED, unsafe. -/
def State.launchKey (s : State) (image snapshot mask : List Byte) (len : Nat) : BitVec 256 :=
  let hash := sha256 image
  let marked := (List.range len).filterMap fun i =>
    if bitOf (mask.getD (i / 8) 0).toNat (i % 8) then some (snapshot.getD i 0) else none
  sha256 ((bytesOf 32 hash.toNat).reverse ++ bytesOf 8 s.sysCfg.toNat ++ bytesOf 2 len ++ mask ++ marked)

/-! ### The specialisation cache (R85 to R88) -/

/-- The chunks of 4 KiB that residual code takes: its lines, and a back-map entry for each of them (R87, R95); the unused
index 0 takes no space.
Log 30: DEDUCED, unsafe. -/
def Residual.chunks (r : Residual) : Nat := (128 * r.lines.length + 4095) / 4096

/-- A lookup in a die's cache (R87). -/
def Die.cached (d : Die) (key : BitVec 256) (domain : Nat) : Option BenchEntry :=
  d.bench.find? fun b => b.hash = key && b.domain = domain

/-- An entry becomes most recently used and pinned once more. -/
def Die.pinEntry (d : Die) (key : BitVec 256) (domain : Nat) : Die :=
  { d with
    benchUsed := d.benchUsed + 1
    bench := d.bench.map fun b =>
      if b.hash = key ∧ b.domain = domain then { b with pins := b.pins + 1, used := d.benchUsed } else b }

/-- The entries that must go to make room, least recently used first, unless pinned entries prevent it (R87). -/
def makeRoom (need : Nat) : Nat → List BenchEntry → Option (List BenchEntry)
  | 0, _ => none
  | fuel + 1, l =>
    if l.length < 2048 ∧ l.foldl (fun n b => n + b.size) 0 + need ≤ 8192 then some l
    else
      let free := l.filter fun b => b.pins = 0
      match free.foldl (fun best b => match best with
          | none => some b
          | some x => if b.used < x.used then some b else some x) (none : Option BenchEntry) with
      | none => none
      | some v => makeRoom need fuel (l.filter fun b => !(b.hash = v.hash && b.domain = v.domain))

/-- A launch takes an entry of the cache. -/
def State.takeEntry (s : State) (die domain : Nat) (l : PendingLaunch) (code : Nat) : State × PendingLaunch :=
  let r := ((s.dieAt die).cached l.key domain).map (·.code)
  (s.modDie die fun d => d.pinEntry l.key domain,
    { l with residual := r, entry := some (l.key, domain), status := code })

/-- A launch goes on without residual code, or is refused under policy 2 (R85). -/
def declined (l : PendingLaunch) (reason : Nat) : PendingLaunch :=
  { l with status := reason * 256 + (if l.policy = 2 then (if reason = 8 then cCacheFull else cDeclined) else 0x03) }

/-- The status refuses the launch. -/
def PendingLaunch.refused (l : PendingLaunch) : Bool := 0x10 ≤ l.status % 256

/-! ### Acceptance -/

/-- A refused launch gives back the in-flight count of its signal word (R76, R78). -/
def State.refuseLaunch (s : State) (die : Nat) (l : PendingLaunch) : State :=
  ((s.frontDone die l.src).flight l.ctx (tokIndex l.sig.tok) false).launchStatus l.ctx l.src l.status

/-- The first launch number from `n` on that no live launch has.
Log 32: DEDUCED, unsafe. -/
def freeLaunch (l : SMap Launch) : Nat → Nat → Nat
  | 0, n => n
  | fuel + 1, n => if (SMap.find l n).isSome then freeLaunch l fuel ((n + 1) % 2 ^ 16) else n

/-- Step 7 of R76: the launch is live, its status is written, and its records are on the Shelves.
Log 31: DEDUCED, unsafe. 32: DEDUCED, unsafe. -/
def State.acceptLaunch (s : State) (die : Nat) (l : PendingLaunch) : State :=
  let d := s.dieAt die
  let id := freeLaunch d.launches 65536 (d.nextLaunch % 2 ^ 16)
  let launch : Launch :=
    { ctx := l.ctx, image := l.image, snapshot := l.snapshot, len := l.snapshot.length, groups := l.groups,
      shares := l.shares, sig := l.sig, live := l.recs.length, residual := l.residual, benchKey := l.entry,
      variant := l.variant, ended := false }
  -- the counts of its groups start at 0 (R110, R349)
  let s := (s.forgetCounts die id).modDie die fun d =>
    { d with launches := SMap.put d.launches id launch, nextLaunch := (id + 1) % 2 ^ 16 }
  let s := s.modCtx l.ctx fun x => { x with poolUsed := x.poolUsed + l.recs.length }
  let s := (s.frontDone die l.src).launchStatus l.ctx l.src (id * 2 ^ 48 + l.status)
  l.recs.foldl (fun s r =>
    match (s.dieAt die).freeSlot with
    | none => s
    | some slot =>
      let pc := match l.residual.bind fun q => SMap.find q.heads r.pc.toNat with
        | some p => BitVec.ofNat 64 p
        | none => r.pc
      (s.addRec die slot { r with launch := id, pc := pc }).makeReady die slot die) s

/-- The record slots that are free on a die. -/
def Die.freeSlots (d : Die) : Nat := 65536 - d.recs.length

/-- A launch with its residual code decided is refused, accepted, or waits for record slots (R76, R99). -/
def State.finishLaunch (s : State) (die : Nat) (l : PendingLaunch) : State :=
  if l.refused then s.refuseLaunch die l
  else if (s.dieAt die).waitingLaunches.isEmpty ∧ l.recs.length ≤ (s.dieAt die).freeSlots then s.acceptLaunch die l
  else s.modDie die fun d => { d with waitingLaunches := d.waitingLaunches ++ [l] }

/-- POOL_SLOT_WAIT_END (R99): the front end goes on once its count of slots is free. -/
def execPoolSlotWaitEnd (die : Nat) (s : State) : Outcome State Fault Refusal :=
  match (s.dieAt die).waitingLaunches with
  | [] => .next s
  | l :: rest =>
    if l.recs.length ≤ (s.dieAt die).freeSlots then
      let s := (s.modDie die fun d => { d with waitingLaunches := rest }).acceptLaunch die l
      .next (if rest.isEmpty then s else s.post [.poolSlotWaitEnd die])
    else .next s

/-- The cache domain of a context (R87). -/
def State.cacheDomain (s : State) (ctx : Nat) : Nat := (s.ctxAt ctx).cacheDomain

/-- Step 6 of R76: residual code under the policy (R85). A miss that specialises joins or begins a Bench run of its
key (R88).
Log 31: DEDUCED, unsafe. -/
def State.obtainCode (s : State) (die : Nat) (l : PendingLaunch) : State :=
  let domain := s.cacheDomain l.ctx
  if l.policy = 0 then s.finishLaunch die { l with status := 0x03 }
  else if ((s.dieAt die).cached l.key domain).isSome then
    let (s, l) := s.takeEntry die domain l 0x02
    s.finishLaunch die l
  else if l.policy = 3 then s.finishLaunch die { l with status := 0x03 }
  else
    let d := s.dieAt die
    let joins := d.runs.any fun r => r.key = l.key && r.domain = domain && !r.ended
    let runs := if joins then
        d.runs.map fun r => if r.key = l.key && r.domain = domain && !r.ended then { r with members := r.members ++ [l] } else r
      else d.runs ++ [⟨l.key, domain, [l], false, 0⟩]
    (s.modDie die fun d => { d with runs := runs }).post [.benchWaitEnd die]

/-- The Bench runs for a launch (R89 to R92): the entry it makes, or the reason for which it made none. -/
def State.benchRun (s : State) (die domain : Nat) (l : PendingLaunch) : Nat × State :=
  match BenchIn.specialise ⟨l.lines, l.snapshot, l.mask, l.snapshot.length⟩ with
  | .error e => (e, s)
  | .ok r =>
    match makeRoom r.chunks 4096 (s.dieAt die).bench with
    | none => (8, s)
    | some rest =>
      (0, s.modDie die fun d =>
        { d with bench := rest ++ [⟨l.key, domain, r, r.chunks, 0, d.benchUsed⟩] })

/-- BENCH_WAIT_END (R88): the first Bench run of the die ends for one of its launches: the first receives the new
entry or the decline; those that joined take a hit, or the same decline. -/
def execBenchWaitEnd (die : Nat) (s : State) : Outcome State Fault Refusal :=
  match (s.dieAt die).runs with
  | [] => .next s
  | r :: rest => match r.members with
    | [] => .next (s.modDie die fun d => { d with runs := rest })
    | l :: more =>
      let (reason, s) := if r.ended then (r.reason, s) else s.benchRun die r.domain l
      let r' := { r with members := more, ended := true, reason := reason }
      let s := s.modDie die fun d => { d with runs := if more.isEmpty then rest else r' :: rest }
      if reason = 0 then
        let (s, l) := s.takeEntry die r.domain l (if r.ended then 0x02 else 0x01)
        .next (s.finishLaunch die l)
      else .next (s.finishLaunch die (declined l reason))

/-- Steps 3 to 5 of R76 on what the front end has read: the launch, or the status that refuses it.
Log 31: DEDUCED, unsafe. -/
def State.checkLaunch (s : State) (die ctx : Nat) (src : LaunchSrc) (r : LRecord)
    (image uniform groups recs : List Byte) : Except Nat PendingLaunch :=
  let m := imageLines image
  let len := r.ulen % 2 ^ 11
  let mask := (uniform.drop 1024).take 128
  let snapshot := uniform.take len
  let heads : Nat → Bool := fun pc => Image.headAt m .c pc
  if Image.refused m then .error cBadImage
  else if !uniformOk len mask then .error cBadUniform
  else match readGroups (s.ctxAt ctx) groups with
    | none => .error cBadGroups
    | some gs =>
      let rows := (List.range r.count).map fun i =>
        s.readRec ctx die 0 heads (fun g => (SMap.find gs g).isSome) ((recs.drop (64 * i)).take 64)
      let used := r.variants.filter fun v => v / 2 ^ 40 ≠ 0
      if rows.any (·.isNone) ∨ (s.ctxAt ctx).poolQuota < r.count then .error cBadGroups
      else if used.any fun v => !heads (v % 2 ^ 40) then .error cBadKind
      else if (s.dieAt die).shareSize < r.shares then .error cBadShares
      else if 4096 ≤ ((s.dieAt die).launches.filter fun p => !p.2.ended).length then .error cNoSlot
      else .ok
        { src := src, ctx := ctx, policy := r.policy, variant := r.variant, shares := r.shares, image := r.image,
          lines := m, snapshot := snapshot, mask := mask, groups := gs, recs := rows.filterMap id,
          sig := ⟨ctx, r.stok, BitVec.ofNat 64 r.soff, 0⟩, key := s.launchKey image snapshot mask len,
          residual := none, entry := none, status := 0 }

/-- A front end takes a launch record (R76).
Log 31: DEDUCED, unsafe. -/
def State.launchRecord (s : State) (die ctx : Nat) (src : LaunchSrc) : Except Fault State :=
  let r := readLaunch (s.recordBytes src)
  let refuse : Nat → State := fun st => (s.frontDone die src).launchStatus ctx src st
  if r.step1 ≠ 0 then .ok (refuse r.step1)
  else if !s.launchTokens ctx r then .ok (refuse cBadToken)
  else
    let got := s.frontGot die src
    let ext := s.launchExtents ctx r
    let needs := (ext.flatMap fun e => s.areaNeeds got e.1 0 e.2).eraseDups
    match ext.findSome? fun e => s.areaHole e.1 e.2 with
    | some a => .error (.unmappedPhysical a)
    | none =>
      if ext.any (fun e => (e.1.parts 0 e.2).any s.movedPart) then .ok (refuse cBadToken)
      else if needs.any fun p => !s.hasRoute p.1 then .ok (refuse cBadToken)
      else if !needs.isEmpty then
        if s.fab.reconf ≠ .run then .ok (s.post [recordEvent die ctx src false]) else
          .ok (s.frontAsk die ctx src none (ext.flatMap fun e => e.1.parts 0 e.2) needs)
      else
        let bytes : Nat → List Byte := fun i =>
          let e := ext.getD i (⟨0, []⟩, 0)
          s.areaBytes got e.1 0 e.2
        match s.checkLaunch die ctx src r (bytes 0) (bytes 1) (bytes 2) (bytes 3) with
        | .error st => .ok (refuse st)
        | .ok l => .ok ((s.flight ctx (tokIndex r.stok) true).obtainCode die l)

/-- LAUNCH_RECORD (R76).
Log 7: DESIGN CHOICE, unsafe. -/
def execLaunchRecord (die ctx : Nat) (src : QAddr) (s : State) : Outcome State Fault Refusal :=
  outcomeOf (s.launchRecord die ctx (.entry src))

/-! ### Feed appends (R79, R80) -/

/-- The management packets that a peer has not answered and that have been sent fill their window (R372). -/
def Fabric.mgmtFull (b : Fabric) (peer : Nat) : Bool :=
  64 ≤ (b.mgmtOut.filter fun q => q.packet.dst = peer && q.tag.isEmpty).length

/-- While the window of a peer has room, the next management packet that waits for it is sent (R372); while the fabric is being
reconfigured it is held (R367). -/
def State.pumpMgmt (s : State) (peer : Nat) : State :=
  if s.fab.mgmtFull peer ∨ s.fab.reconf ≠ .run then s
  else match s.fab.mgmtOut.find? fun q => q.packet.dst = peer && !q.tag.isEmpty with
    | none => s
    | some q => (s.modFab fun b =>
        { b with mgmtOut := b.mgmtOut.map fun r => if r = q then { q with tag := [] } else r }).send q.packet

/-- Sends a management packet of this chip and keeps it until it is answered; beyond the window of its peer it waits
(R372).
Log 50: DEDUCED, unsafe. -/
def State.sendMgmt (s : State) (peer op : Nat) (body : List W64) : State :=
  let id := SMap.get 0 s.fab.mgmtNextId peer
  let p := { s.packet 7 peer 0 with id := id, op := op, body := body }
  State.pumpMgmt { s with fab := { s.fab with
    mgmtNextId := SMap.put s.fab.mgmtNextId peer ((id + 1) % 2 ^ 16)
    mgmtOut := s.fab.mgmtOut ++ [⟨p, 0, [1]⟩] } } peer

/-- An append to a queue waits while another one that has arrived before it has still to be performed (R80). -/
def Die.appendsBefore (d : Die) (src : LaunchSrc) (queue : Nat) : Bool :=
  match d.reads.find? (·.queue = some queue) with
  | some r => r.src ≠ src
  | none => false

/-- Written bytes of parts are on their way to homes on other chips. -/
def State.linesLeaving (s : State) (n : Nat) (segs : List Seg) : Bool :=
  segs.any fun g => s.isRemote g.frame && s.lineLeaving n (cacheKey (some g.frame.peer) (lineNo g.addr))

/-- The tail of a feed queue is stored, once every entry stored before it has performed at its home (R80), and the feeds that
sleep on the queue wake (R158). -/
def State.feedTail (s : State) (die ctx : Nat) (queue : AreaAt) (tail addr : Nat) : State :=
  (s.areaWrite (32 * die) ctx queue 8 (bytesOf 8 (tail % 2 ^ 64)) []).wakeFeedSleepers (lineNo addr)

/-- A front end takes a feed-append record (R80). The front end of the die that is home to the queue header performs
it, in arrival order with others to the same queue; another one hands it on. The store of the tail is a release: it waits until
entries on pages of other chips have performed at their homes.
Log 50: DEDUCED, unsafe. -/
def State.feedAppend (s : State) (die ctx : Nat) (src : LaunchSrc) : Except Fault State :=
  let b := s.recordBytes src
  let q : Nat → Nat := fun o => natAt b o 8
  let ftok : W64 := BitVec.ofNat 64 (q 8)
  let foff := q 0x10
  let stok : W64 := BitVec.ofNat 64 (q 0x18)
  let soff := q 0x20
  let c := q 0x28
  let answer : Nat → State → State := fun st s => (s.frontDone die src).launchStatus ctx src st
  let zeros := (b.drop 0x30).take 0x28 ++ b.drop 0x60
  if q 0 ≠ 2 * 2 ^ 56 ∨ zeros.any (· ≠ 0) ∨ c = 0 ∨ 64 < c then .ok (answer cBadKind s)
  else match s.checkCab ctx ftok foff 64 (needR ||| needW), s.checkCab ctx stok soff (64 * c) needR with
    | .ok e, .ok es =>
      let head := e.areaAt foff 64
      let source := es.areaAt soff (64 * c)
      let got := s.frontGot die src
      match e.elemSegs 0 foff 8 with
      | [] => .ok (answer cBadToken s)
      | g :: _ =>
        if s.isRemote g.frame then
          if !s.hasRoute g.frame.peer then .ok (answer cBadToken s)
          else
            let s := s.modDie die fun d => { d with forwards := d.forwards ++ [(g.frame.peer * 65536 + SMap.get 0 s.fab.mgmtNextId g.frame.peer, src)] }
            .ok (s.sendMgmt g.frame.peer (16 * homeDie g.addr) (BitVec.ofNat 64 ctx :: (List.range 32).map fun i => BitVec.ofNat 64 (q (8 * i))))
        else if homeDie g.addr ≠ die then
          match src with
          | .entry a => .ok (s.post [.feedAppend (homeDie g.addr) ctx a])
          | .packet p => .ok (s.post [.fabricLaunch (homeDie g.addr) p])
        else if (s.dieAt die).appendsBefore src g.addr then
          .ok (s.modDie die fun d => d.keepRead ⟨src, ctx, got, [], some g.addr, false⟩)
        else
          let n := natAt (s.areaBytes got head 16 1) 0 1 % 32
          let h := natAt (s.areaBytes got head 0 8) 0 8
          let t := natAt (s.areaBytes got head 8 8) 0 8
          if n = 0 ∨ 16 < n then .ok (answer cBadKind s)
          else match s.checkCab ctx ftok foff (64 + 64 * 2 ^ n) (needR ||| needW) with
            | .error _ => .ok (answer cBadToken s)
            | .ok e =>
              let whole := e.areaAt foff (64 + 64 * 2 ^ n)
              let needs := s.areaNeeds got source 0 (64 * c)
              match s.areaHole whole (64 + 64 * 2 ^ n), s.areaHole source (64 * c) with
              | some a, _ => .error (.unmappedPhysical a)
              | none, some a => .error (.unmappedPhysical a)
              | none, none =>
                let begun := (s.dieAt die).reads.any fun r => r.src = src && r.written
                let slots := (List.range c).flatMap fun i => whole.parts (64 + 64 * ((t + i) % 2 ^ n)) 64
                if (whole.parts 0 64 ++ slots ++ source.parts 0 (64 * c)).any s.movedPart then .ok (answer cBadToken s)
                else if begun then
                  if s.linesLeaving (32 * die) slots then .ok (s.post [recordEvent die ctx src true])
                  else .ok (answer 0x04 (s.feedTail die ctx whole (t + c) g.addr))
                else if 2 ^ n < (t + 2 ^ 64 - h) % 2 ^ 64 + c then .ok (answer cFeedFull s)
                else if needs.any fun p => !s.hasRoute p.1 then .ok (answer cBadToken s)
                else if !needs.isEmpty then
                  if s.fab.reconf ≠ .run then
                    .ok ((s.modDie die fun d => d.keepRead ⟨src, ctx, got, [], some g.addr, false⟩).post [recordEvent die ctx src true])
                  else .ok (s.frontAsk die ctx src (some g.addr) (source.parts 0 (64 * c)) needs)
                else
                  let s := (List.range c).foldl (fun s i =>
                    let put := 64 + 64 * ((t + i) % 2 ^ n)
                    let bad := [0, 32].filter fun k => s.areaBad got source (64 * i + k) 32
                    s.areaWrite (32 * die) ctx whole put (s.areaBytes got source (64 * i) 64) (bad.map (put + ·))) s
                  if s.linesLeaving (32 * die) slots then
                    .ok ((s.modDie die fun d => d.keepRead ⟨src, ctx, got, [], some g.addr, true⟩).post [recordEvent die ctx src true])
                  else .ok (answer 0x04 (s.feedTail die ctx whole (t + c) g.addr))
    | _, _ => .ok (answer cBadToken s)

/-- FEED_APPEND (R80). -/
def execFeedAppend (die ctx : Nat) (src : QAddr) (s : State) : Outcome State Fault Refusal :=
  outcomeOf (s.feedAppend die ctx (.entry src))

/-- The die that a management packet is for. -/
def packetDie (p : Packet) : Nat := p.op / 16 % 4

/-- FABRIC_LAUNCH (R83): a record of a scheduler that the die of its packet lists is taken as one of a queue, by that die or
by the one to which it hands an append on (R80); any other is dropped and counted.
Log 50: DEDUCED, unsafe. -/
def execFabricLaunch (die : Nat) (p : Packet) (s : State) : Outcome State Fault Refusal :=
  if !(s.dieAt (packetDie p)).schedulers.contains p.src then .next { s with fab := { s.fab with dropped := s.fab.dropped + 1 } }
  else
    let ctx := (p.body.getD 0 0).toNat % 1024
    let src : LaunchSrc := .packet p
    if recKind (natAt (s.recordBytes src) 0 8) = 2 then outcomeOf (s.feedAppend die ctx src)
    else outcomeOf (s.launchRecord die ctx src)

/-- The residency report of a die (R84): the keys of its specialisation cache, then the context, index and length
of each Cabinet entry whose frames all lie in its near memory on pages with the Z bit.
Log 77: DEDUCED, unsafe. -/
def State.residency (s : State) (die : Nat) : List W64 :=
  let keys := (s.dieAt die).bench.flatMap fun b =>
    (List.range 4).map fun i => b.hash.extractLsb' (192 - 64 * i) 64
  let near : Frame → Bool := fun f => !f.hole && !s.isRemote f && f.zpage && f.addr / 2 ^ 30 = die
  let ents := s.ctxs.flatMap fun p => p.2.cabinet.filterMap fun q =>
    if q.2.state = .live ∧ !q.2.frames.isEmpty ∧ q.2.frames.all near then some (p.1, q.1, q.2.length) else none
  BitVec.ofNat 64 (s.dieAt die).bench.length :: keys ++
    ents.flatMap fun e => [BitVec.ofNat 64 (e.1 * 2 ^ 12 + e.2.1), e.2.2]

/-- RESIDENCY_REQUEST (R84). -/
def execResidencyRequest (die : Nat) (p : Packet) (s : State) : Outcome State Fault Refusal :=
  if !(s.dieAt die).schedulers.contains p.src then .next { s with fab := { s.fab with dropped := s.fab.dropped + 1 } }
  else .next (s.mgmtReply p 3 (s.residency die))

/-! ### SHELFPUT (R399) -/

/-- `shelfput`; `got` holds the lines of other chips that have arrived.
Log 47: DEDUCED, unsafe. -/
def shelfputBody (f : F3) (got : List GotLine) : Act Flow := fun s =>
  let t := (s.rd f.s1).toNat
  let off := (s.rd f.d).toNat
  let tok := s.cur.tok f.s2.toNat
  if 2 ^ 18 ≤ t ∨ off % 64 ≠ 0 then trap cIllegal 0 s
  else match s.checkToken s.cur.ctx tok off 64 needR with
    | .error e => trap e 0 s
    | .ok e =>
      let at_ := e.areaAt off 64
      let die := t / 2 ^ 16
      let id := t % 2 ^ 16
      let image : List Seg := match s.launchAt die id with
        | some l => let i := s.cab l.ctx (tokIndex l.image); i.elemSegs 0 0 (i.length.toNat / 64 * 64)
        | none => []
      if (at_.parts 0 64).any s.movedPart then trap cStale 0 s
      else match s.areaHole at_ 64, s.areaNeeds got at_ 0 64 with
      | some a, _ => .error (.fault (.unmappedPhysical a))
      | none, p :: ps => askLines (.shelfput f) (tokIndex tok) got (at_.parts 0 64 ++ image) (p :: ps) s
      | none, [] =>
        match (s.launchAt die id).filter fun l => !l.ended with
        | none => .ok (.fall, s.wr f.d 1)
        | some l =>
          let ext := s.cab l.ctx (tokIndex l.image)
          let whole := ext.areaAt 0 ext.length.toNat
          let size := ext.length.toNat / 64 * 64
          if (whole.parts 0 size).any s.movedPart then trap cStale 0 s
          else match s.areaNeeds got whole 0 size with
          | p :: ps => askLines (.shelfput f) (tokIndex tok) got (at_.parts 0 64 ++ image) (p :: ps) s
          | [] =>
            let m := imageLines (s.areaBytes got whole 0 size)
            let heads : Nat → Bool := fun pc => match l.residual with
              | some r => (SMap.find r.heads pc).isSome && Image.headAt m .c pc
              | none => Image.headAt m .c pc
            match s.readRec l.ctx die id heads (fun g => (SMap.find l.groups g).isSome) (s.areaBytes got at_ 0 64) with
            | none => .ok (.fall, s.wr f.d 2)
            | some r =>
              let x := s.ctxAt l.ctx
              if x.poolQuota ≤ x.poolUsed then .ok (.fall, s.wr f.d 3)
              else match s.findSlot die with
                | none => .ok (.fall, s.wr f.d 3)
                | some (d, slot) =>
                  let pc := match l.residual.bind fun q => SMap.find q.heads r.pc.toNat with
                    | some p => BitVec.ofNat 64 p
                    | none => r.pc
                  let s := (s.noteToken s.core s.cur.ctx (tokIndex tok)).addRec d slot { r with pc := pc }
                  let s := s.modCtx l.ctx fun x => { x with poolUsed := x.poolUsed + 1 }
                  let s := s.modDie die fun q =>
                    { q with launches := SMap.put q.launches id { l with live := l.live + 1 } }
                  .ok (.fall, (s.makeReady d slot (dieOf s.core)).wr f.d 0)

/-- SHELFPUT (R399). -/
def execShelfput (f : F3) (s : State) : Outcome State Fault Refusal := issue f.g true false (shelfputBody f []) s

end Sys2Proof.Machine
end

