-- ==== Sys2Proof/Machine/Homes.lean ====
section
/-! DEFINITION. What a home does with packets of other chips: reads and writes (R358), numbered requests (R341, R345,
R347, R157), contributions (R251), pages that migrate (R179, R371), and the coherence requests of the module's own cores
(R311). -/

namespace Sys2Proof.Machine

open Host (Outcome)

/-! ### Slots and answers -/

/-- A packet takes its slot (R361). -/
def State.slotTaken (s : State) (p : Packet) : State :=
  let from_ := packetSender p
  let i := pairOf from_ p.rq
  if from_ = s.ownPeer then s
  else s.modFab fun b => { b with taken := SMap.put b.taken i ((SMap.get 0 b.taken i + packetCount p) % 2 ^ 16) }

/-- A packet's slot is empty again, and the chip that sent it learns so (R361).
Log 54: DEDUCED, unsafe. -/
def State.slotEmptied (s : State) (p : Packet) : State :=
  let from_ := packetSender p
  let i := pairOf from_ p.rq
  if from_ = s.ownPeer then s
  else
    (s.modFab fun b =>
      { b with emptied := SMap.put b.emptied i ((SMap.get 0 b.emptied i + packetCount p) % 2 ^ 16) }).returnSlots from_ p.rq

/-- Word `i` of a packet's body. -/
def bodyWord (p : Packet) (i : Nat) : Nat := (p.body.getD i 0).toNat

/-- A body padded to eight words, with two more (R371). -/
def bodyVia (l : List W64) (a b : Nat) : List W64 :=
  (l ++ List.replicate (8 - l.length) 0).take 8 ++ [BitVec.ofNat 64 a, BitVec.ofNat 64 b]

/-- The chip that forwarded a request, plus one; 0 when its source sent it here. -/
def bodyFrom (p : Packet) : Nat := bodyWord p 8

/-- The answer of a home to a request. One that another home has forwarded is answered through that home (R371). Ops: 0
data, 2 a write's acknowledgement, 4 a numbered result, 7 a contribution's acknowledgement; 8 MOVED and 9 retry, with the
kind of the request in bits [7:4], its receive-queue class in [10:8] and its op above. -/
def State.answerPacket (s : State) (p : Packet) (op : Nat) (body : List W64) (sect : Nat) (data : BitVec 1024) : Packet :=
  let r := { s.packet 4 p.src 4 with
    sdie := p.sdie, score := p.score, sstr := p.sstr, cls := p.cls, id := p.id, line := p.line, sect := sect, op := op,
    data := data, body := body }
  if bodyFrom p = 0 then r
  else { r with dst := bodyFrom p - 1, body := bodyVia body (p.src + 1) (bodyWord p 9) }

/-- A request of another chip is answered and its slot is empty. -/
def State.answer (s : State) (p : Packet) (op : Nat) (body : List W64) : State :=
  (s.send (s.answerPacket p op body 0 0)).slotEmptied p

/-- The op of a reply that names its request. -/
def opNaming (code : Nat) (p : Packet) : Nat := code + 16 * p.kind + 256 * p.rq + 2048 * p.op

/-- The page of a request has moved (R179); what tells the request apart comes with the answer. -/
def State.answerMoved (s : State) (p : Packet) : State := s.answer p (opNaming 8 p) (p.body.take 8)

/-- A request meets the cursor of a page that moves: its answer brings it back, to be sent again (R371). -/
def State.answerRetry (s : State) (p : Packet) : State :=
  (s.send { s.answerPacket p (opNaming 9 p) (p.body.take 8) p.sect p.data with mask := p.mask }).slotEmptied p

/-! ### Pages that move (R179, R371) -/

/-- What a home does with a request for a line: serve it, say that its page has moved, ask for a resend, or forward it to
the new home. -/
inductive Gate where
  | here
  | moved
  | retry
  | forward (m : Migration)
  deriving DecidableEq, Repr, Inhabited

/-- A page that is being moved and holds a line. -/
def Homes.movingAt (h : Homes) (l : Nat) : Option Migration :=
  h.moving.find? fun m => m.base ≤ l * 128 && l * 128 < m.base + m.size

/-- The table of R371.
Log 57: DEDUCED, unsafe. -/
def State.gate (s : State) (l : Nat) : Gate :=
  if (inRange s.homes.moved (l * 128)).isSome then .moved
  else match s.homes.movingAt l with
    | none => .here
    | some m => if l < m.cursor then .forward m else if l = m.cursor ∧ m.copying then .retry else .here

/-- A request goes on to the new home of its page, with its source and ID (R371).
Log 57: DEDUCED, unsafe. -/
def State.forwardTo (s : State) (m : Migration) (p : Packet) : State :=
  s.send { p with
    dst := m.peer, line := m.lineAt p.line, hops := 0, body := bodyVia p.body (s.ownPeer + 1) p.line }

/-- The old home's copy of a line that has been copied follows the requests that it forwards, and the waiters that are
parked there are tested (R104, R347).
Log 57: DEDUCED, unsafe. -/
def State.followCopy (s : State) (l : Nat) (d : BitVec 1024) (m : BitVec 128) (p : BitVec 4) : State :=
  ((((s.recallLine l).putRaw l d m p)).testWaiters l).wakeBound l m

/-- A home counts the remote requests for each MIGRATE page and requester, and tells a requester's firmware when its count
passes the threshold (R177, R179). `w` is the request's word that names its context and page. -/
def State.countRequest (s : State) (p : Packet) (w : Nat) : State :=
  if !bitOf w 17 then s
  else
    let size := 2 ^ bitsOf w 23 18
    let page := p.line * 128 / size * size
    let k := page / 65536 * 4096 + p.src
    let n := SMap.get 0 s.homes.migCount k + 1
    let s : State := { s with homes := { s.homes with migCount := SMap.put s.homes.migCount k n } }
    if s.homes.migThreshold ≠ 0 ∧ n = s.homes.migThreshold + 1 then s.sendMgmt p.src 4 [BitVec.ofNat 64 page]
    else s

/-! ### Reads and writes -/

/-- The bundle that a packet names (R324). -/
def bodyBundle (p : Packet) : Option Nat :=
  if p.body.getD 0 (BitVec.allOnes 64) = BitVec.allOnes 64 then none else some (bodyWord p 0)

/-- The bits of the sectors that a packet names. -/
def sectorBits (sect : Nat) (d : BitVec 1024) : BitVec 1024 :=
  (List.range 4).foldl (fun acc i => if bitOf sect i then lineWith acc (32 * i) 32 (lineBytes d (32 * i) 32) else acc) 0

/-- The context that a request acts for. -/
def wordCtx (w : Nat) : Nat := w % 2 ^ 16

/-- The context of this module for which a request writes: none of another chip's (R404).
Log 46: DEDUCED, unsafe. -/
def State.loggedCtx (s : State) (p : Packet) (w : Nat) : Nat := if p.src = s.ownPeer then wordCtx w else 1024

/-- The request is for a B page (R324). -/
def wordBundle (w : Nat) : Bool := bitOf w 16

/-- The stamp of the view that a packet carries: that of its sender (R326). -/
def packetView (p : Packet) : Nat := bodyWord p 1 % 2 ^ 48

/-- The value of a line that a remote load sees, its poison, and whether its view has expired (R324, R327); none while the
load must wait for notices that its own chip has heard (R323). -/
def State.remoteRead (s : State) (p : Packet) : Option (State × BitVec 1024 × BitVec 4 × Bool) :=
  let l := p.line
  if !wordBundle (bodyWord p 2) then some (s, s.homeLine l, s.homePoison l, false)
  else
    let s := s.settle l
    if s.viewWaits l (packetView p) (bodyBundle p) then none
    else match (s.bLine l).visible (bodyBundle p) (packetView p) with
      | some (d, p) => some (s, d, p, false)
      | none => some (s, 0, 0, true)

/-- The packet as it would name the line `i` lines after its own. -/
def packetAfter (p : Packet) (i : Nat) : Packet :=
  if i = 0 then p else { p with line := p.line + i, body := p.body.set 9 (BitVec.ofNat 64 (bodyWord p 9 + i)) }

/-- The lines that a read names (R358): one, or as many as its fifth word says, which are read at one point (R30, R258). -/
def readParts (p : Packet) : List Packet := (List.range (bodyWord p 4 + 1)).map (packetAfter p)

/-- The table of R371 for several lines: those on both sides of the cursor ask for a resend. -/
def State.gateAll (s : State) (l : List Packet) : Gate :=
  match l with
  | [] => .here
  | p :: t => if t.all fun q => s.gate q.line = s.gate p.line then s.gate p.line else .retry

/-- The replies to a read, one for each line, which carry the sectors that the read names; none while it must wait.
Log 20: DEDUCED, unsafe. -/
def State.readReplies (s : State) : List Packet → Option (State × List Packet)
  | [] => some (s, [])
  | p :: t => match s.remoteRead p with
    | none => none
    | some (s, d, poison, expired) =>
      let body := [BitVec.ofNat 64 (poison.toNat + natOfBool expired * 16), BitVec.ofNat 64 (bodyWord p 3)]
      (State.readReplies s t).map fun q => (q.1, s.answerPacket p 0 body p.sect (sectorBits p.sect d) :: q.2)

/-- READ_PACKET (R358, R305): the reply carries the sectors that the read names. -/
def execReadPacket (p : Packet) (s : State) : Outcome State Fault Refusal :=
  let parts := readParts p
  match parts.find? fun q => !isMapped (q.line * 128) with
  | some q => .fault (.unmappedPhysical (q.line * 128))
  | none => match s.gateAll parts with
    | .moved => .next (s.answerMoved p)
    | .retry => .next (s.answerRetry p)
    | .forward m => .next ((s.forwardTo m p).slotEmptied p)
    | .here => match s.readReplies parts with
      | none => .next (s.post [.readPacket p])
      | some (s, l) => .next ((l.foldl State.send (s.countRequest p (bodyWord p 2))).slotEmptied p)

/-- The packet is one of a block (R258). -/
def inBlock (p : Packet) : Bool := p.sstr = 2 && 16 ≤ bodyWord p 4
/-- Two packets come from one copy engine, which sends the packets of one block at a time. -/
def sameEngine (p q : Packet) : Bool :=
  p.src = q.src && p.sdie = q.sdie && p.score = q.score && bodyFrom p = bodyFrom q
/-- Two packets belong to one block. -/
def sameBlock (p q : Packet) : Bool := sameEngine p q && bodyWord p 4 / 32 = bodyWord q 4 / 32

/-- A write of another chip performs at its home, whose answer then goes back (R358, R402). -/
def State.writeHere (s : State) (p : Packet) : State :=
  let w := bodyWord p 2
  let poison : BitVec 4 := BitVec.ofNat 4 (bodyWord p 3)
  let s := s.countRequest p w
  let s := if wordBundle w then s.writeBundleLine (bodyBundle p) p.line p.data p.mask poison
    else s.homeWrite (s.loggedCtx p w) p.line p.data p.mask poison
  s.send (s.answerPacket p 2 [BitVec.ofNat 64 (bodyWord p 4)] 0 0)

/-- The lines of bundle pages that writes wait for (R318, R319). -/
def State.writesReady (s : State) (l : List Packet) : Bool × State :=
  match l with
  | [] => (true, s)
  | p :: _ => if wordBundle (bodyWord p 2) then s.linesReady (bodyBundle p) (l.map (·.line)) else (true, s)

/-- A packet of a block reaches its home: it is kept until all 16 are there, and then they perform as one unit (R258).
Log 40: DEDUCED, unsafe. -/
def State.takeBlock (s : State) (p : Packet) : State :=
  let kept := s.homes.blocks.filter fun q => !(sameEngine p q && (!sameBlock p q || q.line = p.line))
  let all := kept.filter (sameBlock p) ++ [p]
  if all.length < 16 then ({ s with homes := { s.homes with blocks := kept ++ [p] } }).slotEmptied p
  else match s.writesReady all with
    | (false, s) => s.post [.writePacket p]
    | (true, s) =>
      let s : State := { s with homes := { s.homes with blocks := kept.filter fun q => !sameBlock p q } }
      (all.foldl State.writeHere s).slotEmptied p

/-- The packets of blocks that a home keeps for a line go back, to be sent again (R371). -/
def State.returnBlocks (s : State) (l : Nat) : State :=
  let mine := s.homes.blocks.filter fun q => q.line = l
  mine.foldl (fun s q => s.send { s.answerPacket q (opNaming 9 q) (q.body.take 8) q.sect q.data with mask := q.mask })
    { s with homes := { s.homes with blocks := s.homes.blocks.filter fun q => q.line ≠ l } }

/-- WRITE_PACKET (R358, R318, R319, R402): the masked bytes are written at their home; a store to a bundle page that must
wait for a stamp or for what a record's home has to say is tried again. -/
def execWritePacket (p : Packet) (s : State) : Outcome State Fault Refusal :=
  let l := p.line
  if !isMapped (l * 128) then .fault (.unmappedPhysical (l * 128))
  else match s.gate l with
    | .moved => .next (s.answerMoved p)
    | .retry => .next (s.answerRetry p)
    | .forward m => .next (((s.followCopy l p.data p.mask (BitVec.ofNat 4 (bodyWord p 3))).forwardTo m p).slotEmptied p)
    | .here =>
      if inBlock p then .next (s.takeBlock p)
      else match s.writesReady [p] with
        | (false, s) => .next (s.post [.writePacket p])
        | (true, s) => .next ((s.writeHere p).slotEmptied p)

/-! ### Numbered requests (R341) -/

/-- The source of a numbered request, as a home keeps it apart from others: one that another home has forwarded is kept
apart by that home as well. -/
def sourceOf (p : Packet) : Nat := p.src + 4096 * bodyFrom p

/-- The newest accepted ID of a source (R341, R342). -/
def Fabric.newest (b : Fabric) (peer die : Nat) : Nat := SMap.get 0xFFFF b.accepted (peer * 4 + die)

/-- The signed 16-bit distance of R341. -/
def distance (n r : Nat) : Int :=
  let d := diff16 n r
  if d < 2 ^ 15 then (d : Int) else (d : Int) - 2 ^ 16

/-- The reply that a home keeps for an ID, if its slot holds that ID. -/
def Fabric.cached (b : Fabric) (peer die id : Nat) : Option CachedReply :=
  b.replies.find? fun q => q.peer = peer && q.die = die && q.id = id

/-- A result enters the slot of its ID, and the newest accepted ID follows (R341). -/
def Fabric.record (b : Fabric) (peer die id : Nat) (r : Packet) : Fabric :=
  let keep := b.replies.filter fun q => !(q.peer = peer && q.die = die && q.id % 64 = id % 64)
  { b with
    replies := keep ++ [⟨peer, die, id, r⟩]
    accepted := if distance (b.newest peer die) id < 0 then SMap.put b.accepted (peer * 4 + die) id else b.accepted }

/-- The function of an atomic or a signal update on the old value of `size` bytes (R336, R345). -/
def numberedFn (code size x e old : Nat) : Nat × Bool :=
  if code = 10 then ((sigAdd (BitVec.ofNat 64 old) (BitVec.ofNat 64 x)).toNat, true)
  else if code = 11 then (x, true)
  else atomicOp code (8 * size) old x e

/-- The fields of a numbered request: its code, its size in bytes and its address. -/
def numberedCode (p : Packet) : Nat := p.op % 16
/-- The size of a numbered request. -/
def numberedSize (p : Packet) : Nat := p.op / 16 % 16
/-- The address of a numbered request. -/
def numberedAddr (p : Packet) : Nat := p.line * 128 + bodyWord p 0

/-- A feed queue's claim at its home (R157): the index claimed and 1, or 0. -/
def State.remoteClaim (s : State) (ctx a : Nat) : Nat × Nat × State :=
  let h := s.physNat a 8
  let d := (s.physNat (a + 8) 8 + 2 ^ 64 - h) % 2 ^ 64
  if 0 < d ∧ d < 2 ^ 63 then (h, 1, s.physWriteNat ctx a 8 ((h + 1) % 2 ^ 64)) else (0, 0, s)

/-- A wait at its home (R347): the value and 1 when the condition holds, 0 when the waiter is parked, 2 when there is no
room for it; and whether it met poison. Of a B page it reads the version that its view sees (R327).
Log 72: DEDUCED, unsafe. -/
def State.remoteWait (s : State) (p : Packet) : Nat × Nat × Bool × State :=
  let a := numberedAddr p
  let b := wordBundle (bodyWord p 3)
  let s := if b then s.settle p.line else s
  let (v, bad) := s.wordAt p.line (a % 128) 8 (if b then some (p.body.getD 6 0) else none)
  let t := p.body.getD 1 0
  let cond := bodyWord p 2
  if bad then (0, 0, true, s)
  else if waitHolds cond (BitVec.ofNat 64 v) t then (v, 1, false, s)
  else if 16384 ≤ (s.homes.waiters.filter fun q => homeAgent q.addr = homeAgent a).length then (0, 2, false, s)
  else
    let s := s.recallShared p.line
    let w : Waiter := ⟨a, bodyWord p 4, bodyWord p 5, p.src + 1, t, cond, if b then some (p.body.getD 7 0) else none⟩
    (0, 0, false, { s with homes := { s.homes with waiters := s.homes.waiters ++ [w] } })

/-- A wait on a word of a B page must wait for notices that its own chip has heard (R323). -/
def State.waitAhead (s : State) (p : Packet) : Bool :=
  numberedCode p = 13 && wordBundle (bodyWord p 3) && s.viewWaits p.line (bodyWord p 6 % 2 ^ 48) none

/-- Executes a numbered request at its home: its result, its status, whether it met poison, and the state after. One of an
A stream that meets poison changes nothing (R191, R402), and a `feed` that finds its queue empty sleeps there (R158). -/
def State.executeNumbered (s : State) (p : Packet) : Nat × Nat × Bool × State :=
  let code := numberedCode p
  let size := numberedSize p
  let a := numberedAddr p
  let ctx := s.loggedCtx p (bodyWord p 3)
  if code = 12 then
    let (v, st, s) := s.remoteClaim ctx a
    (v, st, false, if st = 0 ∧ bodyWord p 1 = 1 then s.feedSleeps ((p.src + 1) * 128 + p.sdie * 32 + p.score) p.line else s)
  else if code = 13 then s.remoteWait p
  else
    let bad := poisonHit (s.homePoison p.line) (a % 128) size
    if bad ∧ p.sstr = 1 then (0, 0, true, s)
    else
      let (old, s) := s.rmwHome ctx a size (numberedFn code size (bodyWord p 1) (bodyWord p 2))
      (old, 0, bad, s)

/-- The old home's copy follows a numbered request that it forwards: an atomic, a signal update or a feed claim. -/
def State.followNumbered (s : State) (p : Packet) : State :=
  let code := numberedCode p
  let size := numberedSize p
  let off := bodyWord p 0
  if code = 13 then s
  else if code = 12 then
    let h := lineBytes (s.homeLine p.line) off 8
    let d := (s.physNat (numberedAddr p + 8) 8 + 2 ^ 64 - h) % 2 ^ 64
    if 0 < d ∧ d < 2 ^ 63 then s.followCopy p.line (lineWith 0 off 8 ((h + 1) % 2 ^ 64)) (byteMask off 8) 0 else s
  else
    let (new, wr) := numberedFn code size (bodyWord p 1) (bodyWord p 2) (lineBytes (s.homeLine p.line) off size)
    if wr then s.followCopy p.line (lineWith 0 off size new) (byteMask off size) 0 else s

/-- HomeRequest of R341. -/
def State.homeRequest (s : State) (p : Packet) : Except Fault State :=
  let src := sourceOf p
  if 64 ≤ distance (s.fab.newest src p.sdie) p.id then .ok (s.slotEmptied p)
  else match s.fab.cached src p.sdie p.id with
    | some q => .ok ((s.send q.reply).slotEmptied p)
    | none =>
      if !isMapped (p.line * 128) then .error (.unmappedPhysical (p.line * 128))
      else match s.gate p.line with
        | .moved => .ok (s.answerMoved p)
        | .retry => .ok (s.answerRetry p)
        | .forward m => .ok (((s.followNumbered p).forwardTo m p).slotEmptied p)
        | .here =>
          if (s.settle p.line).waitAhead p then .ok ((s.settle p.line).post [.atomicPacket p]) else
          let (v, st, bad, s) := (s.countRequest p (bodyWord p 3)).executeNumbered p
          let r := s.answerPacket p 4 [BitVec.ofNat 64 v, BitVec.ofNat 64 st, BitVec.ofNat 64 (natOfBool bad)] 0 0
          .ok (((s.modFab fun b => b.record src p.sdie p.id r).send r).slotEmptied p)

/-- A contribution as its packet carries it. -/
def packetContribution (p : Packet) : Contribution :=
  let w := bodyWord p 4
  { ctx := wordCtx (bodyWord p 0), line := p.line, epoch := bodyWord p 1, slot := bodyWord p 2, n := bodyWord p 3,
    fmt := w % 16, fzi := bitOf w 4, fzo := bitOf w 5, sat := bitOf w 6, empty := bitOf w 7, bpage := bitOf w 8,
    bundle := if p.body.getD 5 0 = BitVec.allOnes 64 then none else some (bodyWord p 5), peer := p.src,
    core := p.sdie * 32 + p.score, job := bodyWord p 6, mask := p.mask, data := p.data }

/-- A contribution reaches its home (R251, R253). -/
def State.homeContribution (s : State) (p : Packet) : Except Fault State :=
  if !isMapped (p.line * 128) then .error (.unmappedPhysical (p.line * 128))
  else match s.gate p.line with
    | .moved => .ok (s.answerMoved p)
    | .retry => .ok (s.answerRetry p)
    | .forward m => .ok (((s.followContribution (packetContribution p)).forwardTo m p).slotEmptied p)
    | .here => match s.takeContribution (packetContribution p) with
      | some (s, bad) =>
        let s := s.countRequest p (bodyWord p 0)
        -- nothing awaits the empty contribution of a job that has ended
        .ok (if bodyWord p 7 = 1 then s.slotEmptied p
          else s.answer p 7 [BitVec.ofNat 64 (bodyWord p 6), BitVec.ofNat 64 (natOfBool bad)])
      | none => .ok (s.post [.atomicPacket p])

/-- ATOMIC_PACKET (R341, R251): a numbered atomic, feed claim or wait executes at most once; a contribution of a REDUCE
has no number. -/
def execAtomicPacket (p : Packet) (s : State) : Outcome State Fault Refusal :=
  outcomeOf (if packetReduce p then s.homeContribution p else s.homeRequest p)

/-- SIGNAL_UPDATE_PACKET (R345, R341). -/
def execSignalUpdatePacket (p : Packet) (s : State) : Outcome State Fault Refusal := outcomeOf (s.homeRequest p)

/-! ### The copy cursor (R371) -/

/-- Changes a page that is being moved. -/
def Homes.setMoving (h : Homes) (m : Migration) : Homes :=
  { h with moving := h.moving.filter (fun q => q.base ≠ m.base) ++ [m] }

/-- A home writes back and invalidates the copies of a page's lines that its cores hold dirty. -/
def State.recallPage (s : State) (base size : Nat) : State :=
  s.cores.foldl (fun s c => c.2.lines.foldl (fun s q =>
    if base ≤ q.1 * 128 ∧ q.1 * 128 < base + size ∧ q.2.cls = 0 then s.recallLine q.1 else s) s) s

/-- MIGRATION_LINE_COPY (R371): the line under the cursor goes to the new home. The first of a page begins its move.
Log 57: DEDUCED, unsafe. -/
def execMigrationLineCopy (page size peer dest : Nat) (s : State) : Outcome State Fault Refusal :=
  let m := (s.homes.moving.find? fun q => q.base = page).getD ⟨page, size, peer, dest, lineNo page, false⟩
  if m.copying ∨ m.size = 0 ∨ (inRange s.homes.moved page).isSome then .next s
  else if !isMapped (m.cursor * 128) then .fault (.unmappedPhysical (m.cursor * 128))
  -- a line with an open reduction record is copied once the record has closed
  else if s.fab.reconf ≠ .run ∨ s.homes.reductions.any fun r => r.1.2.1 = m.cursor then
    .next (s.post [.migrationLineCopy page size peer dest])
  else
    let l := m.cursor
    let s := (s.recallLine l).returnBlocks l
    let s : State := { s with homes := s.homes.setMoving { m with copying := true } }
    .next (s.send (s.copyPacket m l (s.memLine l) (BitVec.allOnes 128) (s.memPoison l) 2))

/-- The new home has the line under a cursor: the cursor moves on, and after its last line the page has moved (R371,
R179).
Log 57: DEDUCED, unsafe. -/
def State.copyAnswered (s : State) (peer l : Nat) : State :=
  match s.homes.moving.find? fun m => m.peer = peer && m.copying && m.lineAt m.cursor = l with
  | none => s
  | some m =>
    let last : Bool := m.base + m.size ≤ (m.cursor + 1) * 128
    let s := if last then s.recallPage m.base m.size else s
    if last then
      { s with homes := { s.homes with
        moving := s.homes.moving.filter fun q => q.base ≠ m.base
        moved := s.homes.moved ++ [(m.base, m.size, m.peer)] } }
    else
      let s : State := { s with homes := s.homes.setMoving { m with cursor := m.cursor + 1, copying := false } }
      s.post [.migrationLineCopy m.base m.size m.peer m.dest]

/-- A copied line is handed back undelivered or turned away: it is copied again. -/
def State.copyFailed (s : State) (peer l : Nat) : State :=
  match s.homes.moving.find? fun m => m.peer = peer && m.copying && m.lineAt m.cursor = l with
  | none => s
  | some m =>
    let s : State := { s with homes := s.homes.setMoving { m with copying := false } }
    s.post [.migrationLineCopy m.base m.size m.peer m.dest]

/-! ### Coherence requests (R311) -/

/-- A coherence request of core `n` for a line of this module: refused by the model where no memory is, and without effect
when the core holds no CACHE bank or a waiter is parked on the line (R347). -/
def State.coherence (s : State) (n line : Nat) (f : State → State) : Outcome State Fault Refusal :=
  if !isMapped (line * 128) then .fault (.unmappedPhysical (line * 128))
  else if !(s.coreAt n).hasCache ∨ s.watched line then .next s
  else .next (f s)

/-- The state of an HC line in a core. -/
def State.lineState (s : State) (n l : Nat) : Option LineState :=
  (SMap.find (s.coreAt n).lines l).bind fun e => if e.cls = 0 then some e.state else none

/-- RDS (R311).
Log 26: DESIGN CHOICE, safe. -/
def execRds (core line : Nat) (s : State) : Outcome State Fault Refusal := s.coherence core line fun s => s.rdS core line

/-- RDX (R311): on a miss.
Log 26: DESIGN CHOICE, safe. -/
def execRdx (core line : Nat) (s : State) : Outcome State Fault Refusal :=
  s.coherence core line fun s =>
    if (SMap.find (s.coreAt core).lines line).isSome then s else s.rdX core (s.coreAt core).ctx line

/-- UPG (R311): of a copy in S or O.
Log 26: DESIGN CHOICE, safe. -/
def execUpg (core line : Nat) (s : State) : Outcome State Fault Refusal :=
  s.coherence core line fun s =>
    let st := s.lineState core line
    if st = some .s ∨ st = some .o then s.upg core (s.coreAt core).ctx line else s

/-- WB (R311): of a copy in M or O, which the core gives up.
Log 26: DESIGN CHOICE, safe. -/
def execWb (core line : Nat) (s : State) : Outcome State Fault Refusal :=
  s.coherence core line fun s =>
    let st := s.lineState core line
    if st = some .m ∨ st = some .o then s.evict core line else s

/-- DROP (R311): of a copy in E or S.
Log 26: DESIGN CHOICE, safe. -/
def execDrop (core line : Nat) (s : State) : Outcome State Fault Refusal :=
  s.coherence core line fun s =>
    let st := s.lineState core line
    if st = some .e ∨ st = some .s then s.modCore core fun c => c.dropLine line else s

/-- SNOOP (R311): a holder moves from E to S or from M to O; an invalidation carries its dirty data home and leaves it
nothing.
Log 26: DESIGN CHOICE, safe. -/
def execSnoop (core line : Nat) (inv : Bool) (s : State) : Outcome State Fault Refusal :=
  s.coherence core line fun s =>
    match s.lineState core line with
    | none => s
    | some st =>
      if inv then s.evict core line
      else s.modCore core fun c => c.modLine line fun e =>
        { e with state := match st with | .m => .o | .o => .o | .e => .s | .s => .s }

end Sys2Proof.Machine
end

