-- ==== Sys2Proof/Machine/Lms.lean ====
section
/-! DEFINITION. HSS/LMS (R419): one-time signatures LMOTS_SHA256_N32_W4, trees LMS_SHA256_M32_H10 and the two levels above
them, as NIST SP 800-208 takes them from RFC 8554. Hashes are their bytes, first byte first. -/

namespace Sys2Proof.Machine

/-- The bytes of a number, most significant first. -/
def bigBytes (n v : Nat) : List Byte := (bytesOf n v).reverse

/-- The number of bytes, most significant first. -/
def bigNat (l : List Byte) : Nat := natOfBytes l.reverse

/-- SHA-256 as bytes. -/
def shaBytes (l : List Byte) : List Byte := bigBytes 32 (sha256 l).toNat

/-- The 67 digits of four bits that a one-time signature signs: those of a hash, then those of its checksum.
Log 13: PRESUMED, unsafe. -/
def otsDigits (hash : List Byte) : List Nat :=
  let nibbles : List Byte → List Nat := fun l => l.flatMap fun b => [b.toNat / 16, b.toNat % 16]
  let d := nibbles hash
  d ++ (nibbles (bigBytes 2 (d.foldl (fun n x => n + (15 - x)) 0 * 16))).take 3

/-- A chain from step `at_` over `n` steps.
Log 13: PRESUMED, unsafe. -/
def otsChain (id : List Byte) (q i : Nat) : Nat → Nat → List Byte → List Byte
  | 0, _, x => x
  | n + 1, at_, x => otsChain id q i n (at_ + 1) (shaBytes (id ++ bigBytes 4 q ++ bigBytes 2 i ++ bigBytes 1 at_ ++ x))

/-- The hash of a one-time public key from the ends of its chains.
Log 13: PRESUMED, unsafe. -/
def otsPublic (id : List Byte) (q : Nat) (ends : List (List Byte)) : List Byte :=
  shaBytes (id ++ bigBytes 4 q ++ bigBytes 2 0x8080 ++ ends.flatten)

/-- The digits of a message with its randomiser.
Log 13: PRESUMED, unsafe. -/
def otsMessage (id : List Byte) (q : Nat) (c msg : List Byte) : List Nat :=
  otsDigits (shaBytes (id ++ bigBytes 4 q ++ bigBytes 2 0x8181 ++ c ++ msg))

/-- A leaf of a tree of height 10.
Log 13: PRESUMED, unsafe. -/
def lmsLeaf (id : List Byte) (q : Nat) (key : List Byte) : List Byte :=
  shaBytes (id ++ bigBytes 4 (1024 + q) ++ bigBytes 2 0x8282 ++ key)

/-- A node above two others.
Log 13: PRESUMED, unsafe. -/
def lmsNode (id : List Byte) (r : Nat) (a b : List Byte) : List Byte :=
  shaBytes (id ++ bigBytes 4 r ++ bigBytes 2 0x8383 ++ a ++ b)

/-! ### Signing -/

/-- The identifier of a tree of the part: 0 the upper one, k + 1 the one that its key k signs. -/
def treeId (tree : Nat) : List Byte := bigBytes 16 (Config.lmsId tree).toNat

/-- The start of a chain of a one-time key of a tree. -/
def secretOf (tree q i : Nat) : List Byte := bigBytes 32 (Config.lmsSecret tree q i).toNat

/-- The hash of a one-time public key of a tree. -/
def treeKey (tree q : Nat) : List Byte :=
  otsPublic (treeId tree) q ((List.range 67).map fun i => otsChain (treeId tree) q i 15 0 (secretOf tree q i))

/-- Node `r` of a tree, `h` levels above its leaves. -/
def treeNode (tree : Nat) : Nat → Nat → List Byte
  | 0, r => lmsLeaf (treeId tree) (r - 1024) (treeKey tree (r - 1024))
  | h + 1, r => lmsNode (treeId tree) r (treeNode tree h (2 * r)) (treeNode tree h (2 * r + 1))

/-- The public key of a tree: type 6, one-time type 3, identifier, root.
Log 13: PRESUMED, unsafe. -/
def treePublic (tree : Nat) : List Byte := bigBytes 4 6 ++ bigBytes 4 3 ++ treeId tree ++ treeNode tree 10 1

/-- The signature of a message under key `q` of a tree: the key's number, the one-time signature, the tree's type and the
path.
Log 13: PRESUMED, unsafe. -/
def lmsSign (tree q : Nat) (msg : List Byte) : List Byte :=
  let id := treeId tree
  let c := bigBytes 32 (Config.lmsRandom tree q).toNat
  let d := otsMessage id q c msg
  let y := (List.range 67).flatMap fun i => otsChain id q i (d.getD i 0) 0 (secretOf tree q i)
  let path := (List.range 10).flatMap fun h =>
    let r := (1024 + q) / 2 ^ h
    treeNode tree h (if r % 2 = 0 then r + 1 else r - 1)
  bigBytes 4 q ++ bigBytes 4 3 ++ c ++ y ++ bigBytes 4 6 ++ path

/-- The signature of a message under one-time key `i` of 2^20 (R419): on two levels, the upper tree signs the key of the
lower one.
Log 13: PRESUMED, unsafe. -/
def hssSign (i : Nat) (msg : List Byte) : List Byte :=
  let q := i / 1024
  bigBytes 4 1 ++ lmsSign 0 q (treePublic (q + 1)) ++ treePublic (q + 1) ++ lmsSign (q + 1) (i % 1024) msg

/-! ### Verifying -/

/-- The root that a path leads to from node `r`. -/
def lmsClimb (id path : List Byte) : Nat → Nat → Nat → List Byte → List Byte
  | 0, _, _, x => x
  | n + 1, h, r, x =>
    let p := (path.drop (32 * h)).take 32
    lmsClimb id path n (h + 1) (r / 2) (if r % 2 = 1 then lmsNode id (r / 2) p x else lmsNode id (r / 2) x p)

/-- A signature of 2508 bytes verifies a message under the public key of a tree.
Log 13: PRESUMED, unsafe. -/
def lmsVerify (key msg sig : List Byte) : Bool :=
  let part : List Byte → Nat → Nat → List Byte := fun l o n => (l.drop o).take n
  let id := part key 8 16
  let q := bigNat (part sig 0 4)
  let d := otsMessage id q (part sig 8 32) msg
  let ends := (List.range 67).map fun i =>
    otsChain id q i (15 - d.getD i 0) (d.getD i 0) (part sig (40 + 32 * i) 32)
  let x := lmsLeaf id q (otsPublic id q ends)
  key.length = 56 && sig.length = 2508 && part key 0 8 = bigBytes 4 6 ++ bigBytes 4 3 && q < 1024 &&
    part sig 4 4 = bigBytes 4 3 && part sig 2184 4 = bigBytes 4 6 &&
    lmsClimb id (part sig 2188 320) 10 0 (1024 + q) x = part key 24 32

/-- A signature on two levels verifies a message (R419).
Log 13: PRESUMED, unsafe. -/
def hssVerify (key msg sig : List Byte) : Bool :=
  let lower := (sig.drop 2512).take 56
  key.take 4 = bigBytes 4 2 && sig.take 4 = bigBytes 4 1 && lmsVerify (key.drop 4) lower ((sig.drop 4).take 2508) &&
    lmsVerify lower msg (sig.drop 2568)

end Sys2Proof.Machine
end

