-- ==== Sys2Proof/Machine/Replies.lean ====
section
/-! DEFINITION. What a source does with the answers to its requests: replies (R172, R341), resends (R340, R371), requests
that stay unanswered or are handed back undelivered (R194, R343, R364), management packets (R372), and the packets that a
chip forwards (R359, R364). -/

namespace Sys2Proof.Machine

open Host (Outcome)

/-! ### Answers to a stream -/

/-- A request has all that it awaited, and goes on (R172). -/
def State.goOn (s : State) (n : Nat) (r : Req) : Except Fault State :=
  let again : Act Flow → Except Fault State := fun body =>
    (s.flight (s.coreAt n).ctx r.tokIndex false).continueHere n r body
  match r.instr with
  | .ctxload f => again (ctxloadBody r.instr f false r.got)
  | .ctxloadEvict f => again (ctxloadBody r.instr f true r.got)
  | .tsweep f => again (tsweepBody f r.got)
  | .shelfput f => again (shelfputBody f r.got)
  | .feed _ => s.answerC n r
  | .sigwait _ => s.answerC n r
  | .await _ => s.answerC n r
  | _ => if r.str = .c then s.runC n else s.runA n

/-- A request receives an answer, with which it is `r`, and goes on when it awaits no other. -/
def State.answerReq (s : State) (n : Nat) (r : Req) : Except Fault State :=
  let s := s.modCore n fun c => c.putReq r
  if r.await.isEmpty then s.goOn n r else .ok s

/-- The core that a packet's source names. -/
def packetCore (p : Packet) : Nat := p.sdie * 32 + p.score

/-- The stream that a packet's source names (R357). -/
def packetStream (p : Packet) : Stream := if p.sstr = 0 then .c else .a

/-- The stream whose fetch a read serves, as the mark of the read says. -/
def fetchStream (mark : Nat) : Option Stream :=
  if mark = 2 then some .c else if mark = 3 then some .a else if mark = 4 then some .x else none

/-- A fetch is over. -/
def State.endFetch (s : State) (n : Nat) (st : Stream) (f : Fetch) : State :=
  (s.modCore n fun c => c.modStream st fun v => { v with awaiting := none }).flight (s.coreAt n).ctx f.tokIndex false

/-- A line that a fetch awaits reaches its stream, which takes the fetched line with the last of them when it still stands
there (R30). -/
def State.fetched (s : State) (n : Nat) (st : Stream) (peer l : Nat) (d : BitVec 1024 × BitVec 5) : State :=
  match ((s.coreAt n).stream st).awaiting with
  | none => s
  | some f =>
    if !f.await.contains (peer, l) then s
    else
      let f := { f with await := f.await.filter (· ≠ (peer, l)), got := f.got ++ [(peer, l, d)] }
      if !f.await.isEmpty then s.modCore n fun c => c.modStream st fun v => { v with awaiting := some f }
      else
        let s := s.endFetch n st f
        if lineOf ((s.coreAt n).stream st).pc = f.pc then s.takeLine n st (BitVec.ofNat 512 (natOfBytes (s.fetchBytes f)))
        else s

/-- A fetch fails: the stream raises the cause when it still stands there. -/
def State.fetchFailed (s : State) (n : Nat) (st : Stream) (peer l cause info : Nat) : State :=
  match ((s.coreAt n).stream st).awaiting with
  | none => s
  | some f =>
    if !f.await.contains (peer, l) then s
    else
      let s := s.endFetch n st f
      if lineOf ((s.coreAt n).stream st).pc = f.pc then s.raiseAt n st { code := cause, info := info } else s

/-! ### Launch front ends -/

/-- A read of a launch front end fails: its record names memory that cannot be read (R76).
Log 31: DEDUCED, unsafe. -/
def State.frontFailed (s : State) (die peer l : Nat) : State :=
  match (s.dieAt die).reads.find? fun r => r.await.contains (peer, l) with
  | none => s
  | some r => (s.frontDone die r.src).launchStatus r.ctx r.src cBadToken

/-! ### Numbered requests of this chip (R340, R343) -/

/-- The numbered request of a home peer, source die and ID. -/
def Fabric.numbered (b : Fabric) (peer die id : Nat) : Option Outstanding :=
  b.outstanding.find? fun q => q.packet.dst = peer && q.packet.sdie = die && q.packet.id = id

/-- Changes the number of tries of a numbered request. -/
def State.setTries (s : State) (q : Outstanding) (n : Nat) : State :=
  s.modFab fun b => { b with outstanding := b.outstanding.map fun r => if r = q then { r with tries := n } else r }

/-- A numbered request has its reply: `f` is what its stream's request learns. A reply to a request that has been
answered, or that has become unresolved, is discarded (R341, R343).
Log 58: DEDUCED, unsafe. -/
def State.numberedReply (s : State) (p : Packet) (f : Req → Req) (fail : Option StopInfo) : Except Fault State :=
  match s.fab.numbered p.src p.sdie p.id with
  | none => .ok s
  | some q =>
    let done := s.modFab fun b => { b with outstanding := b.outstanding.filter (· ≠ q) }
    if !q.tag.isEmpty then .ok (done.signalAcked q.tag).flushHeld
    else match s.waiterOf (packetStream q.packet) p.src p.sdie p.id with
      | none => .ok s
      | some (n, r) => match fail with
        | some x => .ok (done.failReq n r x).flushHeld
        | none => (done.answerReq n (f r)).map State.flushHeld

/-! ### Management packets of this chip (R372) -/

/-- The management packet of a peer and an ID. -/
def Fabric.management (b : Fabric) (peer id : Nat) : Option Outstanding :=
  b.mgmtOut.find? fun q => q.packet.dst = peer && q.packet.id = id

/-- A management packet has its answer, or becomes unresolved: an append that another chip performs ends with a status
word. -/
def State.managementEnd (s : State) (q : Outstanding) (word : Nat) : State :=
  let s := (s.modFab fun b => { b with mgmtOut := b.mgmtOut.filter (· ≠ q) }).pumpMgmt q.packet.dst
  let key := q.packet.dst * 65536 + q.packet.id
  (List.range 4).foldl (fun s d =>
    match (s.dieAt d).forwards.find? fun f => f.1 = key with
    | none => s
    | some f =>
      let s := s.modDie d fun x => { x with forwards := x.forwards.filter (· ≠ f) }
      s.launchStatus (bodyWord q.packet 0 % 1024) f.2 word) s

/-- A management packet becomes unresolved: its sender is told that the peer is unreachable.
Log 50: DEDUCED, unsafe. -/
def State.managementLost (s : State) (q : Outstanding) : State :=
  let s := s.managementEnd q cBadToken
  { s with mgmt := { s.mgmt with posted := s.mgmt.posted ++ [⟨5, q.packet.dst, BitVec.ofNat 64 q.packet.id⟩] } }

/-- The management complex answers a form that C waits for: with a register when the form writes one. -/
def State.managementAnswered (s : State) (n v : Nat) (p : Nat → Bool) : State :=
  s.atWait n (CWait.manages p) fun s => match (s.coreAt n).cwait with
    | .management d what =>
      let s := s.modCore n fun c =>
        let c := { c with cwait := .none }
        if what = 1 then c else c.setScalar .c d (BitVec.ofNat 64 v)
      ({ s with core := n, str := .c }).advance false
    | _ => s

/-- The request of a `pgclass` is handed back undelivered. -/
def State.managementFailed (s : State) (n peer : Nat) : State :=
  s.atWait n (CWait.manages (· == 1)) fun s => match (s.coreAt n).cwait with
    | .management _ _ =>
      let s := s.modCore n fun c => { c with cwait := .none }
      State.raise { s with core := n, str := .c } { code := cPeer, info := peer % 4096 * 16 }
    | _ => s

/-! ### Requests handed back undelivered (R194, R354, R364) -/

/-- The packet that brings another chip's packet back to the chip that sent it, with what tells it apart; a request that an
old home has forwarded keeps the two words that name that home and its line (R371). -/
def State.backPacket (s : State) (p : Packet) : Packet :=
  { s.packet 4 (packetSender p) 4 with
    sdie := p.sdie, score := p.score, sstr := p.sstr, cls := p.cls, id := p.id, line := p.line, sect := p.sect,
    mask := p.mask, data := p.data, op := opNaming 10 p,
    body := p.body.take 8 ++ List.replicate (8 - p.body.length) 0 ++ [0, BitVec.ofNat 64 (p.dst + 4096 * p.src)] ++ (p.body.drop 8).take 2 }

/-- The request that a reply names. -/
def packetNamed (p : Packet) (src dst : Nat) : Packet :=
  { p with
    kind := p.op / 16 % 16, rq := p.op / 256 % 8, op := p.op / 2048, src := src, dst := dst, hops := 0,
    body := p.body.take 8 }

/-- The packet that a hand-back names. -/
def packetBack (p : Packet) : Packet :=
  let q := packetNamed p (bodyWord p 9 / 4096) (bodyWord p 9 % 4096)
  { q with body := q.body ++ p.body.drop 10 }

/-- Stored bytes of a line of a peer that were on their way home come back: the core's copy is dirty again; without a copy
they wait at this chip (R207, R214). -/
def State.redirty (s : State) (n : Nat) (p : Packet) : State :=
  let key := cacheKey (some p.dst) p.line
  match SMap.find (s.coreAt n).lines key with
  | some _ => s.modCore n fun c => c.modLine key fun e => { e with dirty := e.dirty ||| p.mask }
  | none =>
    (s.modFab fun b => { b with writing := b.writing ++ [(n, key)] }).keepPacket
      { p with sstr := 2, body := (p.body.take 4) ++ [3] }

/-- A stream's write is handed back: the copy that went with it is dirty again, one that it had only merged into goes
(R208, R214), and its request fails. -/
def State.writeBackFailed (s : State) (p : Packet) : Except Fault State :=
  let n := packetCore p
  match (s.coreAt n).awaiting (packetStream p) p.dst p.line with
  | none => .ok s
  | some r =>
    let s := match r.kind? with
      | some .discard => s
      | some .store | some .vstore =>
        if p.mask = BitVec.allOnes 128 then s.redirty n p else s.modCore n fun c => c.dropLine (cacheKey (some p.dst) p.line)
      | _ => s.redirty n p
    .ok (s.failReq n r ⟨cPeer, p.dst⟩)

/-- A packet that this chip has sent comes back undelivered (R194, R354, R364). A request that it had forwarded for another
chip goes back to that chip; what answers another chip, or tells it of something that has happened, is kept (R367). A hand-back that itself finds no
valid entry or link is dropped and counted.
Log 54: DEDUCED, unsafe. -/
def State.handBack (s : State) (p : Packet) : Except Fault State :=
  let n := packetCore p
  if p.kind < 4 ∧ p.src ≠ s.ownPeer then
    .ok (s.send (s.backPacket { p with dst := s.ownPeer, line := bodyWord p 9, body := p.body.take 8 }))
  else match p.kind with
  | 0 =>
    if p.sstr = 2 then
      .ok (if bodyWord p 3 = 1 then s.frontFailed p.sdie p.dst p.line else s.pieceFailed n cPeer)
    else match fetchStream (bodyWord p 3) with
      | some st => .ok (s.fetchFailed n st p.dst p.line cPeer (p.dst % 4096 * 16))
      | none => match (s.coreAt n).awaiting (packetStream p) p.dst p.line with
        | some r => .ok (s.failReq n r ⟨cPeer, p.dst⟩)
        | none => .ok s
  | 1 =>
    if bodyWord p 4 = 3 then .ok (s.keepPacket p)
    else if bodyWord p 4 = 2 then .ok (s.copyFailed p.dst p.line)
    -- a write to a copied line that follows it to its new home
    else if bodyWord p 4 = 1 then .ok (s.keepPacket p)
    else if p.sstr = 2 then .ok (s.pieceFailed n cPeer)
    else s.writeBackFailed p
  | 2 =>
    .ok (if !packetReduce p then s.post [.requestUnresolved p.dst p.sdie p.id]
      else if bodyWord p 7 = 1 then s else s.pieceFailed n cPeer)
  | 3 => .ok (s.post [.requestUnresolved p.dst p.sdie p.id])
  | 6 =>
    let name := bodyWord p 0
    .ok (
      if p.op = 1 then s.pinFailed n p.dst p.line (bodyWord p 0)
      else if p.op = 3 then
        if name = s.singleName then { s with homes := { s.homes with asked := false } } else s.keepPacket p
      else if p.op = 6 ∨ p.op = 9 then s.forgetFate name
      else if p.op = 7 ∨ p.op = 15 then s.recordAck name
      else if 10 ≤ p.op ∧ p.op ≤ 14 then s.bundleFailed n p.dst
      else if p.op % 16 = 4 then s.managementFailed n p.dst
      else if p.op = 2 ∨ p.op = 8 then s.keepPacket p
      else s)
  | 7 => .ok (match s.fab.management p.dst p.id with
    | some q => s.managementLost q
    | none => s)
  -- a hand-back that finds no way is dropped
  | 4 => .ok (if p.op % 16 = 10 then s.modFab fun b => { b with dropped := b.dropped + 1 } else s.keepPacket p)
  | 5 => .ok (s.keepPacket p)
  | _ => .ok s

/-! ### REPLY_PACKET -/

/-- The line that a read brings. -/
def gotOf (p : Packet) : GotLine := (p.src, p.line, p.data, BitVec.ofNat 5 (bodyWord p 0))

/-- Read data reaches the fetch, the request, the front end or the copy-engine line that awaits it. -/
def State.readReply (s : State) (p : Packet) : Except Fault State :=
  let n := packetCore p
  let (peer, l, d, m) := gotOf p
  if p.sstr = 2 then
    .ok (if bodyWord p 1 = 1 then s.frontLine p.sdie peer l d m else s.pieceAnswer n peer l (some (d, m)) false)
  else match fetchStream (bodyWord p 1) with
    | some st => .ok (s.fetched n st peer l (d, m))
    | none => match (s.coreAt n).awaiting (packetStream p) peer l with
      | some r => s.answerReq n (r.answer peer l (some (d, m)))
      | none => .ok s

/-- A write's acknowledgement: a line whose bytes no request awaits is written (3), the copy cursor awaits its own (2). -/
def State.writeReply (s : State) (p : Packet) : Except Fault State :=
  let n := packetCore p
  if bodyWord p 0 = 3 then .ok (s.written n (cacheKey (some p.src) p.line))
  else if bodyWord p 0 = 2 then .ok (s.copyAnswered p.src p.line)
  else if bodyWord p 0 = 1 then .ok s
  else if p.sstr = 2 then .ok (s.pieceAnswer n p.src p.line none false)
  else match (s.coreAt n).awaiting (packetStream p) p.src p.line with
    | some r => s.answerReq n (r.answer p.src p.line none)
    | none => .ok s

/-- MOVED (R179): the access performs, and its requester raises TOKEN_STALE. -/
def State.movedReply (s : State) (p : Packet) : Except Fault State :=
  let n := packetCore p
  let q := packetNamed p s.ownPeer p.src
  if (q.kind = 2 ∧ !packetReduce q) ∨ q.kind = 3 then s.numberedReply p id (some ⟨cStale, 0⟩)
  else if p.sstr = 2 then
    .ok (
      if q.kind = 0 ∧ bodyWord q 3 = 1 then s.frontFailed p.sdie p.src p.line
      else if q.kind = 1 ∧ bodyWord q 4 = 3 then s.written n (cacheKey (some p.src) p.line)
      else if q.kind = 1 ∧ bodyWord q 4 = 2 then s.copyFailed p.src p.line
      else if (q.kind = 2 ∧ bodyWord q 7 = 1) ∨ (q.kind = 1 ∧ bodyWord q 4 = 1) then s
      else s.pieceFailed n cStale)
  else match (if q.kind = 0 then fetchStream (bodyWord q 3) else none) with
    | some st => .ok (s.fetchFailed n st p.src p.line cStale 0)
    | none => match (s.coreAt n).awaiting (packetStream p) p.src p.line with
      | some r => .ok (s.failReq n r ⟨cStale, 0⟩)
      | none => .ok s

/-- The request that a retry answers, in its own receive-queue class and with its own sectors (R371, R358, R360). -/
def State.retried (s : State) (p : Packet) : Packet :=
  let q := packetNamed p s.ownPeer p.src
  if (q.kind = 2 ∧ !packetReduce q) ∨ q.kind = 3 then
    match s.fab.numbered p.src p.sdie p.id with
    | some o => o.packet
    | none => q
  else q

/-- A reply that goes on to the source whose request this chip had forwarded: it enters this chip's reply cache first
(R371). -/
def State.relay (s : State) (p : Packet) : State :=
  let src := bodyWord p 8 - 1
  let r := { p with
    src := s.ownPeer, dst := src, line := bodyWord p 9, hops := 0, body := p.body.take 8 }
  let s := if p.op = 4 then s.modFab fun b => b.record src p.sdie p.id r else s
  s.send r

/-- A form of C that waits on a word. -/
def Req.isWait (r : Req) : Bool := match r.instr with | .sigwait _ => true | .await _ => true | _ => false

/-- C, which has frozen at a wait that its home has parked, is to issue the form again when it returns (R347). -/
def Core.dropKept (c : Core) (peer line : Nat) : Core :=
  let l := c.reqs.filter fun r => r.kept && r.peer = peer && r.segs.any fun g => lineNo g.addr = line
  { c with
    reqs := c.reqs.filter fun r => !l.contains r
    frozen := c.frozen.filter fun z => !(l.any fun r => r.num = z.num) }

/-- A wake of a record that is parked at a remote home (R347). One that is ahead of the answer that parks the record waits
for it; a record that no longer waits there is not woken. -/
def State.remoteWake (s : State) (p : Packet) : State :=
  let die := bodyWord p 1
  let slot := bodyWord p 2
  let asked : Bool := s.cores.any fun c => c.2.recDie = die && c.2.recSlot = slot && c.2.mode ≠ .idle &&
    (c.2.reqs.any fun r => r.isWait && r.await.contains (p.src, p.line))
  if die = 4 then
    -- a word there is bound to a queue here (R415)
    match (s.queue slot).bound with
    | some a => if a / 2 ^ 40 = p.src + 1 ∧ lineNo (a % 2 ^ 40) = p.line then s.post [.wakeRegisterWrite slot] else s
    | none => s
  else match s.recAt die slot with
  | none => s
  | some r =>
    if r.state = .running ∧ asked then s.post [.replyPacket p]
    else if r.state = .running then
      (s.cores.filter fun c => c.2.recDie = die && c.2.recSlot = slot && c.2.mode ≠ .idle).foldl (fun s c =>
        s.modCore c.1 fun c => c.dropKept p.src p.line) s
    else match r.state, r.wait with
      | .waiting, .signal _ _ home a _ _ _ _ =>
        if home = p.src + 16 ∧ lineNo a = p.line then
          (s.setRec die slot { r with args := r.args.set r.wait.argIndex (p.body.getD 0 0) }).post [.waiterWake die slot]
        else s
      | _, _ => s

/-- REPLY_PACKET (R172, R341): by op, 0 data, 1 a pin, 2 an acknowledgement of a write, 3 a wake, 4 a numbered result, 5 a
bundle form's answer, 6 a stamp, 7 a contribution's acknowledgement, 8 MOVED, 9 retry, 10 a packet handed back
undelivered, 11 the management complex's answer, 12 a bundle's fate, 13 an acknowledgement of a record's news, 14 a wake of
a `feed`. -/
def execReplyPacket (p : Packet) (s : State) : Outcome State Fault Refusal :=
  let n := packetCore p
  if bodyWord p 8 ≠ 0 then .next (s.relay p)
  else outcomeOf (match p.op % 16 with
    | 0 => s.readReply p
    | 1 => .ok (s.pinAnswered n p.src p.line (bodyWord p 0))
    | 2 => s.writeReply p
    | 3 => .ok (s.remoteWake p)
    | 4 => s.numberedReply p (fun r =>
        { r with result := some (p.body.getD 0 0), status := bodyWord p 1 + 8 * bodyWord p 2, await := [] }) none
    | 5 => .ok (s.bundleAnswered n (p.body.getD 0 0) (bodyWord p 1 = 0))
    | 6 => .ok (s.post [.stampReceived ((p.body.getD 0 0).setWidth 32) (bodyWord p 1)])
    | 7 =>
      let bad : Bool := bodyWord p 1 ≠ 0 && ((s.coreAt n).piece.any fun q => q.job = bodyWord p 0)
      .ok (s.pieceAnswer n p.src p.line none bad)
    | 8 => s.movedReply p
    | 9 => .ok (s.post [.migrationRetry (s.retried p)])
    | 10 => (s.unsend (packetBack p)).handBack (packetBack p)
    | 11 => .ok (s.managementAnswered n 0 (· == 1))
    | 12 => .ok (s.fateAnswer (bodyWord p 0) (bodyWord p 1) (bodyWord p 2))
    | 13 => .ok (s.recordAck (bodyWord p 0))
    | 14 => .ok (s.post [.feedWake (bodyWord p 0)])
    | _ => .ok s)

/-- MIGRATION_RETRY (R371): a request that was answered with retry is sent again under the same ID; the resend counts
toward no budget. -/
def execMigrationRetry (p : Packet) (s : State) : Outcome State Fault Refusal :=
  if s.hasRoute p.dst then .next (s.send p) else outcomeOf (s.handBack p)

/-! ### Resends (R340, R343) -/

/-- The number in place of a source die that names the management packets' own sequence (R372). -/
def mgmtDie : Nat := 4

/-- RETRANSMISSION (R340, R343, R372): an unanswered request is sent again under its ID; past the budget, or without a
route, it becomes unresolved.
Log 10: DESIGN CHOICE, safe. -/
def execRetransmission (peer die id : Nat) (s : State) : Outcome State Fault Refusal :=
  let q := if die = mgmtDie then s.fab.management peer id else s.fab.numbered peer die id
  match q with
  | none => .next s
  | some q =>
    if s.fab.budget < q.tries ∨ (die = mgmtDie ∧ !q.tag.isEmpty) then .next s
    else if q.tries = s.fab.budget ∨ !s.hasRoute peer then .next (s.post [.requestUnresolved peer die id])
    else if die = mgmtDie then
      let up : Outstanding := { q with tries := q.tries + 1 }
      .next ((s.modFab fun b => { b with mgmtOut := b.mgmtOut.map fun r => if r = q then up else r }).send q.packet)
    else .next ((s.setTries q (q.tries + 1)).send q.packet)

/-- The value of sys.aretry for an unresolved request of C (R343). -/
def aretryWord (peer id : Nat) : W64 := BitVec.ofNat 64 (2 ^ 63 + peer % 4096 * 2 ^ 16 + id % 2 ^ 16)

/-- REQUEST_UNRESOLVED (R343, R368): a stream's request raises PEER_UNREACHABLE and keeps its ID and its in-flight count;
the device's own updates stay held; a management packet ends as unreachable (R372).
Log 58: DEDUCED, unsafe. -/
def execRequestUnresolved (peer die id : Nat) (s : State) : Outcome State Fault Refusal :=
  if die = mgmtDie then
    match s.fab.management peer id with
    | some q => .next (s.managementLost q)
    | none => .next s
  else match s.fab.numbered peer die id with
    | none => .next s
    | some q =>
      let st := packetStream q.packet
      if !q.tag.isEmpty then .next (s.setTries q 0)
      else match s.waiterOf st peer die id with
        | none => .next s
        | some (n, r) =>
          let s := s.setTries q (s.fab.budget + 1)
          let s := if st = .c then
              s.modCore n fun c => { c with cont := { c.cont with aretry := aretryWord peer id } }
            else s
          .next (s.unresolve n r peer)

/-- The unanswered requests to peers that have lost their route become unresolved (R343). -/
def State.lostRoutes (s : State) : State :=
  s.post ((s.fab.outstanding.filter fun q => !s.hasRoute q.packet.dst && q.tries ≤ s.fab.budget).map fun q =>
    .requestUnresolved q.packet.dst q.packet.sdie q.packet.id)

/-! ### Management packets (R372) -/

/-- A request of the management class is taken once (R341, R372): a duplicate is answered from the reply cache, or not
at all while the first is being served. -/
def State.managementRequest (s : State) (p : Packet) : State :=
  let newest := SMap.get 0xFFFF s.fab.mgmtAccepted p.src
  if 64 ≤ distance newest p.id then s.slotEmptied p
  else match s.fab.mgmtReplies.find? fun q => q.peer = p.src && q.id = p.id with
    | some q => (if q.reply.kind = 7 then s.send q.reply else s).slotEmptied p
    | none =>
      if s.fab.reconf ≠ .run ∧ p.op % 16 = 0 then s.post [.managementPacket p]
      else
        let keep := s.fab.mgmtReplies.filter fun q => !(q.peer = p.src && q.id % 64 = p.id % 64)
        let s := s.modFab fun b =>
          { b with
            mgmtReplies := keep ++ [⟨p.src, 0, p.id, s.packet 15 p.src 0⟩]
            mgmtAccepted := if distance newest p.id < 0 then SMap.put b.mgmtAccepted p.src p.id else b.mgmtAccepted }
        let s := s.slotEmptied p
        if p.op % 16 = 0 then s.post [.fabricLaunch (packetDie p) p]
        else if p.op % 16 = 1 then s.post [.residencyRequest (packetDie p) p]
        else if p.op % 16 = 6 then
          -- a queue of the peer is bound to a word here, or no longer bound to one (R413, R415)
          let q := bodyWord p 1
          let rest := s.homes.watchers.filter fun w => !(w.1 = p.src && w.2.2 = q)
          let a := bodyWord p 0
          let s : State := { s with homes := { s.homes with
            watchers := if bodyWord p 2 = 1 ∧ isMapped a then rest ++ [(p.src, a, q)] else rest } }
          s.mgmtReply p 5 []
        else
          -- a home's firmware asks for the migration of a page (R179)
          let s : State := { s with mgmt := { s.mgmt with posted := s.mgmt.posted ++ [⟨6, p.src, p.body.getD 0 0⟩] } }
          s.mgmtReply p 5 []

/-- MANAGEMENT_PACKET (R372): ops 0 a launch or feed-append record, 1 a residency request, 4 a migration notice, 6 a binding of a
signal word; 2 the
status reply to a record, 3 a residency report, 5 the acknowledgement of a notice. -/
def execManagementPacket (p : Packet) (s : State) : Outcome State Fault Refusal :=
  let op := p.op % 16
  if op = 2 ∨ op = 3 ∨ op = 5 then
    match s.fab.management p.src p.id with
    | some q => .next ((s.managementEnd q (bodyWord p 0)).slotEmptied p)
    | none => .next (s.slotEmptied p)
  else .next (s.managementRequest p)

/-! ### Forwarding (R359, R364) -/

/-- The event in which a packet for this chip is taken. -/
def arrival (p : Packet) : Event :=
  match p.kind with
  | 0 => .readPacket p
  | 1 => .writePacket p
  | 2 => .atomicPacket p
  | 3 => .signalUpdatePacket p
  | 4 => .replyPacket p
  | 5 => .commitNotice ((p.body.getD 0 0).setWidth 32) (bodyWord p 1)
  | 6 =>
    if p.op = 1 then .pinRequest p else if p.op = 2 then .unpinRequest p
    else if p.op = 3 then .stampRequest p.src ((p.body.getD 0 0).setWidth 32)
    else .bundleRecordRequest p
  | _ => .managementPacket p

/-- A header that R357 makes illegal. -/
def packetIllegal (p : Packet) : Bool :=
  8 < p.kind || p.sstr = 3 || ((p.kind = 0 || p.kind = 1 || p.kind = 8) && p.op ≠ 0) ||
    ((p.kind = 0 || p.kind = 1 || p.kind = 5 || p.kind = 6 || p.kind = 8) && p.id ≠ 0)

/-- A packet arrives at its destination. Notices, control packets and replies leave their slots at once; the others when
they have been served (R361). An illegal one is dropped and counted (R357). -/
def State.deliverPacket (s : State) (p : Packet) : State :=
  let s := s.slotTaken p
  if packetIllegal p then (s.modFab fun b => { b with dropped := b.dropped + 1 }).slotEmptied p
  else
    let s := if p.kind = 4 ∨ p.kind = 5 ∨ p.kind = 6 then s.slotEmptied p else s
    s.post [arrival p]

/-- The words of a write packet that its home reads. -/
def writeWords (p : Packet) : List W64 := p.body.take 5

/-- Two write packets merge into one at the place of the earlier, which then counts for both (R359, R361). -/
def mergeWrites (a b : Packet) : Packet :=
  let m := a.mask ||| b.mask
  { a with
    mask := m, data := mergeLine a.data b.data b.mask, sect := sectorsOf m
    body := writeWords a ++ List.replicate (7 - (writeWords a).length) 0 ++
      [BitVec.ofNat 64 (packetCount a + packetCount b - 1)] ++ a.body.drop 8 }

/-- The write of an egress queue with which a write merges (R359): the same line, source and class, with no packet of that
source and class after it.
Log 54: DEDUCED, unsafe. -/
def mergeable (out : List Packet) (p : Packet) : Option Packet :=
  let same : Packet → Bool := fun q =>
    q.src = p.src && q.sdie = p.sdie && q.score = p.score && q.sstr = p.sstr && q.cls = p.cls
  match out.reverse.find? same with
  | some q =>
    -- writes that are told apart by their bundle, view or answer stay apart
    if q.kind = 1 ∧ p.kind = 1 ∧ q.dst = p.dst ∧ q.line = p.line ∧ q.rq = p.rq ∧ writeWords q = writeWords p ∧ q.body.drop 8 = p.body.drop 8 then some q else none
  | none => none

/-- PACKET_FORWARD (R364, R359): a packet for this chip is taken; one that has no valid entry or link here, or whose hops
would exceed 15, is handed back; any other goes on, merged with a write that waits where R359 lets it.
Log 54: DEDUCED, unsafe. -/
def execPacketForward (p : Packet) (s : State) : Outcome State Fault Refusal :=
  let own : Bool := packetSender p = s.ownPeer
  let hops := if own then p.hops else p.hops + 1
  if p.dst = s.ownPeer then .next (s.deliverPacket p)
  else if s.fab.lit ∧ ((s.linkOf p).isNone ∨ 15 < hops) then
    if own ∨ (p.kind = 4 ∧ p.op % 16 = 10) then outcomeOf (s.handBack p) else .next (s.send (s.backPacket p))
  else
    let q := { p with hops := hops }
    match mergeable s.fab.out q with
    | some e =>
      if own then .next (s.send q)
      else .next (s.modFab fun b => { b with out := b.out.map fun r => if r = e then mergeWrites e q else r })
    | none => .next (s.send q)

end Sys2Proof.Machine
end

