-- ==== Sys2Proof/Machine/Links.lean ====
section
/-! DEFINITION. Links of the fabric port (R351 to R356, R361, R362): flits received and replayed, slot returns and credits,
links that leave service, and wavelengths that retrain. -/

namespace Sys2Proof.Machine

open Host (Outcome)

/-- The number of a link (R351). -/
def linkKey (die link : Nat) : Nat := die % 4 * 128 + link % 128

/-- The transmit and the receive fibre of its die that a link uses (R351, R17). -/
def linkFibre (link : Nat) : Nat := link % 128 / 4

/-- The wavelength of that fibre that is link wavelength `w` (R351). -/
def linkWavelength (link w : Nat) : Nat := 8 * (link % 4) + w % 8

/-! ### Receiving (R352, R353) -/

/-- Bytes [lo, lo + n) of a flit. -/
def flitField (flit : BitVec 512) (lo n : Nat) : Nat := flit.toNat / 2 ^ (8 * lo) % 2 ^ (8 * n)

/-- The CRC of a flit holds (R352).
Log 53: PRESUMED, unsafe. -/
def flitGood (flit : BitVec 512) : Bool := crc32 (bytesOf 60 (flit.toNat % 2 ^ 480)) = flitField flit 60 4

/-- The signed 15-bit distance of a flit's number from the next one expected (R353). -/
def flitDistance (seq next : Nat) : Int :=
  let d : Nat := (seq + 2 ^ 15 - next % 2 ^ 15) % 2 ^ 15
  if d < 2 ^ 14 then (d : Int) else (d : Int) - 2 ^ 15

/-- The header that bytes begin with (R357). -/
def packetOfHeader (h : Nat) : Packet :=
  { kind := bitsOf h 127 124, dst := bitsOf h 123 112, src := bitsOf h 111 100, sdie := bitsOf h 99 98,
    score := bitsOf h 97 91, sstr := bitsOf h 90 89, cls := bitsOf h 88 85, rq := bitsOf h 84 82, id := bitsOf h 81 66,
    line := bitsOf h 65 33, sect := bitsOf h 32 29, hops := bitsOf h 28 25, op := bitsOf h 24 0, mask := 0, data := 0,
    body := [] }

/-- A packet from its bytes and the words that its layout gives no place (R357, R358). -/
def packetOf (l : List Byte) (side : List W64) : Packet :=
  let p := packetOfHeader (natAt l 0 16)
  let at_ := if packetMasked p then 32 else 16
  let k := packetSectors p
  { p with
    mask := if packetMasked p then BitVec.ofNat 128 (natAt l 16 16) else 0
    data := if packetCarries p then
        (List.range k.length).foldl (fun d i => lineWith d (32 * k.getD i 0) 32 (natAt l (at_ + 32 * i) 32)) 0
      else 0
    body := if packetRecord p then (List.range 33).map fun i => BitVec.ofNat 64 (natAt l (16 + 8 * i) 8) else side }

/-- A packet that arrives on a link goes to its home, its source or its next link (R357, R364); a drain marker is for this
chip, and takes no slot (R367, R369). -/
def State.receivePacket (s : State) (k : Nat) (p : Packet) : State :=
  if p.kind = 8 ∧ !packetIllegal p then
    s.post [.drainMarker (k / 128) (k % 128) p.rq]
  else if p.dst = s.ownPeer ∨ p.kind = 8 then s.deliverPacket p
  else s.post [.packetForward p]

/-- The payload of an accepted flit: with a packet's last flit the packet is whole, and its flits leave the link's buffer
(R362). -/
def State.takePayload (s : State) (k : Nat) (payload : List Byte) (side : List W64) : State :=
  let rx := (s.link k).rx ++ payload
  let h := packetOfHeader (natAt rx 0 16)
  let n := packetFlits h
  if rx.length < 56 * n then (s.modLink k fun l => { l with rx := rx }).sendControl k [] [] none
  else
    let s := s.modLink k fun l =>
      { l with rx := [], credGiven := SMap.put l.credGiven h.rq ((SMap.get 0 l.credGiven h.rq + n) % 2 ^ 16) }
    let s := s.sendControl k [] [(h.rq, SMap.get 0 (s.link k).credGiven h.rq)] none
    s.receivePacket k (packetOf rx side)

/-- Replay is asked for from the first flit that has not been accepted, for each flit that fails its check or arrives out of
sequence (R353). `ahead` is how far ahead of the next one expected the flit was, 0 when it failed its check. The flit that is
wanted counts as failed by one more replay with the first such flit, and whenever the flits begin again.
Log 78: DEDUCED, unsafe. -/
def State.askReplay (s : State) (k ahead : Nat) : State :=
  let l := s.link k
  let counts : Bool := ahead = 0 || l.asked.all fun a => ahead ≤ a
  (s.modLink k fun l => { l with asked := some ahead }).sendControl k [] [] (some (l.recvSeq, counts))

/-- The flits that an acknowledgement names: of those unacknowledged, the one whose number it is, and all before it (R353).
-/
def ackFlits (l : List (Nat × BitVec 512 × List W64)) (a : Nat) : List (Nat × BitVec 512 × List W64) :=
  if l.any fun f => f.1 = a then (l.dropWhile fun f => f.1 ≠ a).drop 1 else l

/-- The flits of a packet, as its first flit's header says (R357). -/
def flitsFrom (f : BitVec 512) : Nat := packetFlits (packetOfHeader (f.toNat % 2 ^ 128))

/-- Of flits that begin with a packet's first, those of the last packet if some of its flits are still to come.
Log 78: DEDUCED, unsafe. -/
def unfinished : Nat → List (Nat × BitVec 512 × List W64) → List (Nat × BitVec 512 × List W64)
  | 0, l => l
  | fuel + 1, l => match l with
    | [] => []
    | f :: _ => if flitsFrom f.2.1 ≤ l.length then unfinished fuel (l.drop (flitsFrom f.2.1)) else l

/-- The flits that stay unacknowledged; `begun` keeps those of a packet of which only the first are acknowledged.
Log 78: DEDUCED, unsafe. -/
def Link.keep (l : Link) (left : List (Nat × BitVec 512 × List W64)) : Link :=
  { l with
    replay := left
    begun := unfinished 512 (l.begun ++ l.replay.take (l.replay.length - left.length)) }

/-- A cumulative acknowledgement. -/
def State.acked (s : State) (k a : Nat) : State :=
  s.modLink k fun l =>
    let left := ackFlits l.replay a
    { l.keep left with replays := if left.length = l.replay.length then l.replays else 0 }

/-- The header of the packet to which the first unacknowledged flit of a link belongs. -/
def Link.firstPacket (l : Link) : Option Packet :=
  if l.replay.isEmpty then none
  else ((l.begun ++ l.replay).head?).map fun f => packetOfHeader (f.2.1.toNat % 2 ^ 128)

/-- The next link after a failed one in the route entry of its unacknowledged flits, in service and to the same chip (R354).
Log 78: DEDUCED, unsafe. -/
def State.nextLink (s : State) (k : Nat) : Option Nat :=
  match (s.link k).firstPacket with
  | none => none
  | some p =>
    let e := s.route p.dst
    let l := routeLinks e
    if bitOf e 63 ∧ l.contains k then
      ((l.rotateLeft (l.idxOf k)).drop 1).find? fun i => i ≠ k && (s.link i).up && (s.link i).far = (s.link k).far
    else none

/-- The link that carries the flits of a link: itself, or the next one once it is out of service (R354). -/
def State.carrier (s : State) (k : Nat) : Nat := if (s.link k).up then k else (s.nextLink k).getD k

/-- Unacknowledged flits of a link are sent again, with its name and their numbers (R353, R354). -/
def State.resendFlits (s : State) (k : Nat) (l : List (Nat × BitVec 512 × List W64)) : State :=
  let c := s.carrier k
  s.modFab fun b => { b with tx := b.tx ++ l.map fun f => (c, k, .data f.2.1 f.2.2) }

/-- The unacknowledged flits of a link from a number on. -/
def Link.from_ (l : Link) (seq : Nat) : List (Nat × BitVec 512 × List W64) :=
  if l.replay.any fun f => f.1 = seq then l.replay.dropWhile fun f => f.1 ≠ seq else l.replay

/-- A data flit that passes its check (R353): accepted in sequence, discarded as a duplicate, or discarded with replay asked
for. -/
def State.takeData (s : State) (k : Nat) (flit : BitVec 512) (side : List W64) : State :=
  let d := flitDistance (flitField flit 56 2 % 2 ^ 15) (s.link k).recvSeq
  let s := s.acked k (flitField flit 58 2 % 2 ^ 15)
  if d = 0 then
    let s := s.modLink k fun l => { l with recvSeq := (l.recvSeq + 1) % 2 ^ 15, asked := none }
    (s.takePayload k ((List.range 56).map fun i => BitVec.ofNat 8 (flitField flit i 1)) side).pump
  else if -256 ≤ d ∧ d < 0 then (s.sendControl k [] [] none).pump
  else s.askReplay k (max 1 d.toNat)

/-- A count that has come back, if it is newer than the one held: not beyond what has been sent (R361). -/
def newerCount (sent old new : Nat) : Nat := if diff16 new old ≤ diff16 sent old then new % 2 ^ 16 else old

/-- A slot return reaches its source chip, or is passed on towards it (R361). A count beyond what this chip takes for sent
names packets that it had taken back from a failed link and that had arrived all the same: they count as sent, and no slot
is lost.
Log 78: DEDUCED, unsafe. -/
def State.takeReturn (s : State) (r : Nat × Nat × Nat × Nat) : State :=
  let (source, receiver, rq, count) := r
  if source ≠ s.ownPeer then s.passReturn r
  else s.modFab fun b =>
    let i := pairOf receiver rq
    let ahead := diff16 count (SMap.get 0 b.sent i)
    let b := if ahead ≠ 0 ∧ ahead < 2 ^ 15 then { b with sent := SMap.put b.sent i (count % 2 ^ 16) } else b
    { b with freed := SMap.put b.freed i (newerCount (SMap.get 0 b.sent i) (SMap.get 0 b.freed i) count) }

/-- A control flit that passes its check (R352, R353, R361, R362): an acknowledgement, slot returns, credits, and a request
for replay. -/
def State.takeControl (s : State) (k : Nat) (c : SlotReturn) : State :=
  let s := c.slots.foldl State.takeReturn (s.acked k c.ack)
  let s := c.credits.foldl (fun s r => s.modLink k fun l =>
    let n := newerCount (SMap.get 0 l.credSent r.1) (SMap.get 0 l.credBack r.1) r.2
    { l with credBack := SMap.put l.credBack r.1 n }) s
  let s := match c.nak with
    | some (n, true) => s.post [.replay (k / 128) (k % 128) n]
    | some (n, false) => s.resendFlits k ((s.link k).from_ n)
    | none => s
  s.pump

/-- A flit that passes its check is a control flit when its bit 15 says so (R352). -/
def State.takeFlit (s : State) (k : Nat) (flit : BitVec 512) (side : List W64) : State :=
  if bitOf (flitField flit 58 2) 15 then s.takeControl k (controlOf flit) else s.takeData k flit side

/-- DATA_FLIT (R353): one that fails its check is discarded, and replay is asked for.
Log 2: DESIGN CHOICE, unsafe. -/
def execDataFlit (die link : Nat) (flit : BitVec 512) (side : List W64) (s : State) : Outcome State Fault Refusal :=
  let k := linkKey die link
  if !s.fab.lit then .next s
  else if !flitGood flit then .next (s.askReplay k 0)
  else .next (s.takeFlit k flit side)

/-- CONTROL_FLIT (R352, R353): one that fails its check is discarded, and nothing replaces it. -/
def execControlFlit (die link : Nat) (flit : BitVec 512) (s : State) : Outcome State Fault Refusal :=
  if !flitGood flit ∨ !s.fab.lit then .next s else .next (s.takeFlit (linkKey die link) flit [])

/-- FREED_REFRESH (R361, R362): the absolute count goes to a source whose slots are not all freed, and the absolute credits
of the class to the chip at the far end of each of its links.
Log 10: DESIGN CHOICE, safe. -/
def execFreedRefresh (peer rq : Nat) (s : State) : Outcome State Fault Refusal :=
  let i := pairOf peer rq
  let s := ((s.fab.links.filter fun l => l.2.up && l.2.far = peer).map (·.1)).foldl (fun s k =>
    s.sendControl k [] [(rq, SMap.get 0 (s.link k).credGiven rq)] none) s
  .next (if SMap.get 0 s.fab.taken i = SMap.get 0 s.fab.emptied i then s else s.returnSlots peer rq)

/-- REPLAY (R353): the unacknowledged flits are sent again from the number asked for; a flit that
has failed sixteen replays in succession takes the link that carries it out of service.
Log 78: DEDUCED, unsafe. -/
def execReplay (die link seq : Nat) (s : State) : Outcome State Fault Refusal :=
  let k := linkKey die link
  let l := s.link k
  let left := l.from_ seq
  let count := if left.length = l.replay.length then l.replays + 1 else 1
  let s := s.modLink k fun l => { l.keep left with replays := count }
  if left.isEmpty ∨ !s.fab.lit then .next s
  else if 16 < count then .next (s.post [.linkOutOfService (s.carrier k / 128) (s.carrier k % 128)])
  else .next (s.resendFlits k left)

/-! ### Links out of service (R354) -/

/-- The packets that flits carry, the first of them a packet's first. -/
def replayPackets : Nat → List (BitVec 512 × List W64) → List Packet
  | 0, _ => []
  | fuel + 1, l => match l with
    | [] => []
    | (f, _) :: _ =>
      let n := flitsFrom f
      let mine := l.take n
      let bytes := mine.flatMap fun g => (List.range 56).map fun i => BitVec.ofNat 8 (flitField g.1 i 1)
      packetOf bytes (mine.flatMap (·.2)) :: replayPackets fuel (l.drop n)

/-- Undelivered packets go back to the chips that have sent them (R354). -/
def State.handBackAll : List Packet → State → Except Fault State
  | [], s => .ok s
  | p :: rest, s =>
    if packetSender p = s.ownPeer then
      match (s.unsend p).handBack p with
      | .ok s => s.handBackAll rest
      | .error f => .error f
    else (s.send (s.backPacket p)).handBackAll rest

/-- The unacknowledged flits of a link out of service move, with its name and their numbers, to the next link to the same
chip; when there is none, their packets are handed back (R354). -/
def State.moveFlits (s : State) (k : Nat) : Except Fault State :=
  let l := s.link k
  match s.nextLink k with
  | some _ => .ok (s.resendFlits k l.replay)
  | none =>
    let ps := if l.replay.isEmpty then [] else replayPackets 512 ((l.begun ++ l.replay).map (·.2))
    State.handBackAll ps (s.modLink k fun l => { l with replay := [], begun := [] })

/-- The flits of several links move. -/
def State.moveAll : List Nat → State → Except Fault State
  | [], s => .ok s
  | k :: rest, s => match s.moveFlits k with
    | .ok s => s.moveAll rest
    | .error f => .error f

/-- LINK_OUT_OF_SERVICE (R354): the unacknowledged flits that the link carries, of its own and of links that have failed
before it, move to the next link. -/
def execLinkOutOfService (die link : Nat) (s : State) : Outcome State Fault Refusal :=
  let k := linkKey die link
  if !(s.link k).up then .next s
  else
    let others := (s.fab.links.filter fun p => !p.2.up && s.nextLink p.1 = some k).map (·.1)
    let s := s.modLink k fun l => { l with up := false, replays := 0 }
    outcomeOf ((State.moveAll (k :: others) s).map State.pump)

/-! ### Wavelengths (R355, R356) -/

/-- A wavelength of a link. -/
def Link.wave (l : Link) (w : Nat) : Wave := SMap.get .reset l.waves w
/-- Changes a wavelength. -/
def Link.setWave (l : Link) (w : Nat) (v : Wave) : Link := { l with waves := SMap.put l.waves w v }

/-- The wavelengths of a direction that are ACTIVE: 0 receive, 1 transmit. -/
def Link.active (l : Link) (dir : Nat) : Nat := ((List.range 8).filter fun w => (l.wave (8 * dir + w)).state = .active).length

/-- A wavelength of the link is away from service. -/
def Link.away (l : Link) : Bool :=
  (List.range 16).any fun w =>
    let st := (l.wave w).state
    st = .leaving || st = .retrain || st = .ready

/-- A link with fewer than 6 ACTIVE wavelengths in a direction goes out of service (R355). -/
def State.checkLink (s : State) (die link : Nat) : State :=
  let l := s.link (linkKey die link)
  if l.up ∧ (l.active 0 < 6 ∨ l.active 1 < 6) then s.post [.linkOutOfService die link] else s

/-- With no wavelength away, the first that is due leaves (R355). -/
def State.dueLeaves (s : State) (die link : Nat) : State :=
  let k := linkKey die link
  let l := s.link k
  if l.away then s
  else match (List.range 16).find? fun w => (l.wave w).state = .active && (l.wave w).due with
    | some w =>
      let v := l.wave w
      ((s.modLink k fun l => l.setWave w { v with state := .leaving, due := false }).post
        [.flitBoundarySwitch die link w]).checkLink die link
    | none => s

/-- ERROR_WINDOW_END (R355): against the default threshold.
Log 10: DESIGN CHOICE, safe. 83: DESIGN CHOICE, unsafe. -/
def execErrorWindowEnd (die link wave errs : Nat) (s : State) : Outcome State Fault Refusal :=
  let k := linkKey die link
  let l := s.link k
  let v : Wave := { l.wave wave with errors := errs }
  if 15 < wave then .next s
  else if v.state ≠ .active ∨ errs ≤ s.fab.errLimit then .next (s.modLink k fun l => l.setWave wave v)
  else if l.away then .next (s.modLink k fun l => l.setWave wave { v with due := true })
  else
    let s := s.modLink k fun l => l.setWave wave { v with state := .leaving, due := false }
    .next ((s.post [.flitBoundarySwitch die link wave]).checkLink die link)

/-- FLIT_BOUNDARY_SWITCH (R355, R356): a LEAVING wavelength leaves the deal; a READY one rejoins it, and one that is due
may then leave. -/
def execFlitBoundarySwitch (die link wave : Nat) (s : State) : Outcome State Fault Refusal :=
  let k := linkKey die link
  let v := (s.link k).wave wave
  if v.state = .leaving then .next (s.modLink k fun l => l.setWave wave { v with state := .retrain, attempts := 0 })
  else if v.state = .ready then
    .next ((s.modLink k fun l => l.setWave wave { v with state := .active }).dueLeaves die link)
  else .next s

/-- A link whose wavelengths have all been trained or retired comes up (R367).
Log 55: DEDUCED, unsafe. -/
def Link.settle (l : Link) : Link :=
  if !l.away ∧ 6 ≤ l.active 0 ∧ 6 ≤ l.active 1 then { l with up := true } else l

/-- A link learns which peer a wavelength reaches: the transmit direction's are 8 to 15 (R351, R433). -/
def Link.learn (l : Link) (wave far : Nat) : Link := if wave < 8 then { l with back := far } else { l with far := far }

/-- TRAINING_SUCCESS (R355, R367): in service the wavelength is READY; in RELOCK it is ACTIVE, and the link learns the peer
at that end (R433). -/
def execTrainingSuccess (die link wave far : Nat) (s : State) : Outcome State Fault Refusal :=
  let k := linkKey die link
  let v := (s.link k).wave wave
  if v.state ≠ .retrain then .next s
  else if s.fab.reconf = .relock then
    .next (s.modLink k fun l => ((l.learn wave far).setWave wave { v with state := .active, attempts := 0 }).settle)
  else
    let s := s.modLink k fun l => l.setWave wave { v with state := .ready, attempts := 0 }
    .next (s.post [.flitBoundarySwitch die link wave])

/-- TRAINING_ATTEMPT_FAIL (R355): the third in succession retires the wavelength and starts its self-test (R407). A
wavelength that is due leaves then as well, the lowest-numbered first.
Log 83: DESIGN CHOICE, unsafe. -/
def execTrainingAttemptFail (die link wave : Nat) (s : State) : Outcome State Fault Refusal :=
  let k := linkKey die link
  let v := (s.link k).wave wave
  if v.state ≠ .retrain then .next s
  else if v.attempts < 2 then .next (s.modLink k fun l => l.setWave wave { v with attempts := v.attempts + 1 })
  else
    let s := s.modLink k fun l => l.setWave wave { v with state := .retired, attempts := 3 }
    let s := if s.fab.reconf = .relock then s.modLink k Link.settle else s
    let outcome := Config.testOutcome s.fresh
    let s : State := { s with fresh := s.fresh + 1 }
    .next (((s.post [.selfTest 3 k outcome]).dueLeaves die link).checkLink die link)

end Sys2Proof.Machine
end

