-- ==== Sys2Proof/Machine/Reconfig.lean ====
section
/-! DEFINITION. The reconfiguration of the circuit switch (R366 to R370, R413, R430, R433, R342). -/

namespace Sys2Proof.Machine

open Host (Outcome)

/-! ### The command (R366, R413) -/

/-- A new group as command 0x0E names it: its header, and its members from its bitmap. -/
structure NewGroup where
  header : Nat
  members : List Nat
  deriving DecidableEq, Repr, Inhabited

/-- The plan of command 0x0E. -/
def State.readPlan (s : State) (a g : Nat) : List NewGroup :=
  (List.range g).map fun i =>
    let map := s.physBytes (a + 520 * i + 8) 512
    ⟨s.physNat (a + 520 * i) 8,
      (List.range 4096).filter fun p => bitOf (map.getD (p / 8) 0).toNat (p % 8)⟩

/-- The manager of a new group. -/
def NewGroup.manager (g : NewGroup) : Nat := bitsOf g.header 27 16
/-- The sequencer of a new group. -/
def NewGroup.sequencer (g : NewGroup) : Nat := bitsOf g.header 39 28
/-- The allowance of a new group. -/
def NewGroup.allowance (g : NewGroup) : Nat := bitsOf g.header 54 40

/-- The refusals of command 0x0E on its plan. What groups the members are in that are not of this chip's group, firmware hears.
Log 56: DESIGN CHOICE, safe. -/
def State.planRefused (s : State) (l : List NewGroup) : Bool :=
  let all := l.flatMap (·.members)
  (all.length != all.eraseDups.length) ||
    (l.any fun g => !g.members.contains g.manager || !g.members.contains g.sequencer || g.allowance = 0 ||
      2 ^ 55 ≤ g.header) ||
    (s.fab.peerid.getLsbD 63 && all.any s.fab.members.contains && s.fab.manager != s.ownPeer) ||
    all.any fun p => !s.fab.members.contains p && p != s.ownPeer &&
      (match Config.peerManager s.fresh p with
        | some m => m != s.ownPeer
        | none => false)

/-- The first stamp of a new group's sequencer: 1 + the largest last stamp among the old groups of its members (R370).
Log 56: DESIGN CHOICE, safe. -/
def State.firstStamp (s : State) (members : List Nat) : Nat :=
  1 + (members.filter fun p => !s.fab.members.contains p && p ≠ s.ownPeer).foldl
    (fun t p => max t (Config.peerStamp s.fresh p)) s.homes.complete

/-- The order of this chip's part of a plan (R370): the new group that contains it, or none; the members that have been reset
are as the manager finds them (R342).
Log 56: DESIGN CHOICE, safe. -/
def State.planOf (s : State) (l : List NewGroup) : RoutesPlan :=
  match l.find? fun g => g.members.contains s.ownPeer with
  | some g =>
    { group := bitsOf g.header 15 0, members := g.members, manager := g.manager, sequencer := g.sequencer,
      stamp := s.firstStamp g.members, allowance := g.allowance,
      fresh := g.members.filter fun p => p ≠ s.ownPeer && Config.resetPeer s.fresh p }
  | none =>
    { group := 0, members := [], manager := 0, sequencer := s.ownPeer, stamp := s.homes.complete + 1, allowance := 0,
      fresh := [] }

/-- The operands of a command beside those at the offsets of `used` are zero (R413). -/
def cmdZero (c : Cmd) (used : List Nat) : Bool :=
  cmdQuad c 0 / 256 = 0 && (List.range 7).all fun i => i = 0 || used.contains i || cmdQuad c i = 0

/-- The plan of a command. -/
def State.cmdPlan (s : State) (c : Cmd) : List NewGroup := s.readPlan (cmdQuad c 2) (cmdQuad c 1)

/-- RECONFIGURE_FABRIC (R366, R413): the command is refused, or its manager begins the sequence of R367. -/
def execReconfigureFabric (c : Cmd) (s : State) : Outcome State Fault Refusal :=
  let g := cmdQuad c 1
  let a := cmdQuad c 2
  if !cmdZero c [1, 2] ∨ g = 0 ∨ 16 < g then .next (s.cmdDone c 1)
  -- a plan that no memory holds breaks the rules of the operands
  else if !isMapped a ∨ !isMapped (a + 520 * g - 1) then .next (s.cmdDone c 1)
  else if s.planRefused (s.cmdPlan c) ∨ s.fab.reconf ≠ .run then .next (s.cmdDone c 1)
  else .next ((s.modFab fun b => { b with reconfCmd := some c }).post [.reconfigHold])

/-- The manager of this chip's own reconfiguration orders the next state.
Log 56: DESIGN CHOICE, safe. -/
def State.order (s : State) (e : Event) : State := if s.fab.reconfCmd.isSome then s.post [e] else s

/-! ### HOLD, DRAIN, DARK (R367) -/

/-- RECONFIG_HOLD (R367).
Log 56: DESIGN CHOICE, safe. -/
def execReconfigHold (s : State) : Outcome State Fault Refusal :=
  if s.fab.reconf ≠ .run then .next s
  else .next ((s.modFab fun b => { b with reconf := .hold }).order .reconfigDrain)

/-- A core awaits an answer of another chip. -/
def Core.awaitsPeer (c : Core) : Bool :=
  (c.reqs.any fun r => !r.await.isEmpty && r.stop.isNone) || (c.piece.any fun p => !p.await.isEmpty) ||
    ([Stream.c, .a, .x].any fun st => (c.stream st).awaiting.isSome) ||
    (c.waits.any fun w => match w with
      | .translation _ _ _ _ _ _ _ left _ _ => !left.isEmpty
      | .bundle _ _ _ _ => true
      | .management _ what => what == 1
      | _ => false)

/-- The request for the stamp of a SEALING record of this chip has been handed back, and is kept. -/
def State.stampKept (s : State) (i : Nat) : Bool :=
  s.fab.undelivered.any fun p => p.kind = 6 && p.op = 3 && bodyWord p 0 = s.ownPeer * 2 ^ 20 + i

/-- No request of this chip about a bundle is under way: a stamp, what has become of a bundle of another chip, or what has
become of one of its own. -/
def State.bundlesQuiet (s : State) : Bool :=
  !s.homes.asked && !(s.homes.fates.any fun p => p.2.1 = fateAsked) &&
    !(s.homes.wardrobe.any fun p => p.2.acks ≠ 0 || (p.2.state = 2 && !s.stampKept p.1))

/-- The writes of cores that no request awaits have their answers, or are kept at this chip. -/
def State.writesQuiet (s : State) : Bool :=
  s.fab.writing.all fun q => s.fab.undelivered.any fun p =>
    p.kind = 1 && bodyWord p 4 = 3 && packetCore p = q.1 && cacheKey (some p.dst) p.line = q.2

/-- Every request that this chip has sent is answered or has been handed back, its stamp requests too (R367): a device's
own update without a route is handed back and stays held (R368). No packet waits here, so that markers follow the last. -/
def State.answered (s : State) : Bool :=
  (s.fab.outstanding.all fun q => s.fab.budget < q.tries || (!q.tag.isEmpty && !s.hasRoute q.packet.dst)) &&
    s.fab.out.isEmpty && s.writesQuiet && (s.fab.mgmtOut.all fun q => !q.tag.isEmpty) && s.bundlesQuiet &&
    !(s.cores.any fun p => p.2.awaitsPeer) &&
    (List.range 4).all (fun d => (s.dieAt d).reads.all (·.await.isEmpty)) && !(s.homes.moving.any (·.copying))

/-- The links in service. -/
def State.upLinks (s : State) : List Nat := (s.fab.links.filter fun p => p.2.up).map (·.1)

/-- RECONFIG_DRAIN (R367): an absolute refresh for every pair, then a drain marker on every link in every class. -/
def execReconfigDrain (s : State) : Outcome State Fault Refusal :=
  if s.fab.reconf ≠ .hold then .next s
  else if !s.answered then .next (s.post [.reconfigDrain])
  else
    let s := s.fab.taken.foldl (fun s p => s.returnSlots (p.1 / 8) (p.1 % 8)) s
    let markers := s.upLinks.flatMap fun k => (List.range 8).map fun rq => (k, rq)
    let s := s.modFab fun b => { b with reconf := .drain, marking := markers }
    .next (s.pump.order .reconfigDark)

/-- DRAIN_MARKER (R367). -/
def execDrainMarker (die link rq : Nat) (s : State) : Outcome State Fault Refusal :=
  .next (s.modLink (linkKey die link) fun l =>
    { l with markers := if l.markers.contains rq then l.markers else l.markers ++ [rq] })

/-- Markers have been received on every link in every class. -/
def State.drainedLinks (s : State) : Bool :=
  s.upLinks.all fun k => (List.range 8).all fun rq => (s.link k).markers.contains rq

/-- The markers of this chip have left, and every slot that its packets have taken is known to be returned (R367, R369). -/
def State.slotsBack (s : State) : Bool :=
  s.fab.marking.isEmpty && s.fab.sent.all fun p => p.2 = SMap.get 0 s.fab.freed p.1

/-- RECONFIG_DARK (R367): the chip reports itself drained and its links are dark; its counts stay (R369). -/
def execReconfigDark (s : State) : Outcome State Fault Refusal :=
  if s.fab.reconf ≠ .drain then .next s
  else if !s.drainedLinks ∨ !s.slotsBack then .next (s.pump.post [.reconfigDark])
  else
    let s : State := { s with mgmt := { s.mgmt with posted := s.mgmt.posted ++ [⟨7, 0, 0⟩] } }
    .next ((s.modFab fun b => { b with reconf := .dark }).order .reconfigRelock)

/-! ### RELOCK (R367, R355, R408) -/

/-- A link in training: every wavelength, retired ones too; its numbers and credits begin again. Under the fallback of
start-up step 4 the last wavelength is left out, and then the whole link.
Log 55: DEDUCED, unsafe. -/
def Link.relock (l : Link) (fallback : Nat) : Link :=
  { Link.reset with
    far := l.far, back := l.back
    waves := (List.range 16).map fun w =>
      let out := fallback = 2 || (fallback = 1 && w % 8 = 7)
      (w, ⟨if out then .retired else .retrain, false, 0, 0⟩) }

/-- RECONFIG_RELOCK (R367).
Log 55: DEDUCED, unsafe. -/
def execReconfigRelock (s : State) : Outcome State Fault Refusal :=
  if s.fab.reconf ≠ .dark then .next s
  else
    let s := s.modFab fun b =>
      { b with
        reconf := .relock, timedOut := false
        links := (List.range 512).map fun k => (k, (SMap.get .reset b.links k).relock s.mgmt.linkFallback) }
    .next (match s.fab.reconfCmd with
      | some c => { (s.post [.reconfigRoutes (s.planOf (s.cmdPlan c))]) with fresh := s.fresh + 1 }
      | none => s)

/-- RELOCK_TIMEOUT (R367).
Log 10: DESIGN CHOICE, safe. -/
def execRelockTimeout (s : State) : Outcome State Fault Refusal :=
  if s.fab.reconf = .relock then .next (s.modFab fun b => { b with timedOut := true }) else .next s

/-! ### ROUTES and RUN (R433, R342, R368 to R370, R430) -/

/-- The live table with the staged entries written over it (R433, step 1). -/
def Fabric.merged (b : Fabric) : SMap W64 := b.staged.foldl (fun t p => SMap.set 0 t p.1 p.2) b.routes

/-- The links that this chip expects to come up: those that entries toward the new group's members name. -/
def Fabric.expected (b : Fabric) (members : List Nat) : List Nat :=
  (b.merged.filter fun p => p.2.getLsbD 63 && members.contains p.1).flatMap fun p => routeLinks p.2.toNat

/-- A route entry of a list of links (R363). -/
def routeEntry (l : List Nat) : W64 :=
  if l.isEmpty then 0
  else BitVec.ofNat 64 (2 ^ 63 + (l.length - 1) * 2 ^ 36 +
    (List.range l.length).foldl (fun acc i => acc + l.getD i 0 % 512 * 2 ^ (9 * i)) 0)

/-- The new route table (R433): of the links in service, those whose two directions reach the same chip, a member (R351). -/
def State.newRoutes (s : State) (members : List Nat) : SMap W64 :=
  s.fab.merged.filterMap fun p =>
    if !members.contains p.1 ∨ !p.2.getLsbD 63 then none
    else
      let e := routeEntry ((routeLinks p.2.toNat).filter fun k => (s.link k).up && (s.link k).far = (s.link k).back && members.contains (s.link k).far)
      if e = 0 then none else some (p.1, e)

/-- The numbering of requests from chips that have been reset begins again (R342). -/
def Fabric.forget (b : Fabric) (fresh : List Nat) : Fabric :=
  { b with
    accepted := b.accepted.filter fun p => !fresh.contains (p.1 / 4 % 4096)
    replies := b.replies.filter fun q => !fresh.contains (q.peer % 4096)
    mgmtAccepted := b.mgmtAccepted.filter fun p => !fresh.contains p.1
    mgmtReplies := b.mgmtReplies.filter fun q => !fresh.contains q.peer }

/-- sys.peerid in a group (R365). -/
def peeridWord (joined : Bool) (group peer : Nat) : W64 :=
  BitVec.ofNat 64 (natOfBool joined * 2 ^ 63 + group % 2 ^ 16 * 2 ^ 28 + peer % 2 ^ 12)

/-- RECONFIG_ROUTES (R367, R433, R370): the new table, group identifier and sequencer, once every link that is expected is
up or the time of RELOCK has passed.
Log 56: DESIGN CHOICE, safe. -/
def execReconfigRoutes (plan : RoutesPlan) (s : State) : Outcome State Fault Refusal :=
  if s.fab.reconf ≠ .relock then .next s
  else if !s.fab.timedOut ∧ (s.fab.expected plan.members).any fun k => !(s.link k).up then
    .next (s.post [.reconfigRoutes plan])
  else
    let routes := s.newRoutes plan.members
    let joined := plan.members.contains s.ownPeer
    let own := s.ownPeer
    let s := s.modFab fun b => b.forget (plan.fresh.filter (· ≠ own))
    let s := s.modFab fun b =>
      { b with
        reconf := .routes, routes := routes, peerid := peeridWord joined plan.group own, members := plan.members,
        manager := plan.manager, plan := some plan }
    let h := s.homes
    let through := max h.complete (plan.stamp - 1)
    let s : State := { s with homes := { h with
      sequencer := if joined then some plan.sequencer else none
      nextStamp := max h.nextStamp plan.stamp
      complete := through
      heard := h.heard.filter fun t => through < t } }
    .next (s.order .reconfigRun)

/-- Firmware adds 1 to a reconfiguration notice word; an update whose token fails its check is dropped and counted (R430).
Log 49: DEDUCED, unsafe. -/
def State.noticeWord (s : State) (g : SigRef) : State :=
  match s.checkCab g.ctx g.tok g.off.toNat 8 needA with
  | .ok _ =>
    let i := tokIndex g.tok
    (s.flight g.ctx i true).signalWord 0 g 1 [2, g.ctx, i]
  | .error _ => s.modFab fun b => { b with dropped := b.dropped + 1 }

/-- A packet that has been kept goes on under the new table (R367, R368): a request for a stamp to the new sequencer, a
commit notice to a member, any other packet when its destination has a route; otherwise it stays. -/
def State.resendKept (s : State) (p : Packet) : State :=
  if p.kind = 6 ∧ p.op = 3 then
    match s.ownStamp with
    | some (t, s) => s.post [.stampReceived ((p.body.getD 0 0).setWidth 32) t]
    | none => s.wantStamp (bodyWord p 0)
  else if p.kind = 5 then (if s.fab.members.contains p.dst then s.send p else s)
  else if s.hasRoute p.dst then s.send p
  else s.keepPacket p

/-- What has been kept and held is sent (R368): packets that came back, held updates, management packets. -/
def State.resendAll (s : State) : State :=
  let s := s.fab.undelivered.foldl State.resendKept (s.modFab fun b => { b with undelivered := [] })
  let s := s.lostRoutes.flushHeld
  ((s.fab.mgmtOut.map fun q => q.packet.dst).foldl State.pumpMgmt s).pump

/-- RECONFIG_RUN (R367, R368, R369, R430): traffic goes on under the new table and allowance, held requests are tried
again, and the notice words are told; the manager's command is done.
Log 56: DESIGN CHOICE, safe. -/
def execReconfigRun (s : State) : Outcome State Fault Refusal :=
  if s.fab.reconf ≠ .routes then .next s
  else
    let cmd := s.fab.reconfCmd
    let s := s.modFab fun b =>
      { b with
        reconf := .run, staged := [], timedOut := false, plan := none, reconfCmd := none
        allowance := (b.plan.map (·.allowance)).getD b.allowance }
    let s := s.mgmt.noticeWords.foldl (fun s p => s.noticeWord p.2) s
    let s := s.resendAll
    .next (match cmd with
      | some c => s.cmdDone c 0
      | none => s)

end Sys2Proof.Machine
end

