-- ==== Sys2Proof/Machine/Reliab.lean ====
section
/-! DEFINITION. Self-tests and spares (R398, R407, R10, R241), the share pools (R20), the boot journal (R408) and the
heartbeat (R417). -/

namespace Sys2Proof.Machine

open Host (Outcome)

/-! ### Units (R398) -/

/-- The unit kinds of R398: 0 a core, 1 the matrix engine of a core, 2 a bank, 3 a link, 4 a home agent. How many of each
there are. -/
def unitCount (kind : Nat) : Nat :=
  match kind with
  | 0 => 128
  | 1 => 128
  | 2 => 4096
  | 3 => 512
  | 4 => 12
  | _ => 0

/-- The core that a unit belongs to. -/
def unitCore (kind index : Nat) : Nat := if kind = 2 then index / 32 else index

/-- The die of a unit. Home agents 0 to 3 are the near ones of the dies, 4 + 2 d and 5 + 2 d the far ones of die d.
Log 59: DEDUCED, unsafe. -/
def unitDie (kind index : Nat) : Nat :=
  if kind = 3 then index / 128
  else if kind = 4 then (if index < 4 then index else (index - 4) / 2)
  else unitCore kind index / 32

/-- The physical core of a core number (R10). The spares of die d are 128 + 2 d and 129 + 2 d. -/
def Management.physicalCore (m : Management) (core : Nat) : Nat := SMap.get core m.coreMap core

/-- The physical row of a logical row of a core's array (R241). The spares are 256 to 263. -/
def Management.physicalRow (m : Management) (core row : Nat) : Nat := SMap.get row m.rowMap (core * 256 + row)

/-- A core has no continuation running, an empty Sideboard and no job (R10). -/
def Core.free (c : Core) : Bool :=
  c.mode != .running && c.mode != .halted && c.saving.isNone && c.jobs.isEmpty && c.piece.isNone

/-- The row map of a matrix engine may change (R241): no job is dispatched and none is held pre-empted. -/
def Core.matrixFree (c : Core) : Bool :=
  c.mode != .saved && c.matrix.running.isNone && c.matrix.loading.isNone &&
    c.jobs.all fun p => !p.2.isMatrix || (p.2.state != .running && p.2.state != .parked)

/-- A unit is busy: it cannot be tested until firmware has drained it (R407, R10).
Log 59: DEDUCED, unsafe. -/
def State.unitBusy (s : State) (kind index : Nat) : Bool :=
  let c := s.coreAt (unitCore kind index)
  match kind with
  | 0 => !c.free
  | 1 => !c.matrixFree
  | 2 => !c.free
  | 3 => s.fab.reconf != .run
  | _ => false

/-- The number under which a unit's spares are counted, and how many there are: two cores a die (R9), 8 rows a matrix
engine (R241), 16 rows a bank, and the rows that the base die of near memory has. Far memory and links have none.
Log 12: DESIGN CHOICE, safe. -/
def spareKey (kind index : Nat) : Nat × Nat :=
  match kind with
  | 0 => (index / 32, 2)
  | 1 => (16 + index, 8)
  | 2 => (256 + index, 16)
  | 4 => (8192 + index, if index < 4 then Config.nearSpares else 0)
  | _ => (16384, 0)

/-- A spare takes the place of a failing part, when one is left. -/
def State.takeSpare (s : State) (kind index : Nat) : Option State :=
  let (k, n) := spareKey kind index
  let used := SMap.get 0 s.mgmt.sparesUsed k
  if s.mgmt.noSpares ∨ n ≤ used then none
  else some { s with mgmt := { s.mgmt with sparesUsed := SMap.put s.mgmt.sparesUsed k (used + 1) } }

/-- A core is retired, and its die leaves service (R407, R21). Its memory is lost to the record that it holds. -/
def State.retireCore (s : State) (core : Nat) : State :=
  let s := s.takeMemory core
  (s.modCore core fun c => { c with mode := .retired }).modDie (dieOf core) fun d => { d with inService := false }

/-- A core number moves to a spare core (R10): the lines of its CACHE go home first (R313), the rest of its state goes with
the number, and the rows and banks of the new core are its own. With no spare left the core is retired. The result is 1 or 2
(R398). -/
def State.spareCore (s : State) (core : Nat) : Nat × State :=
  let used := SMap.get 0 s.mgmt.sparesUsed (spareKey 0 core).1
  match s.takeSpare 0 core with
  | none => (2, s.retireCore core)
  | some s =>
    let s := s.flushCache core
    (1, { s with mgmt := { s.mgmt with
      coreMap := SMap.put s.mgmt.coreMap core (128 + 2 * dieOf core + used)
      rowMap := s.mgmt.rowMap.filter fun p => p.1 / 256 ≠ core
      sparesUsed := s.mgmt.sparesUsed.filter fun p =>
        p.1 ≠ (spareKey 1 core).1 && !(256 ≤ p.1 && p.1 < 8192 && (p.1 - 256) / 32 = core) } })

/-- A failing row of a core's array moves to the next spare row (R241); with none left the core is retired.
Log 11: DESIGN CHOICE, safe. -/
def State.spareRow (s : State) (core : Nat) : Nat × State :=
  let used := SMap.get 0 s.mgmt.sparesUsed (spareKey 1 core).1
  let row := Config.failedRow s.fresh % 256
  let s : State := { s with fresh := s.fresh + 1 }
  match s.takeSpare 1 core with
  | none => (2, s.retireCore core)
  | some s => (1, { s with mgmt := { s.mgmt with rowMap := SMap.put s.mgmt.rowMap (core * 256 + row) (256 + used) } })

/-- Firmware reports the page frames of a home agent that hold an uncorrectable error, to be retired (R407).
Log 70: DESIGN CHOICE, safe. -/
def State.reportAgent (s : State) (index : Nat) : State :=
  let frames := ((s.poison.filter fun g => homeAgent (32 * g) = index).map fun g => 32 * g / 65536 * 65536).eraseDups
  { s with mgmt := { s.mgmt with posted := s.mgmt.posted ++ frames.map fun a => ⟨4, index, BitVec.ofNat 64 a⟩ } }

/-- A failing link retires a wavelength, and runs on the rest while each direction has six (R407, R354, R355).
Log 11: DESIGN CHOICE, safe. -/
def State.failLink (s : State) (k : Nat) : Nat × State :=
  let w := Config.failedWave s.fresh % 16
  let s : State := { s with fresh := s.fresh + 1 }
  let s := s.modLink k fun l => l.setWave w { l.wave w with state := .retired, due := false }
  let l := s.link k
  if l.active 0 < 6 ∨ l.active 1 < 6 then (2, s.post [.linkOutOfService (k / 128) (k % 128)]) else (1, s)

/-- What a failed test of a unit does, and its result (R407).
Log 59: DEDUCED, unsafe. -/
def State.failUnit (s : State) (kind index : Nat) : Nat × State :=
  match kind with
  | 0 => s.spareCore index
  | 1 => s.spareRow index
  | 2 =>
    match s.takeSpare 2 index with
    | some s => (1, s)
    | none => s.spareCore (index / 32)
  | 3 => s.failLink index
  | _ =>
    match s.takeSpare 4 index with
    | some s => (1, s)
    | none => (2, s.reportAgent index)

/-- The result of a test reaches the `stest` that waits for it (R398). -/
def State.tellTest (s : State) (kind index result : Nat) : State :=
  let p : Nat → Bool := fun what => what == 2 + kind * 4096 + index
  (s.cores.filter fun q => q.2.waits.any (CWait.manages p)).foldl (fun s q => s.managementAnswered q.1 result p) s

/-- A `stest` waits for the unit. -/
def State.testAsked (s : State) (kind index : Nat) : Bool :=
  s.cores.any fun q => q.2.waits.any (CWait.manages fun what => what == 2 + kind * 4096 + index)

/-- A unit of a core is put to the test: it takes no new work (R407). The test of a link or of a home agent begins and ends
within the one event, so that no work comes between.
Log 59: DEDUCED, unsafe. -/
def State.setTesting (s : State) (kind index : Nat) : State :=
  if kind < 3 then s.modCore (unitCore kind index) fun c => { c with testing := some kind } else s

/-- A test of a unit of a core is over: the core chooses again, its engines go on, and jobs of others may enter. -/
def State.endTesting (s : State) (kind index : Nat) : State :=
  if kind < 3 then
    let n := unitCore kind index
    (s.modCore n fun c => { c with testing := none }).post
      ([.pickup n, .jobDispatch n true, .jobDispatch n false] ++ (s.blockedAll n).map fun p => .remqUnblock p.1 p.2)
  else s

/-- A pre-emption of a core is due. -/
def Event.preempts (n : Nat) : Event → Bool
  | .preemption m _ _ => m == n
  | _ => false

/-- Firmware drains the core of a unit (R10, R407): its continuation is pre-empted and leaves the core.
Log 59: DEDUCED, unsafe. 80: DESIGN CHOICE, unsafe. -/
def State.drainCore (s : State) (kind index : Nat) : State :=
  let n := unitCore kind index
  if (kind = 0 ∨ kind = 2) ∧ (s.coreAt n).preemptible ∧ !s.events.any (Event.preempts n) then s.firmwareSave n true else s

/-- STEST (R398): C waits until the test ends; a busy unit is not tested.
Log 11: DESIGN CHOICE, safe. 59: DEDUCED, unsafe. -/
def execStest (f : FI) (s : State) : Outcome State Fault Refusal :=
  issue f.g true false (fun s =>
    let kind := bitsOf f.imm.toNat 15 12
    let index := bitsOf f.imm.toNat 11 0
    if unitCount kind ≤ index then trap cIllegal 0 s
    else if s.unitBusy kind index then .ok (.fall, s.wr f.d 3)
    else
      let outcome := Config.testOutcome s.fresh
      let s : State := { s with fresh := s.fresh + 1 }
      let s := s.modCur fun c => { c with cwait := .management f.d.toNat (2 + kind * 4096 + index) }
      .ok (.stay, (s.setTesting kind index).post [.selfTest kind index outcome])) s

/-- SELF_TEST (R407): a unit that passes returns to service; one that fails moves to a spare or is retired. A busy unit
takes no new work and is drained first: the test stays due, unless a `stest` asked for it.
Log 59: DEDUCED, unsafe. -/
def execSelfTest (kind index outcome : Nat) (s : State) : Outcome State Fault Refusal :=
  if unitCount kind ≤ index then .next s
  else if s.unitBusy kind index then
    if s.testAsked kind index then .next ((s.tellTest kind index 3).endTesting kind index)
    else .next (((s.drainCore kind index).setTesting kind index).post [.selfTest kind index outcome])
  else
    let (r, s) := if outcome = 0 then (0, s) else s.failUnit kind index
    let s : State := { s with mgmt := { s.mgmt with lastTest := SMap.put s.mgmt.lastTest (unitDie kind index) r } }
    .next ((s.tellTest kind index r).endTesting kind index)

/-! ### Errors of storage (R401, R402, R407) -/

/-- The cycles of one second (R3). -/
def secondCycles : Nat := 1250000000

/-- Firmware has a unit tested.
Log 81: DESIGN CHOICE, safe. -/
def State.startTest (s : State) (kind index : Nat) : State :=
  State.post { s with fresh := s.fresh + 1 } [.selfTest kind index (Config.testOutcome s.fresh)]

/-- A soft error of a unit is corrected (R401): it changes no value, adds 1 to the unit's correction count, and starts a test
when more than the threshold have come within one second (R407).
Log 81: DESIGN CHOICE, safe. -/
def execCorrection (kind index : Nat) (s : State) : Outcome State Fault Refusal :=
  if unitCount kind ≤ index then .next s
  else
    let k := kind * 4096 + index
    let times := s.time :: (SMap.get [] s.homes.corrTimes k).filter fun t => s.time < t + secondCycles
    let above : Bool := Config.correctionLimit < times.length
    let s : State := { s with homes := { s.homes with
      corrections := SMap.put s.homes.corrections k (SMap.get 0 s.homes.corrections k + 1)
      corrTimes := SMap.put s.homes.corrTimes k (if above then [] else times) } }
    .next (if above then s.startTest kind index else s)

/-- An uncorrectable error is found in a unit (R401, R402, R407): the grain is poisoned, and the unit is tested. The grain is
a register key of a core, a word of its array's active plane, a word of a bank, or a sector of a home agent's memory.
Log 81: DESIGN CHOICE, safe. -/
def execUncorrectable (kind index grain : Nat) (s : State) : Outcome State Fault Refusal :=
  if unitCount kind ≤ index then .next s
  else
    let s := match kind with
      | 0 => s.modCore index fun c =>
          if regKeys.contains grain then { c with regPoison := (c.regPoison ++ [grain]).eraseDups } else c
      | 1 => s.modCore index fun c => { c with matrix := { c.matrix with active :=
          { c.matrix.active with bad := (c.matrix.active.bad ++ [grain]).eraseDups } } }
      | 2 => s.modCore (index / 32) fun c =>
          if grain < bankBytes / 8 then
            { c with localPoison := (c.localPoison ++ [index % 32 * (bankBytes / 8) + grain]).eraseDups }
          else c
      | 4 =>
        if isMapped (32 * grain) ∧ homeAgent (32 * grain) = index then
          { s with poison := (s.poison ++ [grain]).eraseDups }
        else s
      | _ => s
    .next (s.startTest kind index)

/-! ### Power (R20) -/

/-- POWER_LIMIT_CHANGE (R20): the pools of the four dies take new sizes; one that shrinks below the shares that are held
falls as they are released. -/
def execPowerLimitChange (sizes : List Nat) (s : State) : Outcome State Fault Refusal :=
  .next ((List.range 4).foldl (fun s d =>
    let n := sizes.getD d 0
    -- each grant makes the next one due while shares are free (R113)
    (s.modDie d fun x => { x with shareTarget := n, shareSize := max n x.shareUsed }).post [.shareGrant d]) s)

/-! ### Start-up (R408) -/

/-- A journal entry's first word: the step's number, the attempt and the state.
Log 60: DESIGN CHOICE, unsafe. -/
def journalWord (number attempt state : Nat) : W64 :=
  BitVec.ofNat 64 (number % 2 ^ 16 + attempt % 2 ^ 8 * 2 ^ 16 + state * 2 ^ 24)

/-- The state and the attempt of the last entry of a step. -/
def Management.lastEntry (m : Management) (number : Nat) : Option (Nat × Nat) :=
  (m.journal.reverse.find? fun e => e.1.toNat % 2 ^ 16 = number % 2 ^ 16).map fun e =>
    (bitsOf e.1.toNat 31 24, bitsOf e.1.toNat 23 16)

/-- What a step brings up, or leaves out as its fallback or because it has failed or is skipped. A step's number carries its
kind in bits [3:0] and the die of a die's bring-up above them. A fallback is reported, and the memory device that it leaves
out.
Log 11: DESIGN CHOICE, safe. 60: DESIGN CHOICE, unsafe. -/
def State.stepEffect (s : State) (number attempt : Nat) (ok : Bool) : State :=
  let fallback := attempt != 0
  let note : W64 → State → State := fun b s => { s with mgmt := { s.mgmt with posted := s.mgmt.posted ++ [⟨8, number, b⟩] } }
  let device := Config.failedDevice s.fresh % 12
  let s : State := if fallback then note (BitVec.ofNat 64 attempt) s else s
  match number % 16 with
  | 1 => { s with mgmt := { s.mgmt with previousImage := fallback } }
  | 2 => s.modDie (number / 16 % 4) fun d => { d with inService := ok && !fallback }
  | 3 =>
    if fallback then
      note (BitVec.ofNat 64 (256 + device)) { s with
        fresh := s.fresh + 1, mgmt := { s.mgmt with excluded := (s.mgmt.excluded ++ [device]).eraseDups } }
    else s
  | 4 => { s with mgmt := { s.mgmt with linkFallback := min attempt 2 } }
  | 5 => { s with mgmt := { s.mgmt with noSpares := fallback } }
  | _ => s

/-- The last element that a test accepts changes. -/
def changeLast {α : Type} (p : α → Bool) (f : α → α) : List α → List α
  | [] => []
  | a :: t => if p a && !t.any p then f a :: t else a :: changeLast p f t

/-- Start-up ends a step: its entry, which says that it has begun, is rewritten as done or failed.
Log 60: DESIGN CHOICE, unsafe. -/
def State.endStep (s : State) (number state : Nat) (stamp : BitVec 64) : State :=
  let attempt := ((s.mgmt.lastEntry number).map (·.2)).getD 0
  { s with mgmt := { s.mgmt with
    booting := s.mgmt.booting.erase number
    journal := changeLast (fun e => e.1.toNat % 2 ^ 16 = number % 2 ^ 16)
      (fun _ => (journalWord number attempt state, stamp)) s.mgmt.journal } }

/-- The firmware image that start-up takes verifies under its signature (R419).
Log 13: PRESUMED, unsafe. -/
def imageOk (previous : Bool) : Bool :=
  hssVerify Config.imageKey (Config.firmwareImage previous).1 (Config.firmwareImage previous).2

/-- BOOT_STEP (R408): before the step its entry is written as begun; after it the entry is rewritten as done or failed. A
step whose last entry an earlier start has left begun or failed takes its fallback; one that has failed twice in succession
with it is skipped, and the module starts degraded. Step 1 verifies the image (R419).
Log 60: DESIGN CHOICE, unsafe. -/
def execBootStep (number : Nat) (ok : Bool) (stamp : BitVec 64) (s : State) : Outcome State Fault Refusal :=
  if s.mgmt.booting.contains number then
    let attempt := ((s.mgmt.lastEntry number).map (·.2)).getD 0
    let ok := if number % 16 = 1 then imageOk (attempt != 0) else ok
    .next ((s.stepEffect number attempt ok).endStep number (if ok then 2 else 3) stamp)
  else
    let attempt : Nat := match s.mgmt.lastEntry number with
      | some (2, _) => 0
      | some (_, a) => a + 1
      | none => 0
    if 2 < attempt then
      let s := s.stepEffect number attempt false
      .next { s with mgmt := { s.mgmt with degraded := s.mgmt.degraded ++ [number] } }
    else
      .next { s with
        events := .bootStep number ok stamp :: s.events
        mgmt := { s.mgmt with
          booting := s.mgmt.booting ++ [number]
          journal := s.mgmt.journal ++ [(journalWord number attempt 1, stamp)] } }

/-! ### Heartbeat (R417) -/

/-- HEARTBEAT (R417): firmware adds 1 to the word in host memory.
Log 10: DESIGN CHOICE, safe. 64: DEDUCED, unsafe. -/
def execHeartbeat (s : State) : Outcome State Fault Refusal :=
  match s.mgmt.heartbeatAt with
  | some a => .next (s.qWrite 0 a (bytesOf 8 ((s.qNat a 8 + 1) % 2 ^ 64)))
  | none => .next s

end Sys2Proof.Machine
end

