-- ==== Sys2Proof/Machine/HostCmd.lean ====
section
/-! DEFINITION. The host's way in (R409 to R420, R430): management commands, the reset ladder, the threads that serve
mapped queues, device registers, and the TDIs of the host port. -/

namespace Sys2Proof.Machine

open Host (Outcome)

/-! ### Contexts (R410, R411, R413) -/

/-- A context exists. -/
def State.anyContext (s : State) : Bool := s.ctxs.any fun p => p.2.live

/-- A descriptor image obeys the layout of R410 for a context. -/
def descriptorOk (q : Nat → Nat) (ctx : Nat) : Bool :=
  bitsOf (q 0) 9 0 = ctx && bitsOf (q 0) 31 10 = 0 && bitsOf (q 0) 60 42 = 0 && bitsOf (q 2) 63 48 = 0 &&
    bitsOf (q 3) 15 10 = 0 && bitsOf (q 3) 63 32 = 0 && [11, 12, 13, 14, 15].all fun i => q i = 0

/-- The context that a descriptor image describes; its interval 0 opens, its Cabinet and key table are empty (R404). -/
def ctxOf (q : Nat → Nat) (sealKey : BitVec 256) : Ctx :=
  { Ctx.reset with
    live := true, sup := bitOf (q 0) 63, prot := bitOf (q 0) 62, log := bitOf (q 0) 61, tdi := bitsOf (q 0) 41 32,
    cabinetAt := q 1, poolQuota := bitsOf (q 2) 15 0, frameUnits := bitsOf (q 2) 47 16,
    cacheDomain := bitsOf (q 3) 9 0, bundleDomain := bitsOf (q 3) 31 16, keysAt := q 4, escal := q 5, preq := q 6,
    ptbase := BitVec.ofNat 64 (q 7) &&& ptbaseMask, callow0 := BitVec.ofNat 64 (q 8),
    callow1 := BitVec.ofNat 64 (q 9), vsel := BitVec.ofNat 64 (q 10) &&& vselMask, sealKey := sealKey }

/-- CREATE_CONTEXT (R410, R413, R417).
Log 14: DESIGN CHOICE, safe. 64: DEDUCED, unsafe. -/
def execCreateContext (c : Cmd) (s : State) : Outcome State Fault Refusal :=
  let ctx := cmdQuad c 1
  let a := cmdQuad c 2
  let h := cmdQuad c 3
  let first := !s.anyContext
  if !cmdZero c [1, 2, 3] ∨ 1024 ≤ ctx ∨ s.ctxLive ctx ∨ (!first ∧ h ≠ 0) then .next (s.cmdDone c 1)
  else if !isMapped a ∨ !isMapped (a + 127) then .next (s.cmdDone c 1)
  else
    let q : Nat → Nat := fun i => s.physNat (a + 8 * i) 8
    if !descriptorOk q ctx then .next (s.cmdDone c 1)
    else
      let x := ctxOf q (Config.sealKey s.fresh)
      let s : State := { s with fresh := s.fresh + 1 }
      let s : State := if first then { s with mgmt := { s.mgmt with heartbeatAt := some ⟨true, h⟩ } } else s
      .next ((s.modCtx ctx fun _ => x).cmdDone c 0)

/-- The Cabinet entries of a context in a state. -/
def State.entriesIn (s : State) (ctx : Nat) (st : CabState) : List Nat :=
  ((s.ctxAt ctx).cabinet.filter fun p => p.2.state = st).map (·.1)

/-- DESTROY_CONTEXT (R413, R173): every LIVE entry drains; the context is gone once none drains.
Log 48: DEDUCED, unsafe. -/
def execDestroyContext (c : Cmd) (s : State) : Outcome State Fault Refusal :=
  let ctx := cmdQuad c 1
  if !cmdZero c [1] ∨ !s.ctxLive ctx ∨ !(s.ctxRecs ctx).isEmpty then .next (s.cmdDone c 1)
  else
    let live := s.entriesIn ctx .live
    if live.isEmpty ∧ (s.entriesIn ctx .draining).isEmpty then
      .next ((s.modCtx ctx fun _ => Ctx.fresh ctx).cmdDone c 0)
    else .next ((live.foldl (fun s i => s.startDrain ctx i .revoke []) s).post [.destroyContext c])

/-- The context and the slot that a command of a key or a notice word names; none when other bits are set. -/
def ctxSlot (w : Nat) : Option (Nat × Nat) :=
  if bitsOf w 15 10 = 0 ∧ w / 2 ^ 20 = 0 then some (w % 1024, bitsOf w 19 16) else none

/-- INSTALL_KEY (R411, R413): `key` is what the secured message carries. -/
def execInstallKey (c : Cmd) (key : Option (BitVec 256)) (s : State) : Outcome State Fault Refusal :=
  match ctxSlot (cmdQuad c 1), key with
  | some (ctx, slot), some k =>
    if !cmdZero c [1, 2] ∨ !s.ctxLive ctx then .next (s.cmdDone c 1)
    else .next ((s.modCtx ctx fun x => { x with keys := SMap.put x.keys slot k }).cmdDone c 0)
  | _, _ => .next (s.cmdDone c 1)

/-- REMOVE_KEY (R411, R413). -/
def execRemoveKey (c : Cmd) (s : State) : Outcome State Fault Refusal :=
  match ctxSlot (cmdQuad c 1) with
  | some (ctx, slot) =>
    if !cmdZero c [1] ∨ !s.ctxLive ctx then .next (s.cmdDone c 1)
    else .next ((s.modCtx ctx fun x => { x with keys := SMap.erase x.keys slot }).cmdDone c 0)
  | none => .next (s.cmdDone c 1)

/-- The writable bits of a context register; none for any other number (R392, R413). -/
def ctxRegMask (r : Nat) : Option W64 :=
  match r with
  | 0x023 => some vselMask
  | 0x030 => some ptbaseMask
  | 0x031 => some (BitVec.allOnes 64)
  | 0x032 => some (BitVec.allOnes 64)
  | _ => none

/-- SET_CONTEXT_REGISTER (R413). -/
def execSetContextRegister (c : Cmd) (s : State) : Outcome State Fault Refusal :=
  let ctx := cmdQuad c 1
  let v : W64 := BitVec.ofNat 64 (cmdQuad c 3)
  match ctxRegMask (cmdQuad c 2) with
  | some m =>
    if !cmdZero c [1, 2, 3] ∨ !s.ctxLive ctx ∨ v &&& ~~~m ≠ 0 then .next (s.cmdDone c 1)
    else .next ((s.setCtxReg ctx (cmdQuad c 2) v).cmdDone c 0)
  | none => .next (s.cmdDone c 1)

/-! ### Tables, routes and words -/

/-- LOAD_COMPRESSION_TABLE (R254, R255, R413). -/
def execLoadCompressionTable (c : Cmd) (s : State) : Outcome State Fault Refusal :=
  let w := cmdQuad c 1
  let a := cmdQuad c 2
  let die := w % 4
  let slot := bitsOf w 5 4
  if !cmdZero c [1, 2] ∨ bitsOf w 3 2 ≠ 0 ∨ w / 64 ≠ 0 then .next (s.cmdDone c 1)
  else if !isMapped a ∨ !isMapped (a + 255) then .next (s.cmdDone c 1)
  else
    let lens := (s.physBytes a 256).map (·.toNat)
    if !validTable lens then .next (s.cmdDone c 1)
    else
      let t := (s.tableAt die slot).take false lens
      .next ((s.modDie die fun d => { d with tables := SMap.put d.tables slot t }).cmdDone c 0)

/-- WRITE_ROUTE_ENTRY (R363, R413, R433): the entry enters the live or the staged table; requests to a peer that has lost
its route become unresolved, and those held for it go out when it has one. -/
def execWriteRouteEntry (c : Cmd) (s : State) : Outcome State Fault Refusal :=
  let w := cmdQuad c 1
  let v : W64 := BitVec.ofNat 64 (cmdQuad c 2)
  let peer := w % 4096
  if !cmdZero c [1, 2] ∨ bitsOf w 62 12 ≠ 0 ∨ bitsOf v.toNat 62 38 ≠ 0 then .next (s.cmdDone c 1)
  else if bitOf w 63 then
    .next ((s.modFab fun b => { b with staged := SMap.put b.staged peer v }).cmdDone c 0)
  else
    let s := s.modFab fun b => { b with routes := SMap.set 0 b.routes peer v }
    .next (((s.lostRoutes.flushHeld).pump).cmdDone c 0)

/-- The chip that is home to the word bound to a queue is told that it is, or that it is no longer.
Log 49: DEDUCED, unsafe. -/
def State.tellBound (s : State) (q : Nat) (on : Bool) : State :=
  match (s.queue q).bound with
  | some a => if a < 2 ^ 40 then s else
      s.sendMgmt (a / 2 ^ 40 - 1) 6 [BitVec.ofNat 64 (a % 2 ^ 40), BitVec.ofNat 64 q, BitVec.ofNat 64 (natOfBool on)]
  | none => s

/-- A queue is bound to a word, or to none. A word of another chip leaves its old binding first.
Log 49: DEDUCED, unsafe. -/
def State.bindQueue (s : State) (q : Nat) (a : Option Nat) : State :=
  let s := s.tellBound q false
  (s.setQueue q { (s.queue q) with bound := a }).tellBound q true

/-- BIND_SIGNAL_WORD (R413, R415): a zero token removes the binding.
Log 49: DEDUCED, unsafe. -/
def execBindSignalWord (c : Cmd) (s : State) : Outcome State Fault Refusal :=
  let q := cmdQuad c 1
  let ctx := cmdQuad c 2
  let tok : W64 := BitVec.ofNat 64 (cmdQuad c 3)
  let off := cmdQuad c 4
  if !cmdZero c [1, 2, 3, 4] ∨ 31 < q then .next (s.cmdDone c 1)
  else if tok = 0 then .next ((s.bindQueue q none).cmdDone c 0)
  else if !s.ctxLive ctx ∨ off % 8 ≠ 0 then .next (s.cmdDone c 1)
  else match s.checkCab ctx tok off 8 needR with
    | .error _ => .next (s.cmdDone c 1)
    | .ok e => match e.elemSegs 0 off 8 with
      | g :: _ =>
        if g.frame.hole then .next (s.cmdDone c 1)
        else if s.isRemote g.frame then .next ((s.bindQueue q (some ((g.frame.peer + 1) * 2 ^ 40 + g.addr))).cmdDone c 0)
        else .next ((s.bindQueue q (some g.addr)).cmdDone c 0)
      | [] => .next (s.cmdDone c 1)

/-- REGISTER_NOTICE_WORD (R413, R430): a zero token clears the slot. -/
def execRegisterNoticeWord (c : Cmd) (s : State) : Outcome State Fault Refusal :=
  let tok : W64 := BitVec.ofNat 64 (cmdQuad c 2)
  let off := cmdQuad c 3
  match ctxSlot (cmdQuad c 1) with
  | none => .next (s.cmdDone c 1)
  | some (ctx, slot) =>
    let set : SMap SigRef → State := fun t => { s with mgmt := { s.mgmt with noticeWords := t } }
    if !cmdZero c [1, 2, 3] ∨ off % 8 ≠ 0 then .next (s.cmdDone c 1)
    else if tok = 0 then .next ((set (SMap.erase s.mgmt.noticeWords slot)).cmdDone c 0)
    else if !s.ctxLive ctx then .next (s.cmdDone c 1)
    else match s.checkCab ctx tok off 8 needA with
      | .error _ => .next (s.cmdDone c 1)
      | .ok _ => .next ((set (SMap.put s.mgmt.noticeWords slot ⟨ctx, tok, BitVec.ofNat 64 off, 0⟩)).cmdDone c 0)

/-! ### Attestation (R419, R420) -/

/-- The code of a TDI's state in a report.
Log 61: DESIGN CHOICE, unsafe. -/
def TdiState.code : TdiState → Nat
  | .configUnlocked => 0
  | .configLocked => 1
  | .run => 2
  | .error => 3

/-- The state of a TDI. -/
def State.tdi (s : State) (t : Nat) : TdiState := SMap.get .configUnlocked s.mgmt.tdis t

/-- The items of a report in the order of R420.
Log 61: DESIGN CHOICE, unsafe. -/
def State.report (s : State) (nonce : List Byte) : List Byte :=
  nonce ++ (Config.firmwareStages s.mgmt.previousImage).flatMap (fun h => bytesOf 32 h.toNat) ++ bytesOf 8 s.sysCfg.toNat ++
    (List.range 64).map (fun t => BitVec.ofNat 8 (s.tdi t).code) ++
    (List.range 4).map (fun d => BitVec.ofNat 8 (SMap.get 0 s.mgmt.lastTest d))

/-- A report as an SPDM measurement response (R420): version 1.2 and code 0x60, one block that holds the report as a raw
value, a nonce of the part, no opaque data, and the signature of the report.
Log 82: PRESUMED, unsafe. -/
def spdmResponse (nonce : BitVec 256) (report signature : List Byte) : List Byte :=
  let value := bytesOf 1 0x80 ++ bytesOf 2 report.length ++ report
  let block := [1, 1] ++ bytesOf 2 value.length ++ value
  [0x12, 0x60, 0, 0, 1] ++ bytesOf 3 block.length ++ block ++ bytesOf 32 nonce.toNat ++ [0, 0] ++ signature

/-- ATTESTATION_REPORT (R419, R420): the one-time key's index advances and is journalled before the signature is
released; with none left the command is refused.
Log 13: PRESUMED, unsafe. 61: DESIGN CHOICE, unsafe. -/
def execAttestationReport (c : Cmd) (s : State) : Outcome State Fault Refusal :=
  let i := s.mgmt.lmsIndex
  if !cmdZero c [1, 2, 3, 4, 5] ∨ 2 ^ 20 ≤ i then .next (s.cmdDone c 1)
  else
    let nonce := [1, 2, 3, 4].flatMap fun k => bytesOf 8 (cmdQuad c k)
    let r := s.report nonce
    let entry : W64 × W64 := (journalWord 0xFFFF 0 2, BitVec.ofNat 64 (i + 1))
    let s : State := { s with mgmt := { s.mgmt with lmsIndex := i + 1, journal := s.mgmt.journal ++ [entry] } }
    .next ((s.qWrite 0 ⟨true, cmdQuad c 5⟩ (spdmResponse (Config.reportNonce i) r (hssSign i r))).cmdDone c 0)

/-! ### Mapping queues (R413 to R416) -/

/-- MAP_QUEUE (R413, R416): a number that is UNMAPPED is mapped, at the head that a park has saved, which enters the ring's
header, or at its header's; its thread wakes once if a wake came meanwhile.
Log 62: DEDUCED, unsafe. -/
def execMapQueue (c : Cmd) (s : State) : Outcome State Fault Refusal :=
  let w := cmdQuad c 1
  let base := cmdQuad c 2
  let z := cmdQuad c 3
  let q := bitsOf w 4 0
  let kind := bitsOf w 9 8
  let ctx := bitsOf w 25 16
  let n := z % 16
  let v := s.queue q
  let a : QAddr := ⟨!bitOf z 63, base⟩
  let bytes := 64 + (if kind = 1 then 256 else 64) * 2 ^ n
  if !cmdZero c [1, 2, 3] ∨ q = 0 ∨ bitsOf w 7 5 ≠ 0 ∨ 1 < kind ∨ bitsOf w 11 10 ≠ 0 ∨ bitsOf w 15 14 ≠ 0 ∨
      w / 2 ^ 26 ≠ 0 ∨ base % 64 ≠ 0 ∨ bitsOf z 62 4 ≠ 0 ∨ n = 0 ∨ 12 < n ∨ !s.ctxLive ctx ∨ v.state ≠ .unmapped then
    .next (s.cmdDone c 1)
  else if qUnmapped a bytes then .next (s.cmdDone c 1)
  else
    let back := v.saved.isSome
    let v := { v with
      state := .mapped, kind := kind, die := bitsOf w 13 12, ctx := ctx, base := a, n := n,
      head := (v.saved.map (·.1)).getD (s.qNat (qAdd a 8) 8), busy := false, awake := false, saved := none }
    let s := if back then s.qWrite ctx (qAdd a 8) (bytesOf 8 v.head) else s
    let s := s.setQueue q v
    .next ((if v.pending then s.post [.threadWake q] else s).cmdDone c 0)

/-- A queue is parked (R416): once its thread has finished its entry it is UNMAPPED.
Log 62: DEDUCED, unsafe. -/
def State.parkQueue (s : State) (q : Nat) : State :=
  let v := s.queue q
  if v.state = .mapped then
    let s := s.setQueue q { v with state := .parked, awake := false }
    if v.busy then s else s.post [.queueParkComplete q]
  else s

/-- PARK_QUEUE (R413, R416). -/
def execParkQueue (c : Cmd) (s : State) : Outcome State Fault Refusal :=
  let q := cmdQuad c 1
  if !cmdZero c [1] ∨ 31 < q then .next (s.cmdDone c 1) else .next ((s.parkQueue q).cmdDone c 0)

/-- UNMAP_QUEUE (R413, R416). -/
def execUnmapQueue (c : Cmd) (s : State) : Outcome State Fault Refusal :=
  let q := cmdQuad c 1
  if !cmdZero c [1] ∨ 31 < q then .next (s.cmdDone c 1) else .next ((s.parkQueue q).cmdDone c 0)

/-! ### The reset ladder (R417) -/

/-- An event belongs to the entry at an address. -/
def Event.ofEntry (a : QAddr) : Event → Bool
  | .launchRecord _ _ src => src = a
  | .feedAppend _ _ src => src = a
  | .createContext c => c.src = a
  | .destroyContext c => c.src = a
  | .installKey c _ => c.src = a
  | .removeKey c => c.src = a
  | .loadCompressionTable c => c.src = a
  | .mapQueue c => c.src = a
  | .parkQueue c => c.src = a
  | .unmapQueue c => c.src = a
  | .writeRouteEntry c => c.src = a
  | .attestationReport c => c.src = a
  | .setContextRegister c => c.src = a
  | .bindSignalWord c => c.src = a
  | .reconfigureFabric c => c.src = a
  | .registerNoticeWord c => c.src = a
  | _ => false

/-- What a front end has done of a queue's entry is given up, and a command of it that is under way: a reconfiguration goes
on, and no entry receives its status. -/
def State.dropEntry (s : State) (a : QAddr) : State :=
  let src : LaunchSrc := .entry a
  let s := s.modFab fun b => { b with
    reconfCmd := b.reconfCmd.map fun c => if c.src = a then { c with src := ⟨false, 0⟩ } else c }
  let s : State := { s with events := s.events.filter fun e => !e.ofEntry a }
  (List.range 4).foldl (fun s d => s.modDie d fun x =>
    { x with
      reads := x.reads.filter (·.src ≠ src)
      waitingLaunches := x.waitingLaunches.filter (·.src ≠ src)
      runs := (x.runs.map fun r => { r with members := r.members.filter (·.src ≠ src) }).filter fun r =>
        !r.members.isEmpty }) s

/-- Rung 1 (R417): the thread restarts, the status of its entry becomes refused, and its queue is mapped again.
Log 15: DESIGN CHOICE, safe. -/
def State.rungQueue (s : State) (q : Nat) : State :=
  let v := s.queue q
  if !v.busy then s
  else
    let a := v.entryAt v.head
    let s := s.dropEntry a
    let code := Config.refusedCode s.fresh % 11
    let s := if v.kind = 1 then
        State.qWrite { s with fresh := s.fresh + 1 } v.ctx (qAdd a 0x58) (bytesOf 8 (0x10 + code))
      else s.qWrite 0 (qAdd a 0x38) (bytesOf 8 1)
    let h := (v.head + 1) % 2 ^ 64
    let s := s.qWrite v.ctx (qAdd v.base 8) (bytesOf 8 h)
    (s.setQueue q { v with state := .mapped, head := h, busy := false, awake := true }).post [.threadWake q]

/-- RESET_RUNG_QUEUE (R417). -/
def execResetRungQueue (queue : Nat) (s : State) : Outcome State Fault Refusal := .next (s.rungQueue queue)

/-- A participant of a bundle is released because its continuation has been ended (R321). -/
def State.endParticipant (s : State) (name : Nat) : State :=
  if namePeer name = s.ownPeer then s.recordRelease name
  else
    -- without a route the record's home hears of it once the chips are joined again
    let p := { s.packet 6 (namePeer name) 6 with op := 8, body := [BitVec.ofNat 64 name] }
    if s.hasRoute (namePeer name) then s.send p else s.keepPacket p

/-- The operation is one of a core's. -/
def LaterOp.isOf (op : LaterOp) (core : Nat) : Bool :=
  match op with
  | .revoke _ => false
  | .tdrop n _ _ _ => n = core
  | .refresh n _ _ _ => n = core

/-- The operations of a core on entries of its context end: its translation is refused, and what it waits to do is not
done (R165, R175).
Log 64: DEDUCED, unsafe. -/
def State.endOperations (s : State) (n : Nat) : State :=
  (s.cancelXlat n).modCtx (s.coreAt n).ctx fun x => { x with cabinet := x.cabinet.map fun p =>
    (p.1, { p.2 with later := p.2.later.filter fun op => !op.isOf n }) }

/-- The continuation of a core ends without signal updates: its requests, its unresolved ones and its jobs too. -/
def State.endCore (s : State) (n : Nat) : State :=
  let s := s.endOperations n
  let c := s.coreAt n
  let s := ((c.binds.map (·.2)).eraseDups).foldl State.endParticipant s
  let s := s.dropUnresolved n
  let s := match c.saving with
    | some cmd =>
      let s := match cmd.owner with
        | some (x, i) => s.flight x i false
        | none => s
      match cmd.reply with
      | some (core, d) => s.answerStatus core d 1 (CWait.manages (· == 0))
      | none => s
    | none => s
  let s := s.dropReqs n
  ((s.wakeFeed n).modCore n Core.release).unschedule n

/-- A core's jobs and the copy line under way end without signal updates, and its memory is resident no more (R434). -/
def State.endMemory (s : State) (n : Nat) : State :=
  let s := match (s.coreAt n).piece with
    | some p => match (s.coreAt n).job p.job with
      | some j => s.flight j.ctx p.tokIndex false
      | none => s
    | none => s
  let s := (s.modCore n fun c => { c with piece := none }).freeJobs n
  (s.flushCache n).modCore n fun c =>
    { c with bankrole0 := 0, bankrole1 := 0, localMem := [], localPoison := [], abufTags := [], lines := [], resident := none }

/-- A launch ends without its signal update. -/
def State.dropLaunch (s : State) (die id : Nat) : State :=
  match s.launchAt die id with
  | none => s
  | some l =>
    let s := s.modDie die fun d =>
      { d with
        launches := SMap.erase d.launches id
        bench := match l.benchKey with
          | some k => d.bench.map fun b => if (b.hash, b.domain) = k then { b with pins := b.pins - 1 } else b
          | none => d.bench }
    -- one that had ended has given its in-flight count back
    if l.ended then s else (s.forgetCounts die id).flight l.sig.ctx (tokIndex l.sig.tok) false

/-- Every record of a context is freed, with what it holds. -/
def State.endRecords (s : State) (ctx : Nat) : State :=
  let l := s.ctxRecs ctx
  let s := s.recFlights l false
  let s := l.foldl (fun s q => q.2.heldBinds.foldl State.endParticipant s) s
  let ids := l.flatMap fun q => (q.2.heldReqs ++ q.2.heldC.toList).filterMap fun r =>
    r.id.map fun id => (r.peer, id)
  let s := ids.foldl (fun s p => (List.range 4).foldl (fun s d => s.forgetNumbered p.1 d p.2) s) s
  let mine : Nat → Nat → Bool := fun d i => l.any fun q => q.1 = (d, i)
  let s : State := { s with homes := { s.homes with
    waiters := s.homes.waiters.filter fun w => !(w.peer = 0 && mine w.recDie w.recSlot) } }
  let s := l.foldl (fun s q => (s.dropUpdates (ownerRec q.1.1 q.1.2 q.2.uid)).freeRec q.1.1 q.1.2) s
  s.modCtx ctx fun x => { x with recSnap := [], launchSnap := [] }

/-- Rung 2 (R417): every continuation and job of a context ends without signal updates, and its Cabinet entries drain.
Log 64: DEDUCED, unsafe. -/
def State.rungContext (s : State) (ctx : Nat) : State :=
  let running := (s.cores.filter fun p => p.2.ctx = ctx && (p.2.occupied || p.2.mode = .saved)).map (·.1)
  let memory := s.memoryCores ctx
  let s := running.foldl State.endCore s
  let s := memory.foldl State.endMemory s
  let s := s.endRecords ctx
  let s := (s.ctxLaunches ctx).foldl (fun s q => s.dropLaunch q.1.1 q.1.2) s
  -- operations of others that waited for a translation that has been refused
  let left := (s.ctxAt ctx).cabinet.filter fun p => !p.2.later.isEmpty && !p.2.waits
  let s := left.foldl (fun s p => s.runLater ctx p.1) s
  let s := (s.entriesIn ctx .live).foldl (fun s i => s.startDrain ctx i .revoke []) s
  s.post ((running ++ memory).eraseDups.map .pickup)

/-- RESET_RUNG_CONTEXT (R417). -/
def execResetRungContext (ctx : Nat) (s : State) : Outcome State Fault Refusal := .next (s.rungContext ctx)

/-- A core after the reset of its die; one that is retired stays so. -/
def Core.dieReset (c : Core) : Core := if c.mode = .retired then c else Core.reset

/-- Rung 3 (R417): every context with a record on the die or a continuation on its cores ends as in rung 2; the die's
cores, Bench and Shelves reset, and the launches that its front end holds are refused.
Log 15: DESIGN CHOICE, safe. -/
def State.rungDie (s : State) (die : Nat) : State :=
  let here := (List.range 32).map fun i => 32 * die + i
  let x := s.dieAt die
  let onCores := (here.filter fun n => (s.coreAt n).mode ≠ .idle && (s.coreAt n).mode ≠ .retired).map fun n =>
    (s.coreAt n).ctx
  let ctxs := (x.recs.map (fun p => p.2.ctx) ++ onCores).eraseDups
  let s := ctxs.foldl State.rungContext s
  let s := here.foldl State.endMemory s
  let held := x.waitingLaunches.map (fun l => (l.ctx, l.src)) ++
    x.runs.flatMap (fun r => r.members.map fun l => (l.ctx, l.src)) ++ x.reads.map fun r => (r.ctx, r.src)
  let s := s.modDie die fun d => { d with waitingLaunches := [], runs := [], reads := [], bench := [], benchUsed := 0 }
  let s := held.foldl (fun s p =>
    let code := Config.refusedCode s.fresh % 11
    State.launchStatus { s with fresh := s.fresh + 1 } p.1 p.2 (0x10 + code)) s
  let s := here.foldl (fun s n => s.modCore n Core.dieReset) s
  let s := s.modDie die fun d => { d with shareUsed := 0, shareSize := d.shareTarget, tlb := [] }
  s.post (here.map .pickup)

/-- RESET_RUNG_DIE (R417). -/
def execResetRungDie (die : Nat) (s : State) : Outcome State Fault Refusal :=
  if die < 4 then .next (s.rungDie die) else .next s

/-- The start-up steps of R408, in order.
Log 60: DESIGN CHOICE, unsafe. -/
def bootSteps : List Nat := [1, 2, 18, 34, 50, 3, 4, 5]

/-- What firmware tells the homes of records on other chips of the participants of this module that a reset ends (R321). -/
def State.moduleReleases (s : State) : List Packet :=
  let cores := s.cores.flatMap fun p => if p.2.mode = .idle then [] else (p.2.binds.map (·.2)).eraseDups
  let recs := (List.range 4).flatMap fun d => (s.dieAt d).recs.flatMap fun p => p.2.heldBinds
  ((cores ++ recs).filter fun name => namePeer name ≠ s.ownPeer).map fun name =>
    { s.packet 6 (namePeer name) 6 with op := 8, body := [BitVec.ofNat 64 name] }

/-- Rung 4 (R417): the module is as after reset, but for the flash that holds the journal and the key index, the
host's memory, and what firmware has still to tell other chips; start-up follows the journal.
Log 11: DESIGN CHOICE, safe. -/
def State.rungModule (s : State) : State :=
  let r : State := { State.reset with
    fab := { State.reset.fab with undelivered := s.moduleReleases }
    time := s.time, fresh := s.fresh + bootSteps.length, hostMem := s.hostMem
    mgmt := { State.reset.mgmt with journal := s.mgmt.journal, lmsIndex := s.mgmt.lmsIndex } }
  r.post ((List.range bootSteps.length).map fun i =>
    .bootStep (bootSteps.getD i 0) (Config.testOutcome (s.fresh + i) = 0) (BitVec.ofNat 64 s.time))

/-- RESET_RUNG_MODULE (R417).
Log 64: DEDUCED, unsafe. -/
def execResetRungModule (s : State) : Outcome State Fault Refusal := .next s.rungModule

/-- A rung by the operand word of command 0x0B (R413); none when the word is not one of them. -/
def State.rung (s : State) (w : Nat) : Option State :=
  let r := w % 8
  let t := bitsOf w 31 16
  if bitsOf w 15 3 ≠ 0 ∨ w / 2 ^ 32 ≠ 0 then none
  else if r = 1 ∧ t < 32 then some (s.rungQueue t)
  else if r = 2 ∧ t < 1024 then some (s.rungContext t)
  else if r = 3 ∧ t < 4 then some (s.rungDie t)
  else if r = 4 ∧ t = 0 then some s.rungModule
  else none

/-! ### Threads (R412, R414, R415) -/

/-- The key that the secured message of command 0x03 carries in the session of its context's TDI (R411); none when the TDI has
no session.
Log 13: PRESUMED, unsafe. -/
def State.messageKey (s : State) (c : Cmd) : Option (BitVec 256) :=
  let t := (s.ctxAt (cmdQuad c 1 % 1024)).tdi
  if s.mgmt.sessions.contains t then Config.secureMessage t (s.qRead ⟨true, cmdQuad c 2⟩ 4096) else none

/-- The event that performs a command (R412); none for an unknown opcode. -/
def cmdEvent (c : Cmd) (key : Option (BitVec 256)) : Option Event :=
  match cmdOp c with
  | 0x01 => some (.createContext c)
  | 0x02 => some (.destroyContext c)
  | 0x03 => some (.installKey c key)
  | 0x04 => some (.removeKey c)
  | 0x05 => some (.loadCompressionTable c)
  | 0x06 => some (.mapQueue c)
  | 0x07 => some (.parkQueue c)
  | 0x08 => some (.unmapQueue c)
  | 0x09 => some (.writeRouteEntry c)
  | 0x0A => some (.attestationReport c)
  | 0x0C => some (.setContextRegister c)
  | 0x0D => some (.bindSignalWord c)
  | 0x0E => some (.reconfigureFabric c)
  | 0x0F => some (.registerNoticeWord c)
  | _ => none

/-- A thread performs a command: a reset rung at once, any other as an event of its own. -/
def State.performCommand (s : State) (c : Cmd) : State :=
  if cmdOp c = 0x0B then
    match (if cmdZero c [1] then s.rung (cmdQuad c 1) else none) with
    | some t => t.cmdDone c 0
    | none => s.cmdDone c 1
  else match cmdEvent c (s.messageKey c) with
    | some e => s.post [e]
    | none => s.cmdDone c 2

/-- A thread serves the entry at head: a management queue's is performed, a launch queue's goes to the front end of its
die (R414).
Log 62: DEDUCED, unsafe. -/
def State.serve (s : State) (q : Nat) : State :=
  let v := s.queue q
  let a := v.entryAt v.head
  let s := s.setQueue q { v with busy := true }
  if v.kind = 1 then
    if recKind (s.qNat a 8) = 2 then s.post [.feedAppend v.die v.ctx a] else s.post [.launchRecord v.die v.ctx a]
  else s.performCommand (s.readCmd a)

/-- THREAD_WAKE (R415): the thread of a MAPPED queue wakes on its pending bit and clears it in the same step, and serves one
entry after another until none is left; then it sleeps, and wakes again if a wake has come meanwhile.
Log 62: DEDUCED, unsafe. -/
def execThreadWake (queue : Nat) (s : State) : Outcome State Fault Refusal :=
  let v := s.queue queue
  if 31 < queue ∨ v.state ≠ .mapped ∨ v.busy ∨ !(v.pending ∨ v.awake) then .next s
  else
    let v := if v.awake then v else { v with pending := false, awake := true }
    let s := s.setQueue queue v
    if s.qNat v.base 8 ≠ v.head then .next (s.serve queue)
    else
      let s := s.setQueue queue { v with awake := false }
      .next (if v.pending then s.post [.threadWake queue] else s)

/-! ### Device registers (R413, R415) -/

/-- The ring of queue 0 by its registers; its thread wakes once if a wake came meanwhile (R416).
Log 62: DEDUCED, unsafe. -/
def State.mapQueue0 (s : State) : State :=
  let v := s.queue 0
  let s := s.setQueue 0 { v with
    state := .mapped, kind := 0, base := ⟨true, s.mgmt.regBase.toNat⟩, n := s.mgmt.regCount.toNat % 16, saved := none }
  if v.pending then s.post [.threadWake 0] else s

/-- DEVICE_REGISTER_WRITE (R413, R415): queue 0's base and size, the reset register, and the wake registers.
Log 63: DEDUCED, safe. -/
def execDeviceRegisterWrite (addr : Nat) (value : BitVec 64) (s : State) : Outcome State Fault Refusal :=
  if addr = 0xFF00000F00 then
    .next (State.mapQueue0 { s with mgmt := { s.mgmt with regBase := value } })
  else if addr = 0xFF00000F08 then
    .next (State.mapQueue0 { s with mgmt := { s.mgmt with regCount := value &&& 15 } })
  else if addr = 0xFF00000F10 then
    let s : State := { s with mgmt := { s.mgmt with regReset := value } }
    .next ((s.rung value.toNat).getD s)
  else if 0xFF00001000 ≤ addr ∧ addr < 0xFF00001100 ∧ addr % 8 = 0 then
    .next (s.post [.wakeRegisterWrite ((addr - 0xFF00001000) / 8)])
  else .fault (.unmappedPhysical addr)

/-! ### TDIs and the host port (R409) -/

/-- The state of a TDI changes. -/
def State.setTdi (s : State) (t : Nat) (v : TdiState) : State :=
  { s with mgmt := { s.mgmt with tdis := SMap.set .configUnlocked s.mgmt.tdis t v } }

/-- TDI_CONFIG_WRITE (R409): a TDI that is locked enters ERROR, and its queues are parked.
Log 71: DEDUCED, unsafe. -/
def execTdiConfigWrite (tdi : Nat) (s : State) : Outcome State Fault Refusal :=
  if s.tdi tdi = .configLocked ∨ s.tdi tdi = .run then
    let s := s.setTdi tdi .error
    .next ((s.mgmt.queues.filter fun p => p.1 ≠ 0 && (s.ctxAt p.2.ctx).tdi = tdi).foldl (fun s p => s.parkQueue p.1) s)
  else .next s

/-- The sessions that are open. -/
def State.setSessions (s : State) (l : List Nat) : State := { s with mgmt := { s.mgmt with sessions := l } }

/-- TDISP_REQUEST (R409, R411): a lock in CONFIG_UNLOCKED, which names the TDI's IDE stream, a start in CONFIG_LOCKED, and a
stop from any state; and the beginning and the end of a TDI's SPDM session.
Log 71: DEDUCED, unsafe. -/
def execTdispRequest (tdi : Nat) (msg : TdispMsg) (s : State) : Outcome State Fault Refusal :=
  match msg, s.tdi tdi with
  | .lock n, .configUnlocked =>
    .next (State.setTdi { s with mgmt := { s.mgmt with tdiStreams := SMap.put s.mgmt.tdiStreams tdi n } } tdi .configLocked)
  | .start, .configLocked => .next (s.setTdi tdi .run)
  | .stop, _ => .next (s.setTdi tdi .configUnlocked)
  | .openSession, _ => .next (if tdi < 64 then s.setSessions (tdi :: s.mgmt.sessions.filter (· ≠ tdi)) else s)
  | .closeSession, _ => .next (s.setSessions (s.mgmt.sessions.filter (· ≠ tdi)))
  | _, _ => .next s

/-- The memory of a context holds an address of this module: its ring of a queue, or a page of a LIVE entry.
Log 71: DEDUCED, unsafe. -/
def State.ctxHolds (s : State) (ctx a : Nat) : Bool :=
  (s.mgmt.queues.any fun p => p.1 ≠ 0 && p.2.ctx = ctx && p.2.state ≠ .unmapped && !p.2.base.host &&
    p.2.base.addr ≤ a && a < p.2.base.addr + 64 + p.2.entrySize * 2 ^ p.2.n) ||
  ((s.ctxAt ctx).cabinet.any fun p => p.2.state = .live && p.2.frames.any fun f =>
    !f.hole && !s.isRemote f && f.addr ≤ a && a < f.addr + 2 ^ f.bits)

/-- The TDIs whose queues and memory a request of the host port is to: the function that it addresses, the owner of a queue
whose wake register it writes, the owners of the memory.
Log 71: DEDUCED, unsafe. -/
def State.portOwners (s : State) (r : HostRequest) : List Nat :=
  let own : List Nat := if r.host then []
    else if 0xFF00001000 ≤ r.addr ∧ r.addr < 0xFF00001100 then
      let q := (r.addr - 0xFF00001000) / 8
      if q ≠ 0 ∧ (s.queue q).state ≠ .unmapped then [(s.ctxAt (s.queue q).ctx).tdi] else []
    else (s.ctxs.filter fun p => p.2.live && s.ctxHolds p.1 r.addr).map fun p => p.2.tdi
  (r.tdi :: own).eraseDups

/-- A TDI in RUN accepts the request: it arrives on the TDI's IDE stream with the T bit set (R409). -/
def State.portAccepts (s : State) (r : HostRequest) (t : Nat) : Bool :=
  s.tdi t != .run || (r.tbit && r.stream.isSome && r.stream == SMap.find s.mgmt.tdiStreams t)

/-- HOST_PORT_REQUEST (R409, R18): one to the queues or the memory of a TDI in RUN that does not arrive on the TDI's IDE stream
with the T bit set is dropped and counted; a write of memory or of a device register is made.
Log 2: DESIGN CHOICE, unsafe. 63: DEDUCED, safe. 71: DEDUCED, unsafe. -/
def execHostPortRequest (r : HostRequest) (s : State) : Outcome State Fault Refusal :=
  match (s.portOwners r).find? fun t => !s.portAccepts r t with
  | some t =>
    let n := SMap.get 0 s.mgmt.tdiDropped t
    .next { s with mgmt := { s.mgmt with tdiDropped := SMap.put s.mgmt.tdiDropped t (n + 1) } }
  | none =>
  if !r.host ∧ 0xFF00000000 ≤ r.addr ∧ r.addr < 2 ^ 40 then
    match r.write with
    | some l => execDeviceRegisterWrite r.addr (BitVec.ofNat 64 (natOfBytes l)) s
    | none => .next s
  else if qUnmapped ⟨r.host, r.addr⟩ (max 1 r.len) then .fault (.unmappedPhysical r.addr)
  else match r.write with
    | some l => .next (s.qWrite 0 ⟨r.host, r.addr⟩ (l.take r.len))
    | none => .next s

end Sys2Proof.Machine
end

