-- ==== Sys2Proof/Machine/MemScalar.lean ====
section
/-! DEFINITION. The scalar memory forms, atomics, signal updates, cache control, token checks and probes
of the C and A streams, `reqpg` and `fence` (R199, R204 to R208, R214 to R217, R336 to R345). -/

namespace Sys2Proof.Machine

open Host (Outcome)

/-! ### Shared forms -/

/-- A form through a token: base from s2, the operand `x`. -/
def tokenForm (i : Instr) (g : Guard) (base : BitVec 7) (x : State → W64) (e : State → SqEntry) (op : MemOp)
    (s : State) : Outcome State Fault Refusal :=
  issue g false false (fun s => issueReq op (s.newReq i 7 0 (s.rd base) (x s) (e s) .none) s) s

/-- A scalar load of a buffer (R207): it performs at issue, behind what the stream orders before it. -/
def localLoad (i : Instr) (f : FM) : Act Flow := fun s =>
  let size := 2 ^ f.sz.toNat
  let o := fmOffset f (s.rd f.s2) size
  let b := f.s1.toNat
  if !mayReadBuf s.str b || !s.cur.inBuf b o size then trap cBuffer 0 s
  else if !s.localReady i then .error .stall
  else
    let poi := s.cur.bufPoison b o size
    if poi ∧ s.str ≠ .c then trap cPoison 0 s
    else
      let s' := s.wr f.d (extend f.sgn size (s.cur.bufNat b o size))
      .ok (if poi then s'.completeLate cPoison else (.fall, s'))

/-- A scalar store to a buffer (R207): it performs at issue, behind what the stream orders before it. -/
def localStore (i : Instr) (f : FM) : Act Flow := fun s =>
  let size := 2 ^ f.sz.toNat
  let o := fmOffset f (s.rd f.s2) size
  let b := f.s1.toNat
  if !mayWriteBuf s.str b || !s.cur.inBuf b o size then trap cBuffer 0 s
  else if !s.localReady i then .error .stall
  else .ok (.fall, s.modCur fun c => c.bufWriteNat b o size (s.rd f.d).toNat)

/-! ### Loads and stores -/

/-- LDS (R206, R207). -/
def execLds (f : FM) (s : State) : Outcome State Fault Refusal :=
  if f.hint = 3 then issue f.g false false (localLoad (.lds f) f) s
  else tokenForm (.lds f) f.g f.s2 (fun _ => 0) (fun _ => .none) (fmMemOp f .load needR) s

/-- STS (R206, R207). -/
def execSts (f : FM) (s : State) : Outcome State Fault Refusal :=
  if f.hint = 3 then issue f.g false false (localStore (.sts f) f) s
  else tokenForm (.sts f) f.g f.s2 (fun s => s.rd f.d) (fun _ => .none) (fmMemOp f .store needW) s

/-- LDACQ (R206, R293). -/
def execLdacq (f : FM) (s : State) : Outcome State Fault Refusal :=
  tokenForm (.ldacq f) f.g f.s2 (fun _ => 0) (fun _ => .none)
    { fmMemOp f .load needR with na := false } s

/-- STREL (R206, R293). -/
def execStrel (f : FM) (s : State) : Outcome State Fault Refusal :=
  tokenForm (.strel f) f.g f.s2 (fun s => s.rd f.d) (fun _ => .none)
    { fmMemOp f .store needW with na := false } s

/-! ### Atomics (R336, R337) -/

/-- An atomic: the operand from x, the expected value from d. -/
def atomicForm (i : Instr) (f : FX) (k : Nat) (s : State) : Outcome State Fault Refusal :=
  tokenForm i f.g f.s2 (fun s => s.rd f.x) (fun s => ⟨(s.rd f.d).setWidth 2048, 0, false⟩)
    { fxMemOp f (.atomic k) needA with na := false } s

/-- AADD (R337). -/
def execAadd (f : FX) (s : State) : Outcome State Fault Refusal := atomicForm (.aadd f) f 0 s
/-- AMIN (R337). -/
def execAmin (f : FX) (s : State) : Outcome State Fault Refusal := atomicForm (.amin f) f 1 s
/-- AMAX (R337). -/
def execAmax (f : FX) (s : State) : Outcome State Fault Refusal := atomicForm (.amax f) f 2 s
/-- AMINN (R337). -/
def execAminn (f : FX) (s : State) : Outcome State Fault Refusal := atomicForm (.aminn f) f 3 s
/-- AMAXN (R337). -/
def execAmaxn (f : FX) (s : State) : Outcome State Fault Refusal := atomicForm (.amaxn f) f 4 s
/-- AAND (R337). -/
def execAand (f : FX) (s : State) : Outcome State Fault Refusal := atomicForm (.aand f) f 5 s
/-- AOR (R337). -/
def execAor (f : FX) (s : State) : Outcome State Fault Refusal := atomicForm (.aor f) f 6 s
/-- AXOR (R337). -/
def execAxor (f : FX) (s : State) : Outcome State Fault Refusal := atomicForm (.axor f) f 7 s
/-- ASWAP (R337). -/
def execAswap (f : FX) (s : State) : Outcome State Fault Refusal := atomicForm (.aswap f) f 8 s
/-- ACAS (R337). -/
def execAcas (f : FX) (s : State) : Outcome State Fault Refusal := atomicForm (.acas f) f 9 s

/-! ### Signals and fences -/

/-- SIGADD (R345). -/
def execSigadd (f : FM) (s : State) : Outcome State Fault Refusal :=
  tokenForm (.sigadd f) f.g f.s2 (fun s => s.rd f.d) (fun _ => .none) (fmMemOp f .sigadd needA) s

/-- SIGSET (R345). -/
def execSigset (f : FM) (s : State) : Outcome State Fault Refusal :=
  tokenForm (.sigset f) f.g f.s2 (fun s => s.rd f.d) (fun _ => .none) (fmMemOp f .sigset needA) s

/-- FENCE (R344): it issues at once. While an earlier event that it orders is outstanding it stands among the requests of
its stream, and the later events that it orders wait behind it (Request). -/
def execFence (f : FI) (s : State) : Outcome State Fault Refusal :=
  issueSet f.g (fun s =>
    s.modCur fun c => { c with reqs := pruneFences (c.reqs ++ [s.newReq (.fence f) 6 0 0 0 .none .none]) }) s

/-! ### Cache control (R214 to R216) -/

/-- WBACK (R214). -/
def execWback (f : FM) (s : State) : Outcome State Fault Refusal :=
  tokenForm (.wback f) f.g f.s2 (fun _ => 0) (fun _ => .none)
    { fmMemOp f .wback needR with size := 1 } s

/-- INVAL (R214). -/
def execInval (f : FM) (s : State) : Outcome State Fault Refusal :=
  tokenForm (.inval f) f.g f.s2 (fun _ => 0) (fun _ => .none)
    { fmMemOp f .inval needR with size := 1 } s

/-- DISCARD (R215). -/
def execDiscard (f : FM) (s : State) : Outcome State Fault Refusal :=
  tokenForm (.discard f) f.g f.s2 (fun _ => 0) (fun _ => .none)
    { fmMemOp f .discard needW with size := 128 } s

/-- The prefetch of a line of a page of this module into the CACHE of the issuing core (R216). -/
def State.prefetch (s : State) (own : Bool) (g : Seg) : State :=
  let l := lineNo g.addr
  if g.frame.hole ∨ g.frame.bundle ∨ g.frame.mode ≠ 0 ∨ !s.cur.hasCache ∨ s.unmappedPart g ∨ s.watched l ∨
      s.movedPart g ∨ (g.frame.cls = 2 ∧ s.cpElsewhere s.core l) then s
  else if g.frame.cls = 0 then (if own then s.own s.core s.cur.ctx l else s.rdS s.core l)
  else if (SMap.find s.cur.lines l).isSome then s
  else s.fillLine s.core l ⟨.s, s.homeLine l, 0, g.frame.cls, s.homePoison l⟩

/-- PREF (R216): nothing when its check fails. -/
def execPref (f : FM) (s : State) : Outcome State Fault Refusal :=
  issueSet f.g (fun s =>
    let own := f.hint = 1
    let t := s.cur.tok f.s1.toNat
    match s.checkToken s.cur.ctx t (fmOffset f (s.rd f.s2) 128) 1 (if own then needW else needR) with
    | .error _ => s
    | .ok e => match e.elemSegs 0 (fmOffset f (s.rd f.s2) 128) 1 with
      | g :: _ => (s.noteToken s.core s.cur.ctx (tokIndex t)).prefetch own g
      | [] => s) s

/-! ### Probes of tokens -/

/-- TCHK (R204). -/
def execTchk (f : F3) (s : State) : Outcome State Fault Refusal :=
  issueSet f.g (fun s =>
    let t := s.cur.tok f.fmt.toNat
    let r := match s.checkToken s.cur.ctx t (s.rd f.s1).toNat (s.rd f.s2).toNat f.fn with
      | .ok _ => 0
      | .error c => c
    (s.noteToken s.core s.cur.ctx (tokIndex t)).wr f.d (BitVec.ofNat 64 r)) s

/-- RPROBE (R217). -/
def execRprobe (f : FM) (s : State) : Outcome State Fault Refusal :=
  tokenForm (.rprobe f) f.g f.s2 (fun _ => 0) (fun _ => .none)
    { fmMemOp f .rprobe needR with size := 0 } s

/-! ### Page requests (R205, R418) -/

/-- REQPG (R205, R418). -/
def execReqpg (f : FM) (s : State) : Outcome State Fault Refusal :=
  issue f.g false false (fun s =>
    let c := s.cur
    let a := (s.rd f.d).toNat
    if a % 32 ≠ 0 ∨ !c.inBuf 1 a 32 then trap cBuffer 0 s
    else if c.bufPoison 1 a 32 then trap cPoison 0 s
    else
      let block := c.bufBytes 1 a 32
      if natAt block 24 8 ≠ 0 then trap cIllegal 0 s
      else
        let stok := c.tok f.s1.toNat
        let soff := fmOffset f (s.rd f.s2) 8
        match s.checkToken c.ctx stok soff 8 needA with
        | .error e => trap e 0 s
        | .ok _ =>
          match s.checkToken c.ctx (BitVec.ofNat 64 (natAt block 0 8)) (natAt block 8 8) (natAt block 16 8)
              needR with
          | .error e => trap e 0 s
          | .ok _ =>
            let ring := s.curCtx.preq
            let head := s.physNat ring 8
            let tail := s.physNat (ring + 8) 8
            if !isMapped ring then .error (.fault (.unmappedPhysical ring))
            else if (tail + 2 ^ 64 - head) % 2 ^ 64 = 256 then .error .stall
            else
              let s := (s.noteToken s.core c.ctx (tokIndex stok)).noteToken s.core c.ctx
                (tokIndex (BitVec.ofNat 64 (natAt block 0 8)))
              let entry := block ++ bytesOf 8 stok.toNat ++ bytesOf 8 soff ++
                bytesOf 8 (c.ctx % 1024 + s.core % 128 * 2 ^ 16) ++ bytesOf 8 0
              let s := s.physWrite c.ctx (ring + 64 + 64 * (tail % 256)) entry
              .ok (.fall, s.physWriteNat c.ctx (ring + 8) 8 (tail + 1))) s

end Sys2Proof.Machine
end

