-- ==== Sys2Proof/Machine/MemVector.lean ====
section
/-! DEFINITION. The vector and local-vector forms of the A stream and the moves between its scalars and
the queues (R187 to R189, R209 to R213). -/

namespace Sys2Proof.Machine

open Host (Outcome)

/-- Reserves the next slot of a load queue, stalling while all 16 are reserved (R188): its position. -/
def reserveLq (n : Nat) : Act Nat := fun s =>
  let k := (s.cur.loadQ n).length
  if 16 ≤ k then .error .stall
  else .ok (k, s.modCur fun c => c.pushLq n ⟨false, 0, 0, 0, false⟩)

/-- Takes the head of a store queue, stalling while it is empty (R189). -/
def takeSq (n : Nat) : Act SqEntry := fun s =>
  match s.cur.storeQ n with
  | [] => .error .stall
  | e :: _ => .ok (e, s.modCur fun c => c.popSq n)

/-- A vector load: it takes an index entry when it has one, and reserves its slot. -/
def vecLoad (i : Instr) (g : Guard) (d base : BitVec 7) (stride : State → W64) (index : Option (BitVec 7))
    (op : MemOp) (s : State) : Outcome State Fault Refusal :=
  issue g false false (fun s =>
    let b := s.rd base
    let x := stride s
    let taken : Except Stop (SqEntry × State) := match index with
      | none => .ok (SqEntry.none, s)
      | some q => takeSq q.toNat s
    match taken with
    | .error e => .error e
    | .ok (ix, s) => match reserveLq d.toNat s with
      | .error e => .error e
      | .ok (k, s) => issueReq op (s.newReq i d.toNat k b x .none ix) s) s

/-- A vector store: it takes its data entry, and its index entry when it has one. -/
def vecStore (i : Instr) (g : Guard) (d base : BitVec 7) (stride : State → W64) (index : Option (BitVec 7))
    (op : MemOp) (s : State) : Outcome State Fault Refusal :=
  issue g false false (fun s =>
    let b := s.rd base
    let x := stride s
    match takeSq d.toNat s with
    | .error e => .error e
    | .ok (da, s) =>
      let taken : Except Stop (SqEntry × State) := match index with
        | none => .ok (SqEntry.none, s)
        | some q => takeSq q.toNat s
      match taken with
      | .error e => .error e
      | .ok (ix, s) => issueReq op (s.newReq i (4 + d.toNat) 0 b x da ix) s) s

/-- VLD (R209). -/
def execVld (f : FM) (s : State) : Outcome State Fault Refusal :=
  vecLoad (.vld f) f.g f.d f.s2 (fun _ => 0) none (fmMemOp f .vload needR) s

/-- LDB (R209). -/
def execLdb (f : FM) (s : State) : Outcome State Fault Refusal :=
  vecLoad (.ldb f) f.g f.d f.s2 (fun _ => 0) none (fmMemOp f .bcast needR) s

/-- VLDS (R209). -/
def execVlds (f : FX) (s : State) : Outcome State Fault Refusal :=
  vecLoad (.vlds f) f.g f.d f.s2 (fun s => s.rd f.x) none (fxMemOp f .vload needR) s

/-- VLDX (R210). -/
def execVldx (f : FX) (s : State) : Outcome State Fault Refusal :=
  vecLoad (.vldx f) f.g f.d f.s2 (fun _ => 0) (some f.x) (fxMemOp f .vload needR) s

/-- VST (R209). -/
def execVst (f : FM) (s : State) : Outcome State Fault Refusal :=
  vecStore (.vst f) f.g f.d f.s2 (fun _ => 0) none (fmMemOp f .vstore needW) s

/-- VSTS (R209). -/
def execVsts (f : FX) (s : State) : Outcome State Fault Refusal :=
  vecStore (.vsts f) f.g f.d f.s2 (fun s => s.rd f.x) none (fxMemOp f .vstore needW) s

/-- VSTX (R210). -/
def execVstx (f : FX) (s : State) : Outcome State Fault Refusal :=
  vecStore (.vstx f) f.g f.d f.s2 (fun _ => 0) (some f.x) (fxMemOp f .vstore needW) s

/-! ### Local vector forms (R212) -/

/-- The bytes [o, o + n) of a buffer that A may read, or why not: rights and range, then poison.
Log 21: DEDUCED, unsafe. -/
def bufRead (b o n : Nat) : Act (List Byte) := fun s =>
  if !mayReadBuf s.str b || !s.cur.inBuf b o n then trap cBuffer 0 s
  else if s.cur.bufPoison b o n then trap cPoison 0 s
  else .ok (s.cur.bufBytes b o n, s)

/-- LLD (R212). -/
def execLld (f : FM) (s : State) : Outcome State Fault Refusal :=
  issue f.g false false (fun s =>
    match bufRead f.s1.toNat (fmOffset f (s.rd f.s2) 256) 256 s with
    | .error e => .error e
    | .ok (l, s) =>
      if 16 ≤ (s.cur.loadQ f.d.toNat).length ∨ !s.localReady (.lld f) then .error .stall
      else .ok (.fall, s.modCur fun c => c.pushLq f.d.toNat (.plain (vecOfBytes l)))) s

/-- VLLD (R212). -/
def execVlld (f : FM) (s : State) : Outcome State Fault Refusal :=
  issue f.g false false (fun s =>
    match bufRead f.s1.toNat (fmOffset f (s.rd f.s2) 1024) 1024 s with
    | .error e => .error e
    | .ok (l, s) =>
      if ((List.range 4).any fun m => 16 ≤ (s.cur.loadQ m).length) ∨ !s.localReady (.vlld f) then .error .stall
      else .ok (.fall, s.modCur fun c => (List.range 4).foldl
        (fun c m => c.pushLq m (.plain (vecOfBytes ((l.drop (256 * m)).take 256)))) c)) s

/-- The enabled lanes of an entry enter a buffer (R212). -/
def Core.storeLanes (c : Core) (b o : Nat) (e : SqEntry) : Core :=
  c.bufWriteSel b o (vecBytes e.data) fun i => e.enable.getLsbD (i / 4)

/-- LST (R212). -/
def execLst (f : FM) (s : State) : Outcome State Fault Refusal :=
  issue f.g false false (fun s =>
    let b := f.s1.toNat
    let o := fmOffset f (s.rd f.s2) 256
    if !mayWriteBuf s.str b || !s.cur.inBuf b o 256 then trap cBuffer 0 s
    else if !s.localReady (.lst f) then .error .stall
    else match takeSq f.d.toNat s with
      | .error e => .error e
      | .ok (e, s) =>
        let s := s.modCur fun c => c.storeLanes b o e
        .ok (if e.poison then s.completeLate cPoison else (.fall, s))) s

/-- VLST (R212). -/
def execVlst (f : FM) (s : State) : Outcome State Fault Refusal :=
  issue f.g false false (fun s =>
    let b := f.s1.toNat
    let o := fmOffset f (s.rd f.s2) 512
    if !mayWriteBuf s.str b || !s.cur.inBuf b o 512 then trap cBuffer 0 s
    else if !s.localReady (.vlst f) then .error .stall
    else match takeSq 0 s with
      | .error e => .error e
      | .ok (p, s) => match takeSq 1 s with
        | .error e => .error e
        | .ok (q, s) =>
          let s := s.modCur fun c => (c.storeLanes b o p).storeLanes b (o + 256) q
          .ok (if p.poison ∨ q.poison then s.completeLate cPoison else (.fall, s))) s

/-! ### Queue moves (R213) -/

/-- LQPUT (R213). -/
def execLqput (f : F3) (s : State) : Outcome State Fault Refusal :=
  issue f.g false false (fun s =>
    if 16 ≤ (s.cur.loadQ f.d.toNat).length then .error .stall
    else .ok (.fall, s.modCur fun c =>
      c.pushLq f.d.toNat (.plain (broadcast (typeWidth f.fmt.toNat) (s.rd f.s1))))) s

/-- SQGET (R213). -/
def execSqget (f : F3) (s : State) : Outcome State Fault Refusal :=
  issue f.g false false (fun s =>
    match takeSq f.s1.toNat s with
    | .error e => .error e
    | .ok (e, s') =>
      let j := (s.rd f.s2).toNat % 32
      let s' := s'.wr f.d (BitVec.ofNat 64 (elem 64 e.data j))
      .ok (if e.poison then s'.completeLate cPoison else (.fall, s'))) s

/-- SQDROP (R213). -/
def execSqdrop (f : F3) (s : State) : Outcome State Fault Refusal :=
  issue f.g false false (fun s =>
    match takeSq f.s1.toNat s with
    | .error e => .error e
    | .ok (_, s) => .ok (.fall, s)) s

end Sys2Proof.Machine
end

