-- ==== Sys2Proof/Machine/Vector.lean ====
section
/-! DEFINITION. The X-stream forms, opcodes 0x70 to 0xCF (R218 to R240), and the landing of their
results. -/

namespace Sys2Proof.Machine

open Host (Outcome)

/-- VADD (R224). -/
def execVadd (f : F3) (s : State) : Outcome State Fault Refusal :=
  floatForm f 4 true false (fun a b _ => Num.add f.rnd.toNat a b) s

/-- VSUB (R224). -/
def execVsub (f : F3) (s : State) : Outcome State Fault Refusal :=
  floatForm f 4 true false (fun a b _ => Num.add f.rnd.toNat a b.negate) s

/-- VMUL (R224). -/
def execVmul (f : F3) (s : State) : Outcome State Fault Refusal :=
  floatForm f 4 true false (fun a b _ => Num.mul a b) s

/-- VDIV (R224). -/
def execVdiv (f : F3) (s : State) : Outcome State Fault Refusal :=
  elemForm f 16 (fun x y _ =>
    let t := f.fmt.toNat
    divRound t (flushIn t x f.fzi) (flushIn t y f.fzi) f.rnd.toNat f.sat f.fzo) s

/-- VSQRT (R224). -/
def execVsqrt (f : F3) (s : State) : Outcome State Fault Refusal :=
  funcForm f 16 sqrtRound s

/-- VFMA (R224). -/
def execVfma (f : F3) (s : State) : Outcome State Fault Refusal :=
  floatForm f 4 true true (fun a b c => fusedSum f.rnd.toNat (Num.mul a b) c) s

/-- VFMS (R224). -/
def execVfms (f : F3) (s : State) : Outcome State Fault Refusal :=
  floatForm f 4 true true (fun a b c => fusedSum f.rnd.toNat (Num.mul a b) c.negate) s

/-- VFNMA (R224). -/
def execVfnma (f : F3) (s : State) : Outcome State Fault Refusal :=
  floatForm f 4 true true (fun a b c => fusedSum f.rnd.toNat (Num.mul a.negate b) c.negate) s

/-- VFNMS (R224). -/
def execVfnms (f : F3) (s : State) : Outcome State Fault Refusal :=
  floatForm f 4 true true (fun a b c => fusedSum f.rnd.toNat (Num.mul a.negate b) c) s

/-- VMIN (R225). -/
def execVmin (f : F3) (s : State) : Outcome State Fault Refusal :=
  exactForm f (fun a b _ => minNum a b) s

/-- VMAX (R225). -/
def execVmax (f : F3) (s : State) : Outcome State Fault Refusal :=
  exactForm f (fun a b _ => maxNum a b) s

/-- VABS (R225). -/
def execVabs (f : F3) (s : State) : Outcome State Fault Refusal :=
  exactForm f (fun a _ _ => a.abs) s

/-- VNEG (R225). -/
def execVneg (f : F3) (s : State) : Outcome State Fault Refusal :=
  exactForm f (fun a _ _ => a.negate) s

/-- VABD (R224). -/
def execVabd (f : F3) (s : State) : Outcome State Fault Refusal :=
  floatForm f 4 true false (fun a b _ => let r := Num.add f.rnd.toNat a b.negate; (r.1.abs, r.2)) s

/-- VRCP (R226). -/
def execVrcp (f : F3) (s : State) : Outcome State Fault Refusal :=
  funcForm f 6 rcpRound s

/-- VRSQ (R226). -/
def execVrsq (f : F3) (s : State) : Outcome State Fault Refusal :=
  funcForm f 6 rsqRound s

/-- VEXP2 (R226). -/
def execVexp2 (f : F3) (s : State) : Outcome State Fault Refusal :=
  funcForm f 10 exp2Round s

/-- VLOG2 (R226). -/
def execVlog2 (f : F3) (s : State) : Outcome State Fault Refusal :=
  funcForm f 10 log2Round s

/-- VSIN (R226). -/
def execVsin (f : F3) (s : State) : Outcome State Fault Refusal :=
  funcForm f 10 sinRound s

/-- VCOS (R226). -/
def execVcos (f : F3) (s : State) : Outcome State Fault Refusal :=
  funcForm f 10 cosRound s

/-- VTANH (R226). -/
def execVtanh (f : F3) (s : State) : Outcome State Fault Refusal :=
  funcForm f 10 tanhRound s

/-- VSIGM (R226). -/
def execVsigm (f : F3) (s : State) : Outcome State Fault Refusal :=
  funcForm f 10 sigmRound s

/-- VSCALE (R224). -/
def execVscale (f : F3) (s : State) : Outcome State Fault Refusal :=
  elemForm f 4 (fun x y _ =>
    let t := f.fmt.toNat
    let k := intOf (if typeWidth t = 32 then 10 else 9) y
    let v := match flushIn t x f.fzi with
      | .fin n m e => Num.fin n m (e + k)
      | v => v
    roundTo t v f.rnd.toNat f.sat f.fzo) s

/-- VROUND (R225). -/
def execVround (f : F3) (s : State) : Outcome State Fault Refusal :=
  exactForm f (fun a _ _ => roundIntegral f.rnd.toNat a) s

/-- VCLAMP (R225). -/
def execVclamp (f : F3) (s : State) : Outcome State Fault Refusal :=
  exactForm f (fun a b c => minNum (maxNum a b) c) s

/-- VSGNJ (R225). -/
def execVsgnj (f : F3) (s : State) : Outcome State Fault Refusal :=
  elemForm f 2 (fun x y _ =>
    let t := f.fmt.toNat
    let a := flushIn t x f.fzi
    let sb := bitOf y (typeWidth t - 1)
    let n := if f.fn = 0 then sb else if f.fn = 1 then !sb else a.isNeg != sb
    (patternOf t (a.withSign n), 0#5)) s

/-- VCLASS (R225). -/
def execVclass (f : F3) (s : State) : Outcome State Fault Refusal :=
  elemForm f 2 (fun x _ _ => (2 ^ classBit f.fmt.toNat x, 0#5)) s

/-- VCVT (R227). -/
def execVcvt (f : F3) (s : State) : Outcome State Fault Refusal :=
  issueSet f.g (fun s =>
    let td := f.fmt.toNat
    let ts := f.fn.toNat
    let w := max (typeWidth td) (typeWidth ts)
    let n := elemCount w
    let act := activeElem w (s.laneMask f)
    let a := s.cur.vec f.s1.toNat
    let (v, fl) := mapElems (typeWidth td) n act fun j =>
      convert td ts (elem (typeWidth ts) a j) f.rnd.toNat f.fzi f.fzo f.sat
    s.writeVec 3 f.d v (elemBits (typeWidth td) n act) fl) s

/-- VDOT (R228). -/
def execVdot (f : F3) (s : State) : Outcome State Fault Refusal :=
  issueSet f.g (fun s =>
    let a := s.vsrc 32 f.s1
    let b := s.vsrc 32 f.s2
    let a := if f.s1.toNat < 64 then a else broadcast (f3Width f) (s.cur.scalar .x (f.s1.toNat - 64))
    let b := if f.s2.toNat < 64 then b else broadcast (f3Width f) (s.cur.scalar .x (f.s2.toNat - 64))
    let c := s.cur.vec f.d.toNat
    let act := activeElem 32 (s.laneMask f)
    let (v, fl) := mapElems 32 64 act fun j => dotLane f (elem 32 c j) (elem 32 a j) (elem 32 b j)
    s.writeVec 6 f.d v (activeBits 32 (s.laneMask f)) fl) s

/-- VCMP (R229). -/
def execVcmp (f : F3) (s : State) : Outcome State Fault Refusal :=
  compareForm f (fun x y =>
    let t := f.fmt.toNat
    fcmpHolds (f.fn.toNat % 8) (flushIn t x f.fzi) (flushIn t y f.fzi)) s

/-- VPADD (R224). -/
def execVpadd (f : F3) (s : State) : Outcome State Fault Refusal :=
  issueSet f.g (fun s =>
    let t := f.fmt.toNat
    let w := f3Width f
    let n := elemCount w
    let a := s.cur.vec f.s1.toNat
    let b := s.cur.vec f.s2.toNat
    let (v, fl) := mapElems w n (activeElem w (s.laneMask f)) fun j =>
      let (src, i) := if j < n / 2 then (a, 2 * j) else (b, 2 * (j - n / 2))
      let x := flushIn t (elem w src i) f.fzi
      let y := flushIn t (elem w src (i + 1)) f.fzi
      let (r, fl) := Num.add f.rnd.toNat x y
      let (p, fl') := roundTo t r f.rnd.toNat f.sat f.fzo
      (p, fl ||| fl')
    s.writeVec 4 f.d v (activeBits w (s.laneMask f)) fl) s

/-- VPACK (R233). -/
def execVpack (f : F3) (s : State) : Outcome State Fault Refusal :=
  moveForm f 2 (f3Width f) (fun s j =>
    let w := f3Width f
    let h := elemCount w / 2
    if j < h then elem w (s.cur.vec f.s1.toNat) j else elem w (s.cur.vec f.s2.toNat) (j - h)) s

/-- VUNPACK (R233). -/
def execVunpack (f : F3) (s : State) : Outcome State Fault Refusal :=
  moveForm f 2 (f3Width f) (fun s j =>
    let w := f3Width f
    let h := elemCount w / 2
    if j < h then elem w (s.cur.vec f.s1.toNat) (j + h) else 0) s

/-- VREDSUM (R232). -/
def execVredsum (f : F3) (s : State) : Outcome State Fault Refusal :=
  let t := f.fmt.toNat
  let fl := fun b => patternOf t (flushIn t b f.fzi)
  reduceForm f 14 (fun b => fl b)
    (fun a b =>
      let (r, g) := Num.add f.rnd.toNat (flushIn t a f.fzi) (flushIn t b f.fzi)
      let (p, g') := roundTo t r f.rnd.toNat f.sat f.fzo
      (p, g ||| g'))
    (fun b => roundTo t (decodeFloat t b) f.rnd.toNat f.sat f.fzo) s

/-- VREDMAX (R232). -/
def execVredmax (f : F3) (s : State) : Outcome State Fault Refusal :=
  let t := f.fmt.toNat
  reduceForm f 8 (canonNaN t)
    (fun a b => (patternOf t (maxNum (decodeFloat t a) (decodeFloat t b)), 0#5)) (fun b => (b, 0#5)) s

/-- VREDMIN (R232). -/
def execVredmin (f : F3) (s : State) : Outcome State Fault Refusal :=
  let t := f.fmt.toNat
  reduceForm f 8 (canonNaN t)
    (fun a b => (patternOf t (minNum (decodeFloat t a) (decodeFloat t b)), 0#5)) (fun b => (b, 0#5)) s

/-- VREDADD (R232). -/
def execVredadd (f : F3) (s : State) : Outcome State Fault Refusal :=
  let t := f.fmt.toNat
  reduceForm f 6 id (fun a b => (intResult t f.sat (intOf t a + intOf t b), 0#5))
    (fun b => (b, 0#5)) s

/-- VREDAND (R232). -/
def execVredand (f : F3) (s : State) : Outcome State Fault Refusal :=
  reduceForm f 4 id (fun a b => (a &&& b, 0#5)) (fun b => (b, 0#5)) s

/-- VREDOR (R232). -/
def execVredor (f : F3) (s : State) : Outcome State Fault Refusal :=
  reduceForm f 4 id (fun a b => (a ||| b, 0#5)) (fun b => (b, 0#5)) s

/-- VREDXOR (R232). -/
def execVredxor (f : F3) (s : State) : Outcome State Fault Refusal :=
  reduceForm f 4 id (fun a b => (a ^^^ b, 0#5)) (fun b => (b, 0#5)) s

/-- VIADD (R230). -/
def execViadd (f : F3) (s : State) : Outcome State Fault Refusal :=
  integerForm f 1 (fun a b _ => a + b) s

/-- VISUB (R230). -/
def execVisub (f : F3) (s : State) : Outcome State Fault Refusal :=
  integerForm f 1 (fun a b _ => a - b) s

/-- VIMUL (R230). -/
def execVimul (f : F3) (s : State) : Outcome State Fault Refusal :=
  integerForm f 3 (fun a b _ => a * b) s

/-- VIMULH (R230). -/
def execVimulh (f : F3) (s : State) : Outcome State Fault Refusal :=
  integerForm f 3 (fun a b _ => a * b / (2 ^ f3Width f : Nat)) s

/-- VIMAC (R230). -/
def execVimac (f : F3) (s : State) : Outcome State Fault Refusal :=
  integerForm f 3 (fun a b c => c + a * b) s

/-- VAND (R230). -/
def execVand (f : F3) (s : State) : Outcome State Fault Refusal :=
  bitsForm f 1 (fun _ a b => a &&& b) s

/-- VOR (R230). -/
def execVor (f : F3) (s : State) : Outcome State Fault Refusal :=
  bitsForm f 1 (fun _ a b => a ||| b) s

/-- VXOR (R230). -/
def execVxor (f : F3) (s : State) : Outcome State Fault Refusal :=
  bitsForm f 1 (fun _ a b => a ^^^ b) s

/-- VANDN (R230). -/
def execVandn (f : F3) (s : State) : Outcome State Fault Refusal :=
  bitsForm f 1 (fun w a b => a &&& (2 ^ w - 1 - b)) s

/-- VSHL (R230). -/
def execVshl (f : F3) (s : State) : Outcome State Fault Refusal :=
  bitsForm f 1 (shiftBits 0) s

/-- VSHR (R230). -/
def execVshr (f : F3) (s : State) : Outcome State Fault Refusal :=
  bitsForm f 1 (shiftBits 1) s

/-- VSRA (R230). -/
def execVsra (f : F3) (s : State) : Outcome State Fault Refusal :=
  bitsForm f 1 (shiftBits 2) s

/-- VIMIN (R230). -/
def execVimin (f : F3) (s : State) : Outcome State Fault Refusal :=
  let t := signedType f.fmt.toNat
  bitsForm f 1 (fun _ a b => if intOf t a ≤ intOf t b then a else b) s

/-- VIMAX (R230). -/
def execVimax (f : F3) (s : State) : Outcome State Fault Refusal :=
  let t := signedType f.fmt.toNat
  bitsForm f 1 (fun _ a b => if intOf t b ≤ intOf t a then a else b) s

/-- VIMINN (R230). -/
def execViminn (f : F3) (s : State) : Outcome State Fault Refusal :=
  bitsForm f 1 (fun _ a b => if a ≤ b then a else b) s

/-- VIMAXN (R230). -/
def execVimaxn (f : F3) (s : State) : Outcome State Fault Refusal :=
  bitsForm f 1 (fun _ a b => if b ≤ a then a else b) s

/-- VICMP (R229). -/
def execVicmp (f : F3) (s : State) : Outcome State Fault Refusal :=
  compareForm f (fun x y =>
    icmpHolds (f.fn.toNat % 8) (intOf f.fmt.toNat x) (intOf f.fmt.toNat y)) s

/-- VIABS (R230). -/
def execViabs (f : F3) (s : State) : Outcome State Fault Refusal :=
  integerForm f 1 (fun a _ _ => (a.natAbs : Int)) s

/-- VINEG (R230). -/
def execVineg (f : F3) (s : State) : Outcome State Fault Refusal :=
  integerForm f 1 (fun a _ _ => -a) s

/-- VPOPC (R230). -/
def execVpopc (f : F3) (s : State) : Outcome State Fault Refusal :=
  bitsForm f 2 (fun w a _ => popNat w a) s

/-- VCLZ (R230). -/
def execVclz (f : F3) (s : State) : Outcome State Fault Refusal :=
  bitsForm f 2 (fun w a _ => clzNat w a) s

/-- VSEL (R233). -/
def execVsel (f : F3) (s : State) : Outcome State Fault Refusal :=
  issueSet f.g (fun s =>
    let m := activeBits 32 (s.laneMask f)
    let v := (s.cur.vec f.s1.toNat &&& m) ||| (s.cur.vec f.s2.toNat &&& ~~~m)
    s.writeVec 1 f.d v allBits 0#5) s

/-- VPERM (R233). -/
def execVperm (f : F3) (s : State) : Outcome State Fault Refusal :=
  moveForm f 3 (f3Width f) (fun s j =>
    let w := f3Width f
    let u := elem w (s.cur.vec f.s2.toNat) j
    if u < elemCount w then elem w (s.cur.vec f.s1.toNat) u else 0) s

/-- VSHUF (R233). -/
def execVshuf (f : F3) (s : State) : Outcome State Fault Refusal :=
  moveForm f 3 (f3Width f) (fun s j =>
    elem (f3Width f) (s.cur.vec f.s1.toNat) (j ^^^ 2 ^ f.fn.toNat)) s

/-- VBCAST (R233). -/
def execVbcast (f : F3) (s : State) : Outcome State Fault Refusal :=
  moveForm f 1 (f3Width f) (fun s _ =>
    let w := f3Width f
    elem w (s.cur.vec f.s1.toNat) ((s.cur.scalar .x f.s2.toNat).toNat % elemCount w)) s

/-- VMOV (R233). -/
def execVmov (f : F3) (s : State) : Outcome State Fault Refusal :=
  moveForm f 1 32 (fun s j => elem 32 (s.cur.vec f.s1.toNat) j) s

/-- VZIP (R233). -/
def execVzip (f : F3) (s : State) : Outcome State Fault Refusal :=
  moveForm f 2 (f3Width f) (fun s j =>
    elem (f3Width f) (s.cur.vec (if j % 2 = 0 then f.s1 else f.s2).toNat) (j / 2)) s

/-- VUNZIP (R233). -/
def execVunzip (f : F3) (s : State) : Outcome State Fault Refusal :=
  moveForm f 2 (f3Width f) (fun s j =>
    let w := f3Width f
    let h := elemCount w / 2
    let (r, i) := if j < h then (f.s1, j) else (f.s2, j - h)
    elem w (s.cur.vec r.toNat) (2 * i + f.fn.toNat % 2)) s

/-- VCOMPRESS (R233). -/
def execVcompress (f : F3) (s : State) : Outcome State Fault Refusal :=
  issueSet f.g (fun s =>
    let lanes := setBits (s.laneMask f)
    let v := ofElems 32 64 fun i => match lanes[i]? with
      | some l => elem 32 (s.cur.vec f.s1.toNat) l
      | none => 0
    s.writeVec 3 f.d v allBits 0#5) s

/-- VEXPAND (R233). -/
def execVexpand (f : F3) (s : State) : Outcome State Fault Refusal :=
  moveForm f 3 32 (fun s j =>
    elem 32 (s.cur.vec f.s1.toNat) ((setBits (s.laneMask f)).takeWhile (· < j)).length) s

/-- VIDX (R233). -/
def execVidx (f : F3) (s : State) : Outcome State Fault Refusal :=
  moveForm f 1 (f3Width f) (fun _ j => j % 2 ^ f3Width f) s

/-- X removes the head of load queue `n`: the slots behind it, and the requests that fill them, move
up (R188, R191). -/
def Core.popLq (c : Core) (n : Nat) : Core :=
  { c with
    lq := SMap.put c.lq n (c.loadQ n).tail
    reqs := c.reqs.map fun r => if r.queue = n then { r with slot := r.slot - 1 } else r }

/-- VPOP (R235). -/
def execVpop (f : F3) (s : State) : Outcome State Fault Refusal :=
  issue f.g false false (fun s =>
    match s.cur.loadQ f.s1.toNat with
    | [] => .error .stall
    | q :: _ =>
      if !q.filled then .error .stall
      else
        let s := s.modCur fun c => c.popLq f.s1.toNat
        let fl := if f.fn = 0 then q.resid else if f.fn = 1 then q.view else q.resid ||| q.view
        let s := s.writeVec 2 f.d q.data allBits 0#5
        let s := s.writeMask 2 f.mask.toNat fl
        .ok (if q.poison then s.completeLate cPoison else (.fall, s))) s

/-- VPUSH (R236). -/
def execVpush (f : F3) (s : State) : Outcome State Fault Refusal :=
  issue f.g false false (fun s =>
    let n := f.d.toNat
    let q := s.cur.storeQ n
    if 16 ≤ q.length then .error .stall
    else .ok (.fall, s.modCur fun c =>
      { c with sq := SMap.put c.sq n (q ++ [⟨s.cur.vec f.s1.toNat, s.laneMask f, false⟩]) })) s

/-- MAND (R237). -/
def execMand (f : F3) (s : State) : Outcome State Fault Refusal :=
  issueSet f.g (fun s =>
    s.writeMask 1 f.d.toNat (s.cur.maskReg f.s1.toNat &&& s.cur.maskReg f.s2.toNat)) s

/-- MOR (R237). -/
def execMor (f : F3) (s : State) : Outcome State Fault Refusal :=
  issueSet f.g (fun s =>
    s.writeMask 1 f.d.toNat (s.cur.maskReg f.s1.toNat ||| s.cur.maskReg f.s2.toNat)) s

/-- MXOR (R237). -/
def execMxor (f : F3) (s : State) : Outcome State Fault Refusal :=
  issueSet f.g (fun s =>
    s.writeMask 1 f.d.toNat (s.cur.maskReg f.s1.toNat ^^^ s.cur.maskReg f.s2.toNat)) s

/-- MANDN (R237). -/
def execMandn (f : F3) (s : State) : Outcome State Fault Refusal :=
  issueSet f.g (fun s =>
    s.writeMask 1 f.d.toNat (s.cur.maskReg f.s1.toNat &&& ~~~(s.cur.maskReg f.s2.toNat))) s

/-- MNOT (R237). -/
def execMnot (f : F3) (s : State) : Outcome State Fault Refusal :=
  issueSet f.g (fun s =>
    s.writeMask 1 f.d.toNat (~~~(s.cur.maskReg f.s1.toNat))) s

/-- MMOV (R237). -/
def execMmov (f : F3) (s : State) : Outcome State Fault Refusal :=
  issueSet f.g (fun s =>
    s.writeMask 1 f.d.toNat (s.cur.maskReg f.s1.toNat)) s

/-- MSET (R237). -/
def execMset (f : F3) (s : State) : Outcome State Fault Refusal :=
  issueSet f.g (fun s =>
    s.writeMask 1 f.d.toNat (s.cur.scalar .x f.s1.toNat)) s

/-- MGET (R237). -/
def execMget (f : F3) (s : State) : Outcome State Fault Refusal :=
  issueSet f.g (fun s =>
    let m := s.cur.maskReg f.s1.toNat
    s.writeScalar 1 f.d.toNat (m)) s

/-- MCNT (R237). -/
def execMcnt (f : F3) (s : State) : Outcome State Fault Refusal :=
  issueSet f.g (fun s =>
    let m := s.cur.maskReg f.s1.toNat
    s.writeScalar 1 f.d.toNat (BitVec.ofNat 64 (popNat 64 m.toNat))) s

/-- CKACC (R238). -/
def execCkacc (f : F3) (s : State) : Outcome State Fault Refusal :=
  issueSet f.g (fun s =>
    let op := ckContribution f (s.cur.vec f.s1.toNat) (s.laneMask f)
    s.launchX ⟨.ck f.d.toNat, allBits, 0, 4, op, 0, pcReg s.cur.sx.pc, false⟩) s

/-- CKCHK (R239). -/
def execCkchk (f : F3) (s : State) : Outcome State Fault Refusal :=
  issueSet f.g (fun s =>
    if ckPasses f.fn.toNat (s.cur.chk f.s1.toNat) (s.cur.chk f.s2.toNat) then s
    else s.launchX ⟨.e 0, allBits, 0, 4, .check, 0, pcReg s.cur.sx.pc, false⟩) s

/-- CKCLR (R239). -/
def execCkclr (f : F3) (s : State) : Outcome State Fault Refusal :=
  issueSet f.g (fun s =>
    s.launchX ⟨.ck f.d.toNat, allBits, 0, 1, .write, 0, pcReg s.cur.sx.pc, false⟩) s

/-- CKGET (R239). -/
def execCkget (f : F3) (s : State) : Outcome State Fault Refusal :=
  issueSet f.g (fun s =>
    s.writeScalar 2 f.d.toNat ((s.cur.chk f.s1.toNat).extractLsb' (64 * (f.fn.toNat % 2)) 64)) s

/-- MFIRST (R237). -/
def execMfirst (f : F3) (s : State) : Outcome State Fault Refusal :=
  issueSet f.g (fun s =>
    let m := s.cur.maskReg f.s1.toNat
    s.writeScalar 1 f.d.toNat (BitVec.ofNat 64 (ctzNat 64 m.toNat))) s

/-- VIADDI (R231). -/
def execViaddi (f : FI) (s : State) : Outcome State Fault Refusal :=
  issueSet f.g (fun s =>
    let t := f.imm.toNat / 2 ^ 26
    let w := typeWidth t
    let n := elemCount w
    let a := s.cur.vec f.s1.toNat
    s.writeVec 1 f.d (ofElems w n fun j => elem w a j + ((f.imm.setWidth 26).signExtend 64).toNat % 2 ^ w) allBits 0#5) s

/-- VSHLI (R231). -/
def execVshli (f : FI) (s : State) : Outcome State Fault Refusal :=
  issueSet f.g (fun s =>
    let t := f.imm.toNat / 2 ^ 26
    let w := typeWidth t
    let n := elemCount w
    let a := s.cur.vec f.s1.toNat
    s.writeVec 1 f.d (ofElems w n fun j => shiftBits 0 w (elem w a j) (f.imm.toNat % 64)) allBits 0#5) s

/-- VSHRI (R231). -/
def execVshri (f : FI) (s : State) : Outcome State Fault Refusal :=
  issueSet f.g (fun s =>
    let t := f.imm.toNat / 2 ^ 26
    let w := typeWidth t
    let n := elemCount w
    let a := s.cur.vec f.s1.toNat
    s.writeVec 1 f.d (ofElems w n fun j => shiftBits 1 w (elem w a j) (f.imm.toNat % 64)) allBits 0#5) s

/-- VSRAI (R231). -/
def execVsrai (f : FI) (s : State) : Outcome State Fault Refusal :=
  issueSet f.g (fun s =>
    let t := f.imm.toNat / 2 ^ 26
    let w := typeWidth t
    let n := elemCount w
    let a := s.cur.vec f.s1.toNat
    s.writeVec 1 f.d (ofElems w n fun j => shiftBits 2 w (elem w a j) (f.imm.toNat % 64)) allBits 0#5) s

/-- VEXT (R234). -/
def execVext (f : FI) (s : State) : Outcome State Fault Refusal :=
  issueSet f.g (fun s =>
    let t := f.imm.toNat / 256
    let b := elem (typeWidth t) (s.cur.vec f.s1.toNat) (f.imm.toNat % 256)
    s.writeScalar 2 f.d.toNat (if isSigned t then BitVec.ofInt 64 (intOf t b) else BitVec.ofNat 64 b)) s

/-- VINS (R234). -/
def execVins (f : FI) (s : State) : Outcome State Fault Refusal :=
  issueSet f.g (fun s =>
    let w := typeWidth (f.imm.toNat / 256)
    let k := w * (f.imm.toNat % 256)
    let x := (s.cur.scalar .x f.s1.toNat).toNat % 2 ^ w
    s.writeVec 2 f.d (BitVec.ofNat 2048 (x * 2 ^ k)) (BitVec.ofNat 2048 ((2 ^ w - 1) * 2 ^ k)) 0#5) s

/-- VSLIDE (R234). -/
def execVslide (f : FI) (s : State) : Outcome State Fault Refusal :=
  issueSet f.g (fun s =>
    let k := 32 * (f.imm.toNat % 128)
    let a := s.cur.vec f.s1.toNat
    s.writeVec 2 f.d (if f.imm.getLsbD 7 then a >>> k else a <<< k) allBits 0#5) s

/-- VIMM (R234). -/
def execVimm (f : FI) (s : State) : Outcome State Fault Refusal :=
  issueSet f.g (fun s =>
    let w := typeWidth (f.imm.toNat / 2 ^ 26)
    s.writeVec 1 f.d (broadcast w ((f.imm.setWidth 26).signExtend 64)) allBits 0#5) s

/-- VLIMM (R234): the literal to every 64-bit pair of lanes. -/
def execVlimm (f : FL) (lit : W64) (s : State) : Outcome State Fault Refusal :=
  issue f.g false true (fun s => .ok (.fall, s.writeVec 1 f.d (broadcast 64 lit) allBits 0#5)) s

/-! ### Landing -/

/-- X_RESULT_LANDING (R219, R382, R384): every entry that is due lands, in issue order; the flags of
each are ORed into sys.fpstat; the first late fault is raised.
Log 9: DESIGN CHOICE, safe. 37: DEDUCED, unsafe. -/
def execXResultLanding (core : Nat) (s : State) : Outcome State Fault Refusal :=
  let (s, t) := s.landDue core
  match t with
  | none => .next s
  | some t => .next (s.raiseAt core .x t)

end Sys2Proof.Machine
end

