-- ==== Sys2Proof/Machine/Dispatch.lean ====
section
/-! DEFINITION. The meaning of each instruction and event, one arm for each constructor of Instr. -/

namespace Sys2Proof.Machine

open Host (Outcome)

/-- What an instruction or event does: one direct call of its meaning. -/
def exec (i : Instr) (s : State) : Host.Outcome State Fault Refusal :=
  match i with
  | .add f => Sys2Proof.Machine.execAdd f s
  | .sub f => Sys2Proof.Machine.execSub f s
  | .mul f => Sys2Proof.Machine.execMul f s
  | .mulh f => Sys2Proof.Machine.execMulh f s
  | .mulhn f => Sys2Proof.Machine.execMulhn f s
  | .div f => Sys2Proof.Machine.execDiv f s
  | .divn f => Sys2Proof.Machine.execDivn f s
  | .rem f => Sys2Proof.Machine.execRem f s
  | .remn f => Sys2Proof.Machine.execRemn f s
  | .and f => Sys2Proof.Machine.execAnd f s
  | .or f => Sys2Proof.Machine.execOr f s
  | .xor f => Sys2Proof.Machine.execXor f s
  | .andn f => Sys2Proof.Machine.execAndn f s
  | .shl f => Sys2Proof.Machine.execShl f s
  | .shr f => Sys2Proof.Machine.execShr f s
  | .sra f => Sys2Proof.Machine.execSra f s
  | .rol f => Sys2Proof.Machine.execRol f s
  | .ror f => Sys2Proof.Machine.execRor f s
  | .min f => Sys2Proof.Machine.execMin f s
  | .max f => Sys2Proof.Machine.execMax f s
  | .minn f => Sys2Proof.Machine.execMinn f s
  | .maxn f => Sys2Proof.Machine.execMaxn f s
  | .cmpeq f => Sys2Proof.Machine.execCmpeq f s
  | .cmpne f => Sys2Proof.Machine.execCmpne f s
  | .cmplt f => Sys2Proof.Machine.execCmplt f s
  | .cmpltn f => Sys2Proof.Machine.execCmpltn f s
  | .cmple f => Sys2Proof.Machine.execCmple f s
  | .cmplen f => Sys2Proof.Machine.execCmplen f s
  | .clz f => Sys2Proof.Machine.execClz f s
  | .ctz f => Sys2Proof.Machine.execCtz f s
  | .popc f => Sys2Proof.Machine.execPopc f s
  | .addi f => Sys2Proof.Machine.execAddi f s
  | .muli f => Sys2Proof.Machine.execMuli f s
  | .andi f => Sys2Proof.Machine.execAndi f s
  | .ori f => Sys2Proof.Machine.execOri f s
  | .xori f => Sys2Proof.Machine.execXori f s
  | .shli f => Sys2Proof.Machine.execShli f s
  | .shri f => Sys2Proof.Machine.execShri f s
  | .srai f => Sys2Proof.Machine.execSrai f s
  | .cmpeqi f => Sys2Proof.Machine.execCmpeqi f s
  | .cmpnei f => Sys2Proof.Machine.execCmpnei f s
  | .cmplti f => Sys2Proof.Machine.execCmplti f s
  | .cmpltni f => Sys2Proof.Machine.execCmpltni f s
  | .extr f => Sys2Proof.Machine.execExtr f s
  | .extrs f => Sys2Proof.Machine.execExtrs f s
  | .limm f lit => Sys2Proof.Machine.execLimm f lit s
  | .uld f => Sys2Proof.Machine.execUld f s
  | .br f => Sys2Proof.Machine.execBr f s
  | .call f => Sys2Proof.Machine.execCall f s
  | .ret f => Sys2Proof.Machine.execRet f s
  | .loop f => Sys2Proof.Machine.execLoop f s
  | .start f => Sys2Proof.Machine.execStart f s
  | .spawn f => Sys2Proof.Machine.execSpawn f s
  | .yield f => Sys2Proof.Machine.execYield f s
  | .await f => Sys2Proof.Machine.execAwait f s
  | .exit f => Sys2Proof.Machine.execExit f s
  | .feed f => Sys2Proof.Machine.execFeed f s
  | .jpost f => Sys2Proof.Machine.execJpost f s
  | .remq f => Sys2Proof.Machine.execRemq f s
  | .wait f => Sys2Proof.Machine.execWait f s
  | .sigwait f => Sys2Proof.Machine.execSigwait f s
  | .gbar f => Sys2Proof.Machine.execGbar f s
  | .phase f => Sys2Proof.Machine.execPhase f s
  | .xlat f => Sys2Proof.Machine.execXlat f s
  | .refresh f => Sys2Proof.Machine.execRefresh f s
  | .tdrop f => Sys2Proof.Machine.execTdrop f s
  | .tqueryCtl f => Sys2Proof.Machine.execTqueryCtl f s
  | .tqueryVbase f => Sys2Proof.Machine.execTqueryVbase f s
  | .tqueryLen f => Sys2Proof.Machine.execTqueryLen f s
  | .tqueryCur f => Sys2Proof.Machine.execTqueryCur f s
  | .tqueryGet f => Sys2Proof.Machine.execTqueryGet f s
  | .tquerySet f => Sys2Proof.Machine.execTquerySet f s
  | .reqpg f => Sys2Proof.Machine.execReqpg f s
  | .fence f => Sys2Proof.Machine.execFence f s
  | .sigadd f => Sys2Proof.Machine.execSigadd f s
  | .sigset f => Sys2Proof.Machine.execSigset f s
  | .lds f => Sys2Proof.Machine.execLds f s
  | .sts f => Sys2Proof.Machine.execSts f s
  | .ldacq f => Sys2Proof.Machine.execLdacq f s
  | .strel f => Sys2Proof.Machine.execStrel f s
  | .wback f => Sys2Proof.Machine.execWback f s
  | .inval f => Sys2Proof.Machine.execInval f s
  | .discard f => Sys2Proof.Machine.execDiscard f s
  | .pref f => Sys2Proof.Machine.execPref f s
  | .aadd f => Sys2Proof.Machine.execAadd f s
  | .amin f => Sys2Proof.Machine.execAmin f s
  | .amax f => Sys2Proof.Machine.execAmax f s
  | .aminn f => Sys2Proof.Machine.execAminn f s
  | .amaxn f => Sys2Proof.Machine.execAmaxn f s
  | .aand f => Sys2Proof.Machine.execAand f s
  | .aor f => Sys2Proof.Machine.execAor f s
  | .axor f => Sys2Proof.Machine.execAxor f s
  | .aswap f => Sys2Proof.Machine.execAswap f s
  | .acas f => Sys2Proof.Machine.execAcas f s
  | .bnew f => Sys2Proof.Machine.execBnew f s
  | .bjoin f => Sys2Proof.Machine.execBjoin f s
  | .bseal f => Sys2Proof.Machine.execBseal f s
  | .babort f => Sys2Proof.Machine.execBabort f s
  | .bviewNow f => Sys2Proof.Machine.execBviewNow f s
  | .bviewSet f => Sys2Proof.Machine.execBviewSet f s
  | .bviewClr f => Sys2Proof.Machine.execBviewClr f s
  | .bcheck f => Sys2Proof.Machine.execBcheck f s
  | .bcheckCls f => Sys2Proof.Machine.execBcheckCls f s
  | .vld f => Sys2Proof.Machine.execVld f s
  | .vlds f => Sys2Proof.Machine.execVlds f s
  | .vldx f => Sys2Proof.Machine.execVldx f s
  | .ldb f => Sys2Proof.Machine.execLdb f s
  | .vst f => Sys2Proof.Machine.execVst f s
  | .vsts f => Sys2Proof.Machine.execVsts f s
  | .vstx f => Sys2Proof.Machine.execVstx f s
  | .lld f => Sys2Proof.Machine.execLld f s
  | .lst f => Sys2Proof.Machine.execLst f s
  | .vlld f => Sys2Proof.Machine.execVlld f s
  | .vlst f => Sys2Proof.Machine.execVlst f s
  | .lqput f => Sys2Proof.Machine.execLqput f s
  | .sqget f => Sys2Proof.Machine.execSqget f s
  | .tchk f => Sys2Proof.Machine.execTchk f s
  | .rprobe f => Sys2Proof.Machine.execRprobe f s
  | .sqdrop f => Sys2Proof.Machine.execSqdrop f s
  | .vadd f => Sys2Proof.Machine.execVadd f s
  | .vsub f => Sys2Proof.Machine.execVsub f s
  | .vmul f => Sys2Proof.Machine.execVmul f s
  | .vdiv f => Sys2Proof.Machine.execVdiv f s
  | .vsqrt f => Sys2Proof.Machine.execVsqrt f s
  | .vfma f => Sys2Proof.Machine.execVfma f s
  | .vfms f => Sys2Proof.Machine.execVfms f s
  | .vfnma f => Sys2Proof.Machine.execVfnma f s
  | .vfnms f => Sys2Proof.Machine.execVfnms f s
  | .vmin f => Sys2Proof.Machine.execVmin f s
  | .vmax f => Sys2Proof.Machine.execVmax f s
  | .vabs f => Sys2Proof.Machine.execVabs f s
  | .vneg f => Sys2Proof.Machine.execVneg f s
  | .vabd f => Sys2Proof.Machine.execVabd f s
  | .vrcp f => Sys2Proof.Machine.execVrcp f s
  | .vrsq f => Sys2Proof.Machine.execVrsq f s
  | .vexp2 f => Sys2Proof.Machine.execVexp2 f s
  | .vlog2 f => Sys2Proof.Machine.execVlog2 f s
  | .vsin f => Sys2Proof.Machine.execVsin f s
  | .vcos f => Sys2Proof.Machine.execVcos f s
  | .vtanh f => Sys2Proof.Machine.execVtanh f s
  | .vsigm f => Sys2Proof.Machine.execVsigm f s
  | .vscale f => Sys2Proof.Machine.execVscale f s
  | .vround f => Sys2Proof.Machine.execVround f s
  | .vclamp f => Sys2Proof.Machine.execVclamp f s
  | .vsgnj f => Sys2Proof.Machine.execVsgnj f s
  | .vclass f => Sys2Proof.Machine.execVclass f s
  | .vcvt f => Sys2Proof.Machine.execVcvt f s
  | .vdot f => Sys2Proof.Machine.execVdot f s
  | .vcmp f => Sys2Proof.Machine.execVcmp f s
  | .vpadd f => Sys2Proof.Machine.execVpadd f s
  | .vpack f => Sys2Proof.Machine.execVpack f s
  | .vunpack f => Sys2Proof.Machine.execVunpack f s
  | .vredsum f => Sys2Proof.Machine.execVredsum f s
  | .vredmax f => Sys2Proof.Machine.execVredmax f s
  | .vredmin f => Sys2Proof.Machine.execVredmin f s
  | .vredadd f => Sys2Proof.Machine.execVredadd f s
  | .vredand f => Sys2Proof.Machine.execVredand f s
  | .vredor f => Sys2Proof.Machine.execVredor f s
  | .vredxor f => Sys2Proof.Machine.execVredxor f s
  | .viadd f => Sys2Proof.Machine.execViadd f s
  | .visub f => Sys2Proof.Machine.execVisub f s
  | .vimul f => Sys2Proof.Machine.execVimul f s
  | .vimulh f => Sys2Proof.Machine.execVimulh f s
  | .vimac f => Sys2Proof.Machine.execVimac f s
  | .vand f => Sys2Proof.Machine.execVand f s
  | .vor f => Sys2Proof.Machine.execVor f s
  | .vxor f => Sys2Proof.Machine.execVxor f s
  | .vandn f => Sys2Proof.Machine.execVandn f s
  | .vshl f => Sys2Proof.Machine.execVshl f s
  | .vshr f => Sys2Proof.Machine.execVshr f s
  | .vsra f => Sys2Proof.Machine.execVsra f s
  | .vimin f => Sys2Proof.Machine.execVimin f s
  | .vimax f => Sys2Proof.Machine.execVimax f s
  | .viminn f => Sys2Proof.Machine.execViminn f s
  | .vimaxn f => Sys2Proof.Machine.execVimaxn f s
  | .vicmp f => Sys2Proof.Machine.execVicmp f s
  | .viabs f => Sys2Proof.Machine.execViabs f s
  | .vineg f => Sys2Proof.Machine.execVineg f s
  | .vpopc f => Sys2Proof.Machine.execVpopc f s
  | .vclz f => Sys2Proof.Machine.execVclz f s
  | .vsel f => Sys2Proof.Machine.execVsel f s
  | .vperm f => Sys2Proof.Machine.execVperm f s
  | .vshuf f => Sys2Proof.Machine.execVshuf f s
  | .vbcast f => Sys2Proof.Machine.execVbcast f s
  | .vmov f => Sys2Proof.Machine.execVmov f s
  | .vzip f => Sys2Proof.Machine.execVzip f s
  | .vunzip f => Sys2Proof.Machine.execVunzip f s
  | .vcompress f => Sys2Proof.Machine.execVcompress f s
  | .vexpand f => Sys2Proof.Machine.execVexpand f s
  | .vidx f => Sys2Proof.Machine.execVidx f s
  | .vpop f => Sys2Proof.Machine.execVpop f s
  | .vpush f => Sys2Proof.Machine.execVpush f s
  | .mand f => Sys2Proof.Machine.execMand f s
  | .mor f => Sys2Proof.Machine.execMor f s
  | .mxor f => Sys2Proof.Machine.execMxor f s
  | .mandn f => Sys2Proof.Machine.execMandn f s
  | .mnot f => Sys2Proof.Machine.execMnot f s
  | .mmov f => Sys2Proof.Machine.execMmov f s
  | .mset f => Sys2Proof.Machine.execMset f s
  | .mget f => Sys2Proof.Machine.execMget f s
  | .mcnt f => Sys2Proof.Machine.execMcnt f s
  | .ckacc f => Sys2Proof.Machine.execCkacc f s
  | .ckchk f => Sys2Proof.Machine.execCkchk f s
  | .ckclr f => Sys2Proof.Machine.execCkclr f s
  | .ckget f => Sys2Proof.Machine.execCkget f s
  | .mfirst f => Sys2Proof.Machine.execMfirst f s
  | .viaddi f => Sys2Proof.Machine.execViaddi f s
  | .vshli f => Sys2Proof.Machine.execVshli f s
  | .vshri f => Sys2Proof.Machine.execVshri f s
  | .vsrai f => Sys2Proof.Machine.execVsrai f s
  | .vext f => Sys2Proof.Machine.execVext f s
  | .vins f => Sys2Proof.Machine.execVins f s
  | .vslide f => Sys2Proof.Machine.execVslide f s
  | .vimm f => Sys2Proof.Machine.execVimm f s
  | .vlimm f lit => Sys2Proof.Machine.execVlimm f lit s
  | .revoke f => Sys2Proof.Machine.execRevoke f s
  | .grant f => Sys2Proof.Machine.execGrant f s
  | .tsweep f => Sys2Proof.Machine.execTsweep f s
  | .tcflush f => Sys2Proof.Machine.execTcflush f s
  | .pgclass f => Sys2Proof.Machine.execPgclass f s
  | .ckpt f => Sys2Proof.Machine.execCkpt f s
  | .ckroll f => Sys2Proof.Machine.execCkroll f s
  | .roleset f => Sys2Proof.Machine.execRoleset f s
  | .csrr f => Sys2Proof.Machine.execCsrr f s
  | .csrw f => Sys2Proof.Machine.execCsrw f s
  | .syscall f => Sys2Proof.Machine.execSyscall f s
  | .tret f => Sys2Proof.Machine.execTret f s
  | .halt f => Sys2Proof.Machine.execHalt f s
  | .ctxsaveKeep f => Sys2Proof.Machine.execCtxsaveKeep f s
  | .ctxsaveDrop f => Sys2Proof.Machine.execCtxsaveDrop f s
  | .ctxload f => Sys2Proof.Machine.execCtxload f s
  | .ctxloadEvict f => Sys2Proof.Machine.execCtxloadEvict f s
  | .stest f => Sys2Proof.Machine.execStest f s
  | .shelfput f => Sys2Proof.Machine.execShelfput f s
  | .lineFetch core str => Sys2Proof.Machine.execLineFetch core str s
  | .launchRecord die ctx src => Sys2Proof.Machine.execLaunchRecord die ctx src s
  | .benchWaitEnd die => Sys2Proof.Machine.execBenchWaitEnd die s
  | .poolSlotWaitEnd die => Sys2Proof.Machine.execPoolSlotWaitEnd die s
  | .feedAppend die ctx src => Sys2Proof.Machine.execFeedAppend die ctx src s
  | .feedWake core => Sys2Proof.Machine.execFeedWake core s
  | .fabricLaunch die p => Sys2Proof.Machine.execFabricLaunch die p s
  | .residencyRequest die p => Sys2Proof.Machine.execResidencyRequest die p s
  | .pickup core => Sys2Proof.Machine.execPickup core s
  | .effectiveLevelRise die => Sys2Proof.Machine.execEffectiveLevelRise die s
  | .spawnReady die slot => Sys2Proof.Machine.execSpawnReady die slot s
  | .waiterWake die slot => Sys2Proof.Machine.execWaiterWake die slot s
  | .remqUnblock die slot => Sys2Proof.Machine.execRemqUnblock die slot s
  | .phaseCountArrival dst src group value => Sys2Proof.Machine.execPhaseCountArrival dst src group value s
  | .barrierCountArrival dst src group value => Sys2Proof.Machine.execBarrierCountArrival dst src group value s
  | .jobDispatch core matrix => Sys2Proof.Machine.execJobDispatch core matrix s
  | .shareGrant die => Sys2Proof.Machine.execShareGrant die s
  | .shareWaitExpiry core slot => Sys2Proof.Machine.execShareWaitExpiry core slot s
  | .jobCompletion core slot => Sys2Proof.Machine.execJobCompletion core slot s
  | .signalUpdateAck core slot => Sys2Proof.Machine.execSignalUpdateAck core slot s
  | .shadowLoad core => Sys2Proof.Machine.execShadowLoad core s
  | .planeSwap core => Sys2Proof.Machine.execPlaneSwap core s
  | .matrixPass core => Sys2Proof.Machine.execMatrixPass core s
  | .retirement core => Sys2Proof.Machine.execRetirement core s
  | .copyLine core => Sys2Proof.Machine.execCopyLine core s
  | .copyLineComplete core => Sys2Proof.Machine.execCopyLineComplete core s
  | .reduceContribution c => Sys2Proof.Machine.execReduceContribution c s
  | .mcastMemberWrite core m => Sys2Proof.Machine.execMcastMemberWrite core m s
  | .tableFreeze die slot lens => Sys2Proof.Machine.execTableFreeze die slot lens s
  | .requestPerform core str => Sys2Proof.Machine.execRequestPerform core str s
  | .xResultLanding core => Sys2Proof.Machine.execXResultLanding core s
  | .translationComplete core => Sys2Proof.Machine.execTranslationComplete core s
  | .shootDown core ctx index => Sys2Proof.Machine.execShootDown core ctx index s
  | .drainComplete ctx index => Sys2Proof.Machine.execDrainComplete ctx index s
  | .pinRequest p => Sys2Proof.Machine.execPinRequest p s
  | .unpinRequest p => Sys2Proof.Machine.execUnpinRequest p s
  | .tierMove frame size dest => Sys2Proof.Machine.execTierMove frame size dest s
  | .migrationLineCopy page size peer dest => Sys2Proof.Machine.execMigrationLineCopy page size peer dest s
  | .migrationRetry p => Sys2Proof.Machine.execMigrationRetry p s
  | .rds core line => Sys2Proof.Machine.execRds core line s
  | .rdx core line => Sys2Proof.Machine.execRdx core line s
  | .upg core line => Sys2Proof.Machine.execUpg core line s
  | .wb core line => Sys2Proof.Machine.execWb core line s
  | .drop core line => Sys2Proof.Machine.execDrop core line s
  | .snoop core line inv => Sys2Proof.Machine.execSnoop core line inv s
  | .readPacket p => Sys2Proof.Machine.execReadPacket p s
  | .writePacket p => Sys2Proof.Machine.execWritePacket p s
  | .atomicPacket p => Sys2Proof.Machine.execAtomicPacket p s
  | .signalUpdatePacket p => Sys2Proof.Machine.execSignalUpdatePacket p s
  | .replyPacket p => Sys2Proof.Machine.execReplyPacket p s
  | .commitNotice name stamp => Sys2Proof.Machine.execCommitNotice name stamp s
  | .stampRequest peer name => Sys2Proof.Machine.execStampRequest peer name s
  | .stampReceived name stamp => Sys2Proof.Machine.execStampReceived name stamp s
  | .bundleRecordRequest p => Sys2Proof.Machine.execBundleRecordRequest p s
  | .recordFree index => Sys2Proof.Machine.execRecordFree index s
  | .managementPacket p => Sys2Proof.Machine.execManagementPacket p s
  | .drainMarker die link rq => Sys2Proof.Machine.execDrainMarker die link rq s
  | .packetForward p => Sys2Proof.Machine.execPacketForward p s
  | .retransmission peer die id => Sys2Proof.Machine.execRetransmission peer die id s
  | .requestUnresolved peer die id => Sys2Proof.Machine.execRequestUnresolved peer die id s
  | .dataFlit die link flit side => Sys2Proof.Machine.execDataFlit die link flit side s
  | .replay die link seq => Sys2Proof.Machine.execReplay die link seq s
  | .controlFlit die link flit => Sys2Proof.Machine.execControlFlit die link flit s
  | .freedRefresh peer rq => Sys2Proof.Machine.execFreedRefresh peer rq s
  | .linkOutOfService die link => Sys2Proof.Machine.execLinkOutOfService die link s
  | .errorWindowEnd die link wave errs => Sys2Proof.Machine.execErrorWindowEnd die link wave errs s
  | .flitBoundarySwitch die link wave => Sys2Proof.Machine.execFlitBoundarySwitch die link wave s
  | .trainingSuccess die link wave far => Sys2Proof.Machine.execTrainingSuccess die link wave far s
  | .trainingAttemptFail die link wave => Sys2Proof.Machine.execTrainingAttemptFail die link wave s
  | .reconfigureFabric c => Sys2Proof.Machine.execReconfigureFabric c s
  | .reconfigHold => Sys2Proof.Machine.execReconfigHold s
  | .reconfigDrain => Sys2Proof.Machine.execReconfigDrain s
  | .reconfigDark => Sys2Proof.Machine.execReconfigDark s
  | .reconfigRelock => Sys2Proof.Machine.execReconfigRelock s
  | .relockTimeout => Sys2Proof.Machine.execRelockTimeout s
  | .reconfigRoutes plan => Sys2Proof.Machine.execReconfigRoutes plan s
  | .reconfigRun => Sys2Proof.Machine.execReconfigRun s
  | .trapDelivery core => Sys2Proof.Machine.execTrapDelivery core s
  | .preemption core pa release => Sys2Proof.Machine.execPreemption core pa release s
  | .selfTest kind index outcome => Sys2Proof.Machine.execSelfTest kind index outcome s
  | .powerLimitChange sizes => Sys2Proof.Machine.execPowerLimitChange sizes s
  | .bootStep number ok stamp => Sys2Proof.Machine.execBootStep number ok stamp s
  | .heartbeat => Sys2Proof.Machine.execHeartbeat s
  | .createContext c => Sys2Proof.Machine.execCreateContext c s
  | .destroyContext c => Sys2Proof.Machine.execDestroyContext c s
  | .installKey c key => Sys2Proof.Machine.execInstallKey c key s
  | .removeKey c => Sys2Proof.Machine.execRemoveKey c s
  | .loadCompressionTable c => Sys2Proof.Machine.execLoadCompressionTable c s
  | .mapQueue c => Sys2Proof.Machine.execMapQueue c s
  | .parkQueue c => Sys2Proof.Machine.execParkQueue c s
  | .unmapQueue c => Sys2Proof.Machine.execUnmapQueue c s
  | .queueParkComplete queue => Sys2Proof.Machine.execQueueParkComplete queue s
  | .writeRouteEntry c => Sys2Proof.Machine.execWriteRouteEntry c s
  | .attestationReport c => Sys2Proof.Machine.execAttestationReport c s
  | .resetRungQueue queue => Sys2Proof.Machine.execResetRungQueue queue s
  | .resetRungContext ctx => Sys2Proof.Machine.execResetRungContext ctx s
  | .resetRungDie die => Sys2Proof.Machine.execResetRungDie die s
  | .resetRungModule => Sys2Proof.Machine.execResetRungModule s
  | .setContextRegister c => Sys2Proof.Machine.execSetContextRegister c s
  | .bindSignalWord c => Sys2Proof.Machine.execBindSignalWord c s
  | .registerNoticeWord c => Sys2Proof.Machine.execRegisterNoticeWord c s
  | .wakeRegisterWrite queue => Sys2Proof.Machine.execWakeRegisterWrite queue s
  | .threadWake queue => Sys2Proof.Machine.execThreadWake queue s
  | .deviceRegisterWrite addr value => Sys2Proof.Machine.execDeviceRegisterWrite addr value s
  | .tdiConfigWrite tdi => Sys2Proof.Machine.execTdiConfigWrite tdi s
  | .unassignedOpcode order => Sys2Proof.Machine.execUnassignedOpcode order s
  | .coreRelease core => Sys2Proof.Machine.execCoreRelease core s
  | .tdispRequest tdi msg => Sys2Proof.Machine.execTdispRequest tdi msg s
  | .hostPortRequest r => Sys2Proof.Machine.execHostPortRequest r s
  | .resamplingInterval die slot => Sys2Proof.Machine.execResamplingInterval die slot s

end Sys2Proof.Machine
end

