-- ==== Sys2Proof/Machine/Events.lean ====
section
/-! DEFINITION. The events that are due: each calls the meaning of its row. -/

namespace Sys2Proof.Machine

open Host (Outcome)

/-- The event happens.
Log 9: DESIGN CHOICE, safe. -/
def Event.run (e : Event) (s : State) : Outcome State Fault Refusal :=
  match e with
  | .lineFetch core str => execLineFetch core str s
  | .launchRecord die ctx src => execLaunchRecord die ctx src s
  | .benchWaitEnd die => execBenchWaitEnd die s
  | .poolSlotWaitEnd die => execPoolSlotWaitEnd die s
  | .feedAppend die ctx src => execFeedAppend die ctx src s
  | .feedWake core => execFeedWake core s
  | .fabricLaunch die p => execFabricLaunch die p s
  | .residencyRequest die p => execResidencyRequest die p s
  | .pickup core => execPickup core s
  | .effectiveLevelRise die => execEffectiveLevelRise die s
  | .spawnReady die slot => execSpawnReady die slot s
  | .waiterWake die slot => execWaiterWake die slot s
  | .remqUnblock die slot => execRemqUnblock die slot s
  | .phaseCountArrival dst src group value => execPhaseCountArrival dst src group value s
  | .barrierCountArrival dst src group value => execBarrierCountArrival dst src group value s
  | .jobDispatch core matrix => execJobDispatch core matrix s
  | .shareGrant die => execShareGrant die s
  | .shareWaitExpiry core slot => execShareWaitExpiry core slot s
  | .jobCompletion core slot => execJobCompletion core slot s
  | .signalUpdateAck core slot => execSignalUpdateAck core slot s
  | .shadowLoad core => execShadowLoad core s
  | .planeSwap core => execPlaneSwap core s
  | .matrixPass core => execMatrixPass core s
  | .retirement core => execRetirement core s
  | .copyLine core => execCopyLine core s
  | .copyLineComplete core => execCopyLineComplete core s
  | .reduceContribution c => execReduceContribution c s
  | .mcastMemberWrite core m => execMcastMemberWrite core m s
  | .tableFreeze die slot lens => execTableFreeze die slot lens s
  | .requestPerform core str => execRequestPerform core str s
  | .xResultLanding core => execXResultLanding core s
  | .translationComplete core => execTranslationComplete core s
  | .shootDown core ctx index => execShootDown core ctx index s
  | .drainComplete ctx index => execDrainComplete ctx index s
  | .pinRequest p => execPinRequest p s
  | .unpinRequest p => execUnpinRequest p s
  | .tierMove frame size dest => execTierMove frame size dest s
  | .migrationLineCopy page size peer dest => execMigrationLineCopy page size peer dest s
  | .migrationRetry p => execMigrationRetry p s
  | .rds core line => execRds core line s
  | .rdx core line => execRdx core line s
  | .upg core line => execUpg core line s
  | .wb core line => execWb core line s
  | .drop core line => execDrop core line s
  | .snoop core line inv => execSnoop core line inv s
  | .readPacket p => execReadPacket p s
  | .writePacket p => execWritePacket p s
  | .atomicPacket p => execAtomicPacket p s
  | .signalUpdatePacket p => execSignalUpdatePacket p s
  | .replyPacket p => execReplyPacket p s
  | .commitNotice name stamp => execCommitNotice name stamp s
  | .stampRequest peer name => execStampRequest peer name s
  | .stampReceived name stamp => execStampReceived name stamp s
  | .bundleRecordRequest p => execBundleRecordRequest p s
  | .recordFree index => execRecordFree index s
  | .managementPacket p => execManagementPacket p s
  | .drainMarker die link rq => execDrainMarker die link rq s
  | .packetForward p => execPacketForward p s
  | .retransmission peer die id => execRetransmission peer die id s
  | .requestUnresolved peer die id => execRequestUnresolved peer die id s
  | .dataFlit die link flit side => execDataFlit die link flit side s
  | .replay die link seq => execReplay die link seq s
  | .controlFlit die link flit => execControlFlit die link flit s
  | .freedRefresh peer rq => execFreedRefresh peer rq s
  | .linkOutOfService die link => execLinkOutOfService die link s
  | .errorWindowEnd die link wave errs => execErrorWindowEnd die link wave errs s
  | .flitBoundarySwitch die link wave => execFlitBoundarySwitch die link wave s
  | .trainingSuccess die link wave far => execTrainingSuccess die link wave far s
  | .trainingAttemptFail die link wave => execTrainingAttemptFail die link wave s
  | .reconfigureFabric c => execReconfigureFabric c s
  | .reconfigHold => execReconfigHold s
  | .reconfigDrain => execReconfigDrain s
  | .reconfigDark => execReconfigDark s
  | .reconfigRelock => execReconfigRelock s
  | .relockTimeout => execRelockTimeout s
  | .reconfigRoutes plan => execReconfigRoutes plan s
  | .reconfigRun => execReconfigRun s
  | .trapDelivery core => execTrapDelivery core s
  | .preemption core pa release => execPreemption core pa release s
  | .selfTest kind index outcome => execSelfTest kind index outcome s
  | .powerLimitChange sizes => execPowerLimitChange sizes s
  | .bootStep number ok stamp => execBootStep number ok stamp s
  | .heartbeat => execHeartbeat s
  | .createContext c => execCreateContext c s
  | .destroyContext c => execDestroyContext c s
  | .installKey c key => execInstallKey c key s
  | .removeKey c => execRemoveKey c s
  | .loadCompressionTable c => execLoadCompressionTable c s
  | .mapQueue c => execMapQueue c s
  | .parkQueue c => execParkQueue c s
  | .unmapQueue c => execUnmapQueue c s
  | .queueParkComplete queue => execQueueParkComplete queue s
  | .writeRouteEntry c => execWriteRouteEntry c s
  | .attestationReport c => execAttestationReport c s
  | .resetRungQueue queue => execResetRungQueue queue s
  | .resetRungContext ctx => execResetRungContext ctx s
  | .resetRungDie die => execResetRungDie die s
  | .resetRungModule => execResetRungModule s
  | .setContextRegister c => execSetContextRegister c s
  | .bindSignalWord c => execBindSignalWord c s
  | .registerNoticeWord c => execRegisterNoticeWord c s
  | .wakeRegisterWrite queue => execWakeRegisterWrite queue s
  | .threadWake queue => execThreadWake queue s
  | .deviceRegisterWrite addr value => execDeviceRegisterWrite addr value s
  | .tdiConfigWrite tdi => execTdiConfigWrite tdi s
  | .unassignedOpcode order => execUnassignedOpcode order s
  | .coreRelease core => execCoreRelease core s
  | .tdispRequest tdi msg => execTdispRequest tdi msg s
  | .hostPortRequest r => execHostPortRequest r s
  | .resamplingInterval die slot => execResamplingInterval die slot s
  | .correction kind index => execCorrection kind index s
  | .uncorrectable kind index grain => execUncorrectable kind index grain s

end Sys2Proof.Machine
end

