-- ==== Sys2Proof/Machine/Step.lean ====
section
/-! DEFINITION. One step of the module: an event that is due happens, or the next stream in the order of
issue has its turn. Events and turns alternate, so neither keeps the other waiting. -/

namespace Sys2Proof.Machine

open Host (Outcome)

/-- The stream that has its turn and what it does.
Log 3: DESIGN CHOICE, unsafe. -/
def State.takeTurn (s : State) : Outcome State Fault Refusal :=
  match s.turnOf with
  | .idle => .next s
  | .land => execXResultLanding s.core s
  | .fetch => execLineFetch s.core s.str s
  | .badPc => .next s.badPc
  | .illegal k => execUnassignedOpcode k s
  | .run i => match exec i s with
    | .next t => .next (State.afterIssue i s t)
    | o => o

/-- One step: a cycle passes, and an event happens or a stream has its turn.
Log 3: DESIGN CHOICE, unsafe. -/
def step (s : State) : Outcome State Fault Refusal :=
  let s := { s with time := s.time + 1 }
  match s.evTurn, s.events, s.turn with
  | _, [], [] => .next s
  | true, e :: es, _ => e.run { s with events := es, evTurn := false }
  | false, e :: es, [] => e.run { s with events := es }
  | false, _, p :: ps => State.takeTurn { s with turn := ps ++ [p], core := p.1, str := p.2, evTurn := true }
  | true, [], p :: ps => State.takeTurn { s with turn := ps ++ [p], core := p.1, str := p.2 }

/-- The streams in which an opcode is legal: the first of C, A and X.
Log 7: DESIGN CHOICE, unsafe. -/
def streamFor (w : W64) : Stream :=
  if opcodeStream (opcodeOf w) .c then .c else if opcodeStream (opcodeOf w) .a then .a else .x

/-- The state in which the next step issues the instruction whose bits are `w` (its word in bits [63:0], its
literal slot in bits [127:64]): core 0 runs a continuation of context 0 at supervisor level, and the stream
in which the opcode is legal stands at slot 0 of a line that holds it.
Log 7: DESIGN CHOICE, unsafe. -/
def State.withFetchWord (s : State) (_nbits w : Nat) : State :=
  let word := BitVec.ofNat 64 w
  let lit := BitVec.ofNat 64 (w / 2 ^ 64)
  let st := streamFor word
  let header : Nat := if takesLiteral word then 2 ^ 19 else 0
  let line : BitVec 512 := BitVec.ofNat 512
    (streamCode st * 2 ^ 29 + header * 2 ^ 32 + word.toNat * 2 ^ 64 + lit.toNat * 2 ^ 128)
  let v : StreamState := { StreamState.reset with started := true, pc := 8, line := some line }
  let s := s.modCtx 0 fun c => { c with live := true, sup := true }
  let s := s.modCore 0 fun c => { c.setStream st v with mode := .running }
  { s with events := [], turn := [(0, st)], evTurn := false }

end Sys2Proof.Machine
end

