-- ==== Sys2Proof/Safety.lean ====
section
/-! DEFINITION. What counts as a safe state of the module, and what it means that an instruction completes: the
terms in which the statements are written. -/

namespace Sys2Proof

open Machine
open Host (Outcome)

/-! ### What every step keeps -/

/-- Memory, and the host's memory, are in canonical form. -/
def memoryWf (s : State) : Prop := Memory.wf s.mem = true ∧ Memory.wf s.hostMem = true

/-- Memory is in canonical form, and the tables of cores, dies and contexts have ascending keys. -/
def tidy (s : State) : Prop :=
  memoryWf s ∧ SMap.sorted s.cores = true ∧ SMap.sorted s.dies = true ∧ SMap.sorted s.ctxs = true

/-! ### Reading memory -/

/-- The byte at a physical address as its home serves it. -/
def byteAt (s : State) (a : Nat) : Nat := lineBytes (s.homeLine (lineNo a)) (a % 128) 1

/-- Every byte of memory, and every byte of every core's local memory, is as it was. -/
def memorySame (s t : State) : Prop :=
  (∀ a, Memory.read t.mem a = Memory.read s.mem a) ∧
    ∀ n a, Memory.read (t.coreAt n).localMem a = Memory.read (s.coreAt n).localMem a

/-! ### Turns -/

/-- The state in which a stream has its turn: a cycle has passed, and the stream is the last in the order of issue. -/
def turnState (s : State) (n : Nat) (st : Stream) (rest : List (Nat × Stream)) : State :=
  { s with time := s.time + 1, turn := rest ++ [(n, st)], core := n, str := st, evTurn := true }

/-- The issuing stream waits for nothing: its core runs and is not frozen (R385, R373, R409), C awaits no answer, A and X
have no trap to wait for, A has no stopped request (R191), and no result of X is due to land (R221). -/
def awake (s : State) : Prop :=
  let c := s.cur
  c.mode = .running ∧ s.tdiStopped c.ctx = false ∧ c.saving = none ∧ (c.stream s.str).awaiting = none ∧
    (s.str = .c → c.cwait = .none ∧ ∀ p ∈ s.homes.feedSleepers, p.1 ≠ s.core) ∧
    (s.str ≠ .c → c.cont.th = false ∧ c.firstPending = none) ∧
    (s.str = .a → c.stoppedA = false) ∧
    (s.str = .x → ∀ f ∈ c.inflight, f.remaining ≠ 0)

/-- The issuing stream stands at a slot that it may issue: it waits for nothing. -/
def mayIssue (s : State) : Prop :=
  awake s ∧ (s.cur.stream s.str).fell = false ∧ namesSlot (s.cur.stream s.str).pc = true

/-- The forms that need supervisor level, by opcode (R130). -/
def supervisorForm (w : W64) : Bool :=
  (0xD0 ≤ opcodeOf w && opcodeOf w ≤ 0xD6) || (0xDC ≤ opcodeOf w && opcodeOf w ≤ 0xE0)

/-- Every HC line is coherent (R309, R312): a copy in a CACHE holds what the line's home serves; one in M or E is the
only copy, and beside one in O every other is in S. No line is held in two classes. -/
def coherent (s : State) : Prop :=
  (∀ n l e, SMap.find (s.coreAt n).lines l = some e → e.cls = 0 →
    e.data = s.homeLine l ∧ e.poison = s.homePoison l ∧
    (e.state = .m ∨ e.state = .e → ∀ m, m ≠ n → SMap.find (s.coreAt m).lines l = none) ∧
    (e.state = .o → ∀ m d, m ≠ n → SMap.find (s.coreAt m).lines l = some d → d.state = .s)) ∧
  ∀ n m l e d, SMap.find (s.coreAt n).lines l = some e → SMap.find (s.coreAt m).lines l = some d →
    (e.cls = 0 ↔ d.cls = 0)

/-- A part of an access that lies in ordinary memory of this module: in a frame, outside bundle pages, at an address
that has memory, in one line, of a page that has not moved; its line is held in no other class than its page's. -/
def plainPart (s : State) (g : Seg) : Prop :=
  g.frame.hole = false ∧ g.frame.bundle = false ∧ s.isRemote g.frame = false ∧ isMapped g.addr = true ∧
    g.lineOff + g.len ≤ 128 ∧ s.movedPart g = false ∧
    ∀ n e, SMap.find (s.coreAt n).lines (lineNo g.addr) = some e → (e.cls = 0 ↔ g.frame.cls = 0)

/-- The issuing core keeps what it stores to this page in its CACHE until it writes the line back (R307): a page of class SC or
CP, cached, without `.na`; a line of a CP page only while no other core holds a copy of it (R306).
Log 25: DEDUCED, unsafe. -/
def heldBack (s : State) (op : MemOp) (g : Seg) : Prop :=
  g.frame.cls ≠ 0 ∧ g.frame.mode ≠ 1 ∧ g.frame.mode ≠ 3 ∧ s.cur.hasCache = true ∧ op.na = false ∧
    (g.frame.cls = 2 → (SMap.find s.cur.lines (lineNo g.addr)).isSome = true ∨ s.cpElsewhere s.core (lineNo g.addr) = false)

/-- A byte of memory is as it was, or lies in a line of an SC or CP page that the issuing core held dirty: such a line
may have been written back to make room (R186). -/
def byteKept (s t : State) (a : Nat) : Prop :=
  byteAt t a = byteAt s a ∨ ∃ e, SMap.find s.cur.lines (lineNo a) = some e ∧ e.cls ≠ 0 ∧ e.dirty ≠ 0

/-- A core's token cache takes a copy of entry `i` of a context without another going, whose stored bytes would go with it
(R171, R173). -/
def keepsEntries (c : Core) (ctx i : Nat) : Prop := (c.tcache.filter fun p => p.1 ≠ (ctx, i)).length < 64

/-- A byte of memory as its home will hold it once the issuing core's stored bytes of an SC or CP line have reached it (R338). -/
def pushedByte (s : State) (a : Nat) : Nat :=
  match SMap.find s.cur.lines (lineNo a) with
  | some e => if e.cls ≠ 0 ∧ e.dirty.getLsbD (a % 128) = true then lineBytes e.data (a % 128) 1 else byteAt s a
  | none => byteAt s a

/-- The word of `size` bytes at an address, as its home will hold it then, is `v`, without poison. -/
def pushedWord (s : State) (a size v : Nat) : Prop :=
  v < 2 ^ (8 * size) ∧ (∀ k, k < size → v / 256 ^ k % 256 = pushedByte s (a + k)) ∧ s.homePoison (lineNo a) = 0 ∧
    ∀ e, SMap.find s.cur.lines (lineNo a) = some e → e.poison = 0

/-- No stall in which C has frozen is one of an operation on an entry (R373). -/
def frozenElsewhere (c : Core) : Prop :=
  ∀ z ∈ c.frozen, match z.wait with
    | .none | .translation _ _ _ _ _ _ _ _ _ _ | .drain _ _ _ _ => False
    | _ => True

/-! ### Frames -/

/-- Nothing differs but the core that issues. -/
def onlyCore (s t : State) : Prop :=
  t = { s with cores := t.cores } ∧ ∀ n, n ≠ s.core → t.coreAt n = s.coreAt n

/-- In the core that issues, only its scalar files, its streams and the poison of its registers differ. -/
def onlyScalars (c d : Core) : Prop :=
  d = { c with x := d.x, a := d.a, e := d.e, sc := d.sc, sa := d.sa, sx := d.sx, regPoison := d.regPoison }

/-- The issuing stream has gone on to the next slot, and the other streams have not moved. -/
def movedOn (s t : State) (lit : Bool) : Prop :=
  t.cur.stream s.str = (s.cur.stream s.str).advance lit ∧ ∀ u, u ≠ s.str → t.cur.stream u = s.cur.stream u

/-- The registers and queues of a core are as they were, but for the scalar file of C or A, the stream that issues. -/
def registersKept (st : Stream) (c d : Core) : Prop :=
  (st ≠ .c → d.x = c.x) ∧ (st ≠ .a → d.a = c.a) ∧ d.e = c.e ∧ d.k = c.k ∧ d.v = c.v ∧ d.m = c.m ∧ d.ck = c.ck ∧ d.cont = c.cont ∧ d.lq = c.lq ∧ d.sq = c.sq ∧
    d.inflight = c.inflight ∧ d.reqs = c.reqs ∧ d.jobs = c.jobs ∧ d.localMem = c.localMem

/-- A memory form of C or A completes: `d` holds `v` where the form writes one, the stream has gone on to the next slot, and
no other register, queue or job of the core has changed. -/
def memoryDone (s t : State) (d : Option (Nat × W64)) : Prop :=
  (∀ r, t.cur.scalar s.str r = match d with
    | some (n, v) => if r = n ∧ n ≠ 0 then v else s.cur.scalar s.str r
    | none => s.cur.scalar s.str r) ∧
    registersKept s.str s.cur t.cur ∧ movedOn s t false ∧ t.turn = s.turn ∧ t.core = s.core ∧ t.str = s.str

/-- S register `d` of the issuing stream holds `v`, unless it is register 0; every other scalar register is as it
was. -/
def onlyRegister (s t : State) (d : Nat) (v : W64) : Prop :=
  (∀ r, t.cur.scalar s.str r = if r = d ∧ d ≠ 0 then v else s.cur.scalar s.str r) ∧
    ∀ u, u ≠ s.str → ∀ r, t.cur.scalar u r = s.cur.scalar u r

/-- A C or A instruction completes with `v` in S register `d`, and does nothing else. -/
def writesScalar (o : Outcome State Fault Refusal) (s : State) (lit : Bool) (d : Nat) (v : W64) : Prop :=
  ∃ t, o = .next t ∧ onlyCore s t ∧ onlyScalars s.cur t.cur ∧ onlyRegister s t d v ∧ movedOn s t lit ∧ memorySame s t

/-- An X instruction issues with the result `f` in flight, and does nothing else: one cycle of it has passed. -/
def entersFlight (o : Outcome State Fault Refusal) (s : State) (lit : Bool) (f : InFlight) : Prop :=
  ∃ t, o = .next t ∧ onlyCore s t ∧ t.cur = { s.cur with inflight := t.cur.inflight, sx := t.cur.sx } ∧
    t.cur.inflight = tick (s.cur.inflight ++ [f]) ∧ movedOn s t lit ∧ memorySame s t

/-- The issuing stream has gone to `t`, a slot; a cycle of X has passed when it is X. -/
def transferred (s : State) (t : W64) : State := (s.modCur fun c => c.modStream s.str fun v => v.jump t).tickIf

/-- Nothing that the issuing stream has outstanding stands before the request `r` that it issues now, whose parts are `l`
(R291 to R294, R300). In A no earlier request may go on first, and no fence is left that orders nothing. -/
def unhindered (s : State) (op : MemOp) (r : Req) (l : List Seg) : Prop :=
  match s.str with
  | .a => (∀ q ∈ s.cur.reqs, s.standsBefore s.core q r = false) ∧ s.ready s.core .a = [] ∧
      pruneFences s.cur.reqs = s.cur.reqs
  | _ => ∀ q ∈ s.cur.reqs, s.standsBefore s.core q
      { r with checked := true, tokIndex := tokIndex (s.cur.tok op.k), segs := l } = false

/-- The elements that a vector form of A moves (R209, R210): their size in bytes, which of them are enabled, and their
offsets. -/
def vectorElems (r : Req) : Option (Nat × (Nat → Bool) × (Nat → Nat)) :=
  let line : FM → (Nat → Bool) → Nat × (Nat → Bool) × (Nat → Nat) := fun f en =>
    (2 ^ f.sz.toNat, en, fun j => memOffset r.base f.off.toInt 256 + j * 2 ^ f.sz.toNat)
  let strided : FX → (Nat → Bool) → Nat × (Nat → Bool) × (Nat → Nat) := fun f en =>
    (2 ^ f.sz.toNat, en, fun j =>
      (((memOffset r.base f.off.toInt (2 ^ f.sz.toNat) : Int) + j * r.xval.toInt) % 2 ^ 64).toNat)
  let indexed : FX → (Nat → Bool) → Nat × (Nat → Bool) × (Nat → Nat) := fun f en =>
    (2 ^ f.sz.toNat, en, fun j =>
      memOffset r.base f.off.toInt (2 ^ f.sz.toNat) + elem 32 r.index.data (if f.sz = 3 then 2 * j else j) * 2 ^ f.sz.toNat)
  let lane : W64 → Nat → Nat → Bool := fun m size j => m.getLsbD (size * j / 4)
  match r.instr with
  | .vld f => some (line f fun _ => true)
  | .vlds f => some (strided f fun _ => true)
  | .vldx f => some (indexed f (lane r.index.enable (2 ^ f.sz.toNat)))
  | .vst f => some (line f (lane r.data.enable (2 ^ f.sz.toNat)))
  | .vsts f => some (strided f (lane r.data.enable (2 ^ f.sz.toNat)))
  | .vstx f => some (indexed f fun j => lane r.data.enable (2 ^ f.sz.toNat) j && lane r.index.enable (2 ^ f.sz.toNat) j)
  | _ => none

/-- A trap of a stream that can be delivered to the handler of core `n` at once (R373, R379): no handler runs, nothing else of
the core is due to trap, and the trap is not escalated. -/
def deliverable (s : State) (n : Nat) (st : Stream) (code : CauseCode) : Prop :=
  let c := s.coreAt n
  c.cont.th = false ∧ c.saving = none ∧ c.inside = none ∧ c.mode = .running ∧ (∀ t, (c.stream t).fell = false) ∧
    (∀ f ∈ c.inflight, f.remaining ≠ 0) ∧ s.residualOf n = none ∧ s.escalates n st false code = false

/-- An instruction that suspends its continuation may issue (R102, R154, R325): no handler runs, A and X are quiescent,
every queue is empty, no bundle is bound, and C has no load or store outstanding. -/
def maySuspend (s : State) : Prop :=
  let c := s.cur
  c.cont.th = false ∧ c.quiescent .a = true ∧ c.quiescent .x = true ∧ (∀ q, q < 4 → c.loadQ q = []) ∧
    (∀ q, q < 2 → c.storeQ q = []) ∧ c.binds = [] ∧ c.loads .c = 0 ∧ c.stores .c = 0

/-- The low `size` bytes of a value, extended to 64 bits with or without sign (R127). -/
def extended (sgn : Bool) (size v : Nat) : W64 :=
  if sgn then (BitVec.ofNat (8 * size) v).signExtend 64 else (BitVec.ofNat (8 * size) v).setWidth 64

/-- The in-flight entry of a write to `dest` by the X instruction at the current slot. -/
def flightOf (s : State) (dest : Dest) (bits v : Vec) (lat : Nat) (flags : FpFlags) : InFlight :=
  ⟨dest, bits, v, lat, .write, flags, pcReg s.cur.sx.pc, false⟩

/-- An integer form completes with `v` for S register `d`: in C and A the register holds it at once, in X it is in
flight for `lat` cycles (R133, R134). -/
def integerResult (o : Outcome State Fault Refusal) (s : State) (lit : Bool) (lat d : Nat) (v : W64) : Prop :=
  (s.str ≠ .x → writesScalar o s lit d v) ∧
    (s.str = .x → entersFlight o s lit (flightOf s (.e d) allBits (v.setWidth 2048) lat 0))

/-- An X instruction issues with a result for the elements of width `w` of v[d] that `act` selects: element `j`
of it is `val j`. -/
def vectorResult (o : Outcome State Fault Refusal) (s : State) (d w lat : Nat) (act : Nat → Bool)
    (val : Nat → Nat) : Prop :=
  ∃ v fl, entersFlight o s false (flightOf s (.v d) (elemBits w (elemCount w) act) v lat fl) ∧
    ∀ j, j < elemCount w → act j = true → elem w v j = val j % 2 ^ w

/-! ### Results of the floating-point forms -/

/-- The exact value of an element (R49, R50, R52, R55, R60, R63): a float flushed under fzi, a dyad in units of 2^-6, a block scale,
an integer; a zero of the last two kinds is +0. -/
def exactOf (t b : Nat) (fzi : Bool) : Machine.Num :=
  let units : Int → Int → Machine.Num := fun v u => if v = 0 then .zero false else .fin (decide (v < 0)) v.natAbs u
  if t ≤ 4 then flushIn t b fzi
  else if t = 5 then units (dyUnits b) (-6)
  else if t = 6 then (if b = 0x80 then .nan else .fin false 1 (if 128 ≤ b then (b : Int) - 256 else b))
  else units (intOf t b) 0

/-- `r` is the pattern of an integer in an integer type: clamped, or the low bits (R55, R59). -/
def integerIs (t : Nat) (clamp : Bool) (v : Int) (r : Nat) : Prop :=
  r = ((if clamp then max (intMin t) (min (intMax t) v) else v) % (2 ^ typeWidth t : Nat)).toNat

/-- `r` is the quotient of two values, rounded once (R224). -/
def quotientIs (t rnd : Nat) (sat fzo : Bool) (a b : Machine.Num) (r : Nat) : Prop :=
  match a, b with
  | .nan, _ => r = canonicalNaN t
  | _, .nan => r = canonicalNaN t
  | .inf _, .inf _ => r = canonicalNaN t
  | .zero _, .zero _ => r = canonicalNaN t
  | .inf g, .zero h => r = (roundTo t (.inf (g ^^ h)) rnd sat fzo).1
  | .inf g, .fin h _ _ => r = (roundTo t (.inf (g ^^ h)) rnd sat fzo).1
  | .fin g _ _, .zero h => r = (roundTo t (.inf (g ^^ h)) rnd sat fzo).1
  | .zero g, .inf h => r = signBit t (g ^^ h)
  | .fin g _ _, .inf h => r = signBit t (g ^^ h)
  | .zero g, .fin h _ _ => r = signBit t (g ^^ h)
  | .fin g m e, .fin h n k => r = (roundFrac t 64 (g ^^ h) m n (e - k) rnd sat fzo).1

/-- `r` is the square root of a value, rounded once (R224): the root of m 2^e is q units of 2^k, or lies between q and q + 1 of
them, which are finer than any format's. -/
def rootIs (t rnd : Nat) (sat fzo : Bool) (a : Machine.Num) (r : Nat) : Prop :=
  match a with
  | .nan => r = canonicalNaN t
  | .zero n => r = signBit t n
  | .inf n => r = if n then canonicalNaN t else (roundTo t (.inf false) rnd sat fzo).1
  | .fin true _ _ => r = canonicalNaN t
  | .fin false m e => ∃ (q c : Nat) (k : Int), e = 2 * k + c ∧ q * q ≤ m * 2 ^ c ∧ m * 2 ^ c < (q + 1) * (q + 1) ∧ 2 ^ 30 ≤ q ∧
      r = (roundFrac t 64 false (2 * q + if q * q = m * 2 ^ c then 0 else 1) 1 (k - 1) rnd sat fzo).1

/-- `r` is the reciprocal of a value to 12 significant bits (R226). -/
def reciprocalIs (t rnd : Nat) (sat fzo : Bool) (a : Machine.Num) (r : Nat) : Prop :=
  match a with
  | .nan => r = canonicalNaN t
  | .zero n => r = (roundTo t (.inf n) rnd sat fzo).1
  | .inf n => r = signBit t n
  | .fin n m e => r = (roundFrac t 12 n 1 m (-e) rnd sat fzo).1

/-- `r` is the reciprocal of the root of a value to 12 significant bits (R226): with M 4^h the value, it is q units of 2^-(h+c), or
lies between q and q + 1 of them. -/
def reciprocalRootIs (t rnd : Nat) (sat fzo : Bool) (a : Machine.Num) (r : Nat) : Prop :=
  match a with
  | .nan => r = canonicalNaN t
  | .zero n => r = (roundTo t (.inf n) rnd sat fzo).1
  | .inf n => r = if n then canonicalNaN t else signBit t false
  | .fin true _ _ => r = canonicalNaN t
  | .fin false m e => ∃ (q c M : Nat) (h : Int), ((M = m ∧ e = 2 * h) ∨ (M = 2 * m ∧ e = 2 * h + 1)) ∧
      q * q * M ≤ 4 ^ c ∧ 4 ^ c < (q + 1) * (q + 1) * M ∧ 2 ^ 20 ≤ q ∧
      r = (roundFrac t 12 false (2 * q + if q * q * M = 4 ^ c then 0 else 1) 1 (-h - c - 1) rnd sat fzo).1

/-- m 2^e is the integer `k`. -/
def isIntegral (m : Nat) (e : Int) (k : Nat) : Prop :=
  (0 ≤ e ∧ k = m * 2 ^ e.toNat) ∨ (e < 0 ∧ m = k * 2 ^ (-e).toNat)

/-- The operands for which R226 gives a function's value, or for which it is a number of two factors at most: of each opcode
from 0x80 on, `r` is that value. -/
def functionIs (op t rnd : Nat) (sat fzo : Bool) (a : Machine.Num) (r : Nat) : Prop :=
  let rounds : Machine.Num → Prop := fun v => r = (roundTo t v rnd sat fzo).1
  let one : Bool → Machine.Num := fun n => .fin n 1 0
  (a = .nan → r = canonicalNaN t) ∧
  (op = 0x80 → (a = .inf true → rounds (.zero false)) ∧ (a = .inf false → rounds (.inf false)) ∧ (∀ n, a = .zero n → rounds (one false)) ∧
    ∀ n m e k, a = .fin n m e → isIntegral m e k → k < 1000 →
      r = (roundFrac t 64 false 1 1 (if n then -(k : Int) else k) rnd sat fzo).1) ∧
  (op = 0x81 → (∀ n, a = .zero n → rounds (.inf true)) ∧ (a = .inf false → rounds (.inf false)) ∧
    (a = .inf true ∨ (∃ m e, a = .fin true m e) → r = canonicalNaN t) ∧
    ∀ (l : Nat) (e : Int), a = .fin false (2 ^ l) e →
      r = if (l : Int) + e = 0 then signBit t false
        else (roundFrac t 64 (decide ((l : Int) + e < 0)) ((l : Int) + e).natAbs 1 0 rnd sat fzo).1) ∧
  (op = 0x82 → (∀ n, a = .inf n → r = canonicalNaN t) ∧ (∀ n, a = .zero n → r = signBit t n) ∧
    ∀ n m e k, a = .fin n m e → isIntegral m e k → r = signBit t n) ∧
  (op = 0x83 → (∀ n, a = .inf n → r = canonicalNaN t) ∧ (∀ n, a = .zero n → rounds (one false)) ∧
    (∀ n m e k, a = .fin n m e → isIntegral m e k → rounds (one (decide (k % 2 = 1)))) ∧
    ∀ n m e k, a = .fin n m e → isIntegral (2 * m) e k → k % 2 = 1 → r = signBit t false) ∧
  (op = 0x84 → (∀ n, a = .inf n → rounds (one n)) ∧ ∀ n, a = .zero n → r = signBit t n) ∧
  (op = 0x85 → (a = .inf true → r = signBit t false) ∧ (a = .inf false → rounds (one false)) ∧ ∀ n, a = .zero n → rounds (.fin false 1 (-1)))

/-- `r` is the byte of dy8 for m 2^e with sign `n` (R61, R62): of the member that the mode picks, in its canonical encoding. -/
def dyadIs (rnd : Nat) (n : Bool) (m : Nat) (e : Int) (r : Nat) : Prop :=
  -- the value in units of 2^-6 is v / d
  let d : Int := 2 ^ (-(e + 6)).toNat
  let v : Int := (if n then -1 else 1) * (m * 2 ^ (e + 6).toNat)
  let below : Prop := dyUnits r * d ≤ v ∧ ∀ c, c < 256 → dyUnits c * d ≤ v → dyUnits c ≤ dyUnits r
  let above : Prop := v ≤ dyUnits r * d ∧ ∀ c, c < 256 → v ≤ dyUnits c * d → dyUnits r ≤ dyUnits c
  let off : Nat → Nat := fun c => (dyUnits c * d - v).natAbs
  if 128 * d < v then r = 0x00
  else if v < -128 * d then r = 0x88
  else r < 256 ∧ r = canonicalDy8 (dyUnits r) ∧
    (if rnd = 2 then below else if rnd = 3 then above else if rnd = 1 then (if n then above else below)
      else ∀ c, c < 256 → off r ≤ off c ∧ (off c = off r → dyUnits c ≠ dyUnits r →
        dyTerms r < dyTerms c ∨ (dyTerms r = dyTerms c ∧ (dyUnits r).natAbs ≤ (dyUnits c).natAbs)))

/-- `r` is the element of type `td` for the element `b` of type `ts` (R55, R62, R227). -/
def convertedIs (td ts b rnd : Nat) (fzi fzo sat : Bool) (r : Nat) : Prop :=
  let x := exactOf ts b fzi
  if 8 ≤ ts ∧ 8 ≤ td then integerIs td sat (intOf ts b) r
  else if td ≤ 4 then r = (roundTo td x rnd sat fzo).1
  else if td = 5 then match x with
    | .nan => r = 0x77
    | .inf n => r = if n then 0x88 else 0x00
    | .zero _ => r = 0x77
    | .fin n m e => dyadIs rnd n m e r
  else if td = 6 then match x with
    | .nan => r = 0x80
    | .inf _ => r = 0x80
    | .zero _ => r = 0x81
    | .fin _ m e => r = (max (-127) (min 127 ((Nat.log2 m : Int) + e)) % 256).toNat
  else match x with
    | .nan => r = 0
    | .inf n => integerIs td true (if n then intMin td else intMax td) r
    | .zero _ => r = 0
    | .fin n m e =>
      let q := roundQuot (m * 2 ^ e.toNat) (2 ^ (-e).toNat) rnd n
      integerIs td true (if n then -(q : Int) else q) r

/-- `r` is a 32-bit lane of `vdot` (R228, R68): the lane `d` with the exact sum of the products of its elements, rounded or
narrowed once. -/
def dotIs (f : F3) (d a b r : Nat) : Prop :=
  let t := f.fmt.toNat
  let w := typeWidth t
  let idx := List.range (32 / w)
  let el : Nat → Nat → Nat := fun x j => x / 2 ^ (w * j) % 2 ^ w
  if 5 ≤ t then integerIs 10 f.sat (intOf 10 d + (idx.map fun j => intOf t (el a j) * intOf t (el b j)).sum) r
  else
    let terms := exactOf 0 d f.fzi :: idx.map fun j =>
      (Machine.Num.mul (exactOf t (el a j) f.fzi) (exactOf (if f.fn = 0 then t else 5) (el b j) f.fzi)).1
    let both : Prop := .inf false ∈ terms ∧ .inf true ∈ terms
    (.nan ∈ terms ∨ both → r = canonicalNaN 0) ∧
    (.nan ∉ terms → ¬ both → ∀ n, .inf n ∈ terms → r = (roundTo 0 (.inf n) f.rnd.toNat f.sat f.fzo).1) ∧
    (.nan ∉ terms → (∀ n, .inf n ∉ terms) → ∃ (u v : Int), (∀ n m e, .fin n m e ∈ terms → u ≤ e) ∧
      v = (terms.map fun x => x.inUnits u).sum ∧
      (v ≠ 0 → r = (roundTo 0 (.fin (decide (v < 0)) v.natAbs u) f.rnd.toNat f.sat f.fzo).1) ∧
      (v = 0 → r = signBit 0 ((terms.all fun x => x = .zero true) || (!(terms.all fun x => x = .zero false) && f.rnd = 2))))

/-- Byte `q` of the key stream of a CRYPT (R274): AES-256 of the counter block of its 16 bytes. -/
def cipherByte (key : BitVec 256) (k : Card) (q : Nat) : Nat :=
  (aesBlock (roundKeys (keyBytes key)) (counterBlock (cryptIv k) (q / 16 + 2))).getD (q % 16) 0

/-- A launch-queue entry of host memory has its status word (R77, R414); the entry that a thread serves has ended: the head of
its ring has advanced there and in its queue, and the thread goes on. -/
def entryAnswered (s u : State) (a : QAddr) (word : Nat) : Prop :=
  let m := Memory.writeBytes s.hostMem (a.addr + 0x58) (bytesOf 8 word)
  (s.serving a = none → u.hostMem = m) ∧
    ∀ q, s.serving a = some q → (s.queue q).base.host = true →
      let h := ((s.queue q).head + 1) % 2 ^ 64
      u.hostMem = Memory.writeBytes m ((s.queue q).base.addr + 8) (bytesOf 8 h) ∧
        u.queue q = { (s.queue q) with head := h, busy := false } ∧
        (if (s.queue q).state = .parked then Event.queueParkComplete q else .threadWake q) ∈ u.events

/-- A launch has been accepted on a die (R76, R78): it is live with its groups, its snapshot and its code, its context
holds its records, and an entry in host memory has ended with its number and `code`. -/
def launched (s u : State) (die : Nat) (l : PendingLaunch) (r : Option Residual) (code : Nat) : Prop :=
  ∃ id x, u.launchAt die id = some x ∧ x.ctx = l.ctx ∧ x.image = l.image ∧ x.snapshot = l.snapshot ∧ x.groups = l.groups ∧
    x.shares = l.shares ∧ x.sig = l.sig ∧ x.live = l.recs.length ∧ x.residual = r ∧
    (u.ctxAt l.ctx).poolUsed = (s.ctxAt l.ctx).poolUsed + l.recs.length ∧
    ∀ a, l.src = .entry a → a.host = true → entryAnswered s u a (id * 2 ^ 48 + code)

end Sys2Proof
end

