-- ==== Sys2Proof/Certificates/Slice0/Obligations.lean ====
section
/-! DEFINITION. The statements for the provers. -/

open Sys2Proof
open Sys2Proof.Machine
open Host (Outcome)

/-! ### Words -/

/-- R115 and R123 to R131: the word of a well-formed instruction decodes to it, every operand at every value that
its encoding admits; its opcode is assigned, and the word of a literal form is followed by its literal (R34, R125). -/
def Obligations.EncodedWordsDecode : Prop :=
  ∀ i : Instr, i.wf = true →
    decode (encode i) (encodeLiteral i) = some i ∧ opcodeAssigned (encode i) = true ∧
      decodeTableWord 64 ((encode i).toNat + (encodeLiteral i).toNat * 2 ^ 64) = some i

/-- R118, R131: no word has two meanings, and no bit of a word that decodes is left over: encoding the
instruction gives the word back, and the literal where it takes one. -/
def Obligations.DecodedWordsEncode : Prop :=
  ∀ (w lit : W64) (i : Instr), decode w lit = some i →
    i.wf = true ∧ encode i = w ∧ (takesLiteral w = true → encodeLiteral i = lit)

/-- Words that the spec writes out, with the instructions that it gives for them: the worked encodings of the chapters
on the formats, the control instructions and the access instructions, the padding word and the all-zero word. -/
def Obligations.SpecWordsDecode : Prop :=
  let g : Guard := ⟨true, 0, 0⟩
  decode 0x2080_00A0_0000_0008 0 = some (.addi ⟨g, 5, 0, 8⟩) ∧
  decode 0x2080_00A1_7FFF_FFFF 0 = some (.addi ⟨g, 5, 5, 0x3FFFFFFF⟩) ∧
  decode 0x2E80_00C0_0000_0000 0x0123_4567_89AB_CDEF = some (.limm ⟨g, 6, 0⟩ 0x0123_4567_89AB_CDEF) ∧
  decode 0x0180_00E1_C300_0000 0 = some (.add ⟨g, 7, 7, 6, 0, 0, false, false, false, 0, 0, 0⟩) ∧
  decode 0x1780_0101_4000_0000 0 = some (.cmpeq ⟨g, 8, 5, 0, 0, 0, false, false, false, 0, 0, 0⟩) ∧
  decode 0x30A0_0000_13FF_FFFF 0 = some (.br ⟨⟨true, 8, 0⟩, 0, 0, false, 4, 0x3FFFFFF⟩) ∧
  decode 0x3880_0000_0000_0000 0 = some (.exit ⟨g, 0, 0, 0⟩) ∧
  decode 0x3980_0103_C280_0000 0 = some (.feed ⟨g, 8, 15, 5, 0, 0, 0, 0, false, 0⟩) ∧
  decode 0x4880_0120_C200_4103 0 = some (.lds ⟨g, 9, 3, 4, 8, 2, 0, 0, false, 3⟩) ∧
  decode 0x4080_0182_85A0_0600 0 = some (.xlat ⟨g, 12, 10, 11, 4, 0, false, false, false, 0, 0xC, 0⟩) ∧
  decode 0x6080_0040_C200_1082 0 = some (.vld ⟨g, 2, 3, 4, 2, 1, 0, 0, false, 2⟩) ∧
  decode 0x6280_0000_C201_0002 0 = some (.vldx ⟨g, 0, 3, 4, 1, 0, 0, 0, 0, false, 2⟩) ∧
  decode 0x0100_0000_0000_0000 0 = some (.add ⟨⟨false, 0, 0⟩, 0, 0, 0, 0, 0, false, false, false, 0, 0, 0⟩) ∧
  decode 0 0 = none

/-- R118, R132: the checks of a slot run in order, and the first that fails is the one reported: an unassigned
opcode, a stream in which the opcode is not legal, a broken literal rule (R34), a field that names no instruction of
that stream. A slot that passes them all is the instruction of its word.

R118, R132, R25: a stream whose slot fails a check of R118, or whose PC names no slot, raises ILLEGAL there; the
info field is the order of the check.

It rests on the model's choice of log entry 17. -/
def Obligations.IssueChecks : Prop :=
  (∀ (st : Stream) (b : Bool) (w lit : W64),
     (opcodeAssigned w = false → issueCheck st b w lit = .error 1) ∧
     (opcodeAssigned w = true → opcodeStream (opcodeOf w) st = false → issueCheck st b w lit = .error 2) ∧
     (opcodeAssigned w = true → opcodeStream (opcodeOf w) st = true → b = true → issueCheck st b w lit = .error 3) ∧
     (opcodeAssigned w = true → opcodeStream (opcodeOf w) st = true → b = false →
       (decode w lit = none ∨ ∃ f, decode w lit = some (.wait f) ∧ st = .c ∧ f.imm.getLsbD 25 = true) →
       issueCheck st b w lit = .error 4) ∧
     ∀ i, issueCheck st b w lit = .ok i →
       i.wf = true ∧ i.legalIn st = true ∧ encode i = w ∧ opcodeStream (opcodeOf w) st = true ∧ b = false) ∧
  (∀ (s : State) (n : Nat) (st : Stream) (rest : List (Nat × Stream)) (line : BitVec 512) (k : Nat),
     s.turn = (n, st) :: rest → (s.evTurn = false ∨ s.events = []) →
     let u := turnState s n st rest
     (mayIssue u → (u.cur.stream st).line = some line →
       issueCheck st (literalBroken line (u.cur.stream st).pc) (slotWord line (u.cur.stream st).pc)
         (literalOf line (u.cur.stream st).pc) = .error k →
       step s = .next (u.raise { code := cIllegal, info := k })) ∧
     (awake u → (u.cur.stream st).fell = false → namesSlot (u.cur.stream st).pc = false →
       step s = .next (u.raise { code := cIllegal })) ∧
     ∀ order, exec (.unassignedOpcode order) u = .next (u.raise { code := cIllegal, info := order }))

/-! ### Steps -/

/-- R30, R33, R34: when no event is due, the first stream in the order of issue has its turn, and a step is the
meaning of the instruction at its PC, unless the stream has to wait for a request of its own (R133, R194): then it does
not issue. An instruction whose guard is not satisfied waits for the register of its guard alone (R117). What follows an instruction is `State.afterIssue`: C has issued past its requests (R194), and a read of a
poisoned register is a late fault (R402). It adds nothing where the core has no request of C and no poisoned register.

It rests on the model's choices of log entries 3, 18 and 21. -/
def Obligations.StepRunsDecoded : Prop :=
  ∀ (s : State) (n : Nat) (st : Stream) (rest : List (Nat × Stream)) (line : BitVec 512) (i : Instr),
    s.turn = (n, st) :: rest → (s.evTurn = false ∨ s.events = []) →
    let u := turnState s n st rest
    mayIssue u → (u.cur.stream st).line = some line →
    issueCheck st (literalBroken line (u.cur.stream st).pc) (slotWord line (u.cur.stream st).pc)
      (literalOf line (u.cur.stream st).pc) = .ok i →
    let waits := u.waitsToIssue (slotWord line (u.cur.stream st).pc) i
    (waits = true → step s = .next u ∧ u.cur.reqs ≠ []) ∧
    (waits = false →
      (∀ t, exec i u = .next t → step s = .next (State.afterIssue i u t)) ∧
      (u.cur.regPoison = [] → (∀ r ∈ u.cur.reqs, r.str ≠ .c) → step s = exec i u))

/-- No step of the model is refused: every instruction and every event has its meaning.

It rests on the model's choice of log entry 9. -/
def Obligations.NoStepRefused : Prop :=
∀ (s : State) (e : Refusal), step s ≠ .refused e

/-- The canonical form of memory, and of the tables of cores, dies and contexts, is kept by every step.

It rests on the model's choice of log entry 1. -/
def Obligations.TidyKept : Prop :=
∀ s t : State, tidy s → step s = .next t → tidy t

/-- The module after reset is in that form.

R21, R342: sys.cfg after module reset reads 0x5808_1F20_2060_4001; every next ID of a source is 0, every home's
newest accepted ID is 0xFFFF, and no reply-cache slot is valid.

It rests on the model's choices of log entries 1, 6 and 8. -/
def Obligations.ResetState : Prop :=
  (tidy State.reset) ∧
  (State.reset.sysCfg = 0x5808_1F20_2060_4001 ∧
     (∀ die peer, (State.reset.takeId die peer).1 = 0) ∧
     ∀ peer die, State.reset.fab.newest peer die = 0xFFFF ∧ ∀ id, State.reset.fab.cached peer die id = none)

/-! ### Guards, levels and traps -/

/-- R117: an instruction whose guard is not satisfied does nothing; its stream goes on to the slot after it, and after
its literal. A supervisor form at user level raises PRIV whatever its guard says (R118). -/
def Obligations.GuardSkips : Prop :=
  ∀ (i : Instr) (s : State), i.wf = true → i.legalIn s.str = true →
    (supervisorForm (encode i) = true → s.curCtx.sup = false → exec i s = .next (s.raise { code := cPriv })) ∧
    ((supervisorForm (encode i) = true → s.curCtx.sup = true) → s.guardHolds (Guard.unpack (encode i)) = false →
      exec i s = .next (s.advance (takesLiteral (encode i))))

/-- R25, R26, R32, R34, R144: where a stream stands after a slot: at the next slot of its line; after the last at the
first slot of the line that the link word names; after the last of a chain at the address that follows the line, from
which nothing issues. Nothing else of the core changes, but that a cycle of X passes. -/
def Obligations.AdvanceAlongChain : Prop :=
  ∀ (s : State) (lit : Bool),
    let v := s.cur.stream s.str
    let t := s.advance lit
    let w := t.cur.stream s.str
    let last := v.pc.toNat / 8 % 8 + (if lit then 1 else 0)
    let base : W64 := BitVec.ofNat 64 (v.pc.toNat / 64 * 64)
    let link := ((v.line.getD 0).extractLsb' 0 24).toInt
    onlyCore s t ∧ memorySame s t ∧ t.cur = { s.cur.setStream s.str w with inflight := t.cur.inflight } ∧
    (s.str ≠ .x → t.cur.inflight = s.cur.inflight) ∧
    w = { v with pc := w.pc, line := w.line, fell := w.fell } ∧
    (last < 7 → w.pc = v.pc + (if lit then 16 else 8) ∧ w.line = v.line ∧ w.fell = v.fell) ∧
    (last = 7 → link ≠ 0 → w.pc = base + BitVec.ofInt 64 (link * 64) + 8 ∧ w.line = none ∧ w.fell = false) ∧
    (last = 7 → link = 0 → w.pc = base + 64 ∧ w.line = none ∧ w.fell = true)

/-- R373, R374, R376, R378: a trap of a stream that can be delivered, in a context whose handler is valid: sys.cause,
sys.epc and the PC registers are written, the th bit is set, and C begins the handler, unspecialised; the other
streams freeze where they are. C has issued past the requests that it had outstanding (R194). Memory and every general
register are as they were.

R376: the fields of sys.cause.

It rests on the model's choice of log entry 29. -/
def Obligations.TrapEntry : Prop :=
  (∀ (s : State) (t : Trap),
     let n := s.core
     let c := s.cur
     c.cont.th = false → c.cwait = .none → c.saving = none → c.mode = .running → s.residualOf n = none →
     (∀ st, (c.stream st).fell = true → st = s.str ∧ t.code = cChainEnd) → c.inside = none → (∀ f ∈ c.inflight, f.remaining ≠ 0) →
     c.cont.tvec.getLsbD 63 = true → ((s.ctxAt c.ctx).sup = true ∨ (t.code % 256 ≠ cPriv ∧ t.code % 256 ≠ cSyscall)) →
     ((s.ctxAt c.ctx).log = false ∨ t.code % 256 ≠ cPoison ∨ s.str = .x) →
     let u := s.raise t
     let d := u.cur
     let epc := pcReg (t.epc.getD (c.stream s.str).pc)
     onlyCore s { u with homes := s.homes } ∧
     d = { c with cont := d.cont, sc := d.sc, sa := { c.sa with fell := false }, sx := { c.sx with fell := false },
                  reqs := d.reqs, outer := c.arrived, arrived := none } ∧
     d.reqs = c.reqs.map (fun r => { r with past := r.past || r.str == .c, before := true }) ∧
     d.cont = { c.cont with th := true, res := (c.stream s.str).residual, cause := d.cont.cause, epc := epc,
                            opc := pcReg (s.originPc n s.str epc), cpc := d.cont.cpc, apc := d.cont.apc, xpc := d.cont.xpc } ∧
     d.cont.cause = causeWord t.kind s.str t.info t.code ∧
     (∀ st : Stream, (match st with | .c => d.cont.cpc | .a => d.cont.apc | .x => d.cont.xpc) =
       if t.kind % 4 = 0 ∧ st = s.str then epc else pcReg (c.stream st).pc) ∧
     d.sc = { c.sc with pc := pcReg c.cont.tvec, line := none, residual := false, fell := false } ∧
     memorySame s u) ∧
  (∀ (kind : Nat) (st : Stream) (info : Nat) (code : CauseCode), kind < 4 →
     let w := causeWord kind st info code
     (w.extractLsb' 62 2).toNat = kind ∧ (w.extractLsb' 60 2).toNat = (match st with | .c => 0 | .a => 1 | .x => 2) ∧
       w.extractLsb' 24 36 = 0 ∧ (w.extractLsb' 8 16).toNat = info % 2 ^ 16 ∧ (w.extractLsb' 0 8).toNat = code % 256)

/-! ### Integer forms -/

/-- R136 (and R59 for `.sat`): what each register form writes to d, in every stream. U(v) is `toNat`, S(v) is
`toInt`, W(n) is the 64-bit word of n. 

R137: what the division forms write, at their borders too; none of them traps. -/
def Obligations.IntegerForms : Prop :=
  (∀ (f : F3) (s : State), s.guardHolds f.g = true →
     let a := s.rd f.s1
     let b := s.rd f.s2
     let k := b.toNat % 64
     let r : Instr → Nat → W64 → Prop := fun i lat v => integerResult (exec i s) s false lat f.d.toNat v
     let clamped : Int → Int := fun x => max (-(2 ^ 63)) (min (2 ^ 63 - 1) x)
     let one : Prop → W64 → Prop := fun p v => (p → v = 1) ∧ (¬ p → v = 0)
     r (.add f) 1 (if f.sat then BitVec.ofInt 64 (clamped (a.toInt + b.toInt)) else BitVec.ofNat 64 (a.toNat + b.toNat)) ∧
     r (.sub f) 1 (if f.sat then BitVec.ofInt 64 (clamped (a.toInt - b.toInt)) else BitVec.ofInt 64 (a.toNat - b.toNat)) ∧
     r (.mul f) 3 (if f.sat then BitVec.ofInt 64 (clamped (a.toInt * b.toInt)) else BitVec.ofNat 64 (a.toNat * b.toNat)) ∧
     r (.mulh f) 3 ((BitVec.ofInt 128 (a.toInt * b.toInt)).extractLsb' 64 64) ∧
     r (.mulhn f) 3 ((BitVec.ofNat 128 (a.toNat * b.toNat)).extractLsb' 64 64) ∧
     r (.and f) 1 (a &&& b) ∧ r (.or f) 1 (a ||| b) ∧ r (.xor f) 1 (a ^^^ b) ∧ r (.andn f) 1 (a &&& ~~~b) ∧
     r (.shl f) 1 (BitVec.ofNat 64 (a.toNat * 2 ^ k)) ∧
     r (.shr f) 1 (BitVec.ofNat 64 (a.toNat / 2 ^ k)) ∧
     r (.sra f) 1 (BitVec.ofInt 64 (a.toInt / 2 ^ k)) ∧
     (∃ v, r (.rol f) 1 v ∧ ∀ i, i < 64 → v.getLsbD ((i + k) % 64) = a.getLsbD i) ∧
     (∃ v, r (.ror f) 1 v ∧ ∀ i, i < 64 → v.getLsbD i = a.getLsbD ((i + k) % 64)) ∧
     (∃ v, r (.min f) 1 v ∧ v.toInt = min a.toInt b.toInt) ∧ (∃ v, r (.max f) 1 v ∧ v.toInt = max a.toInt b.toInt) ∧
     (∃ v, r (.minn f) 1 v ∧ v.toNat = min a.toNat b.toNat) ∧ (∃ v, r (.maxn f) 1 v ∧ v.toNat = max a.toNat b.toNat) ∧
     (∃ v, r (.cmpeq f) 1 v ∧ one (a = b) v) ∧ (∃ v, r (.cmpne f) 1 v ∧ one (a ≠ b) v) ∧
     (∃ v, r (.cmplt f) 1 v ∧ one (a.toInt < b.toInt) v) ∧ (∃ v, r (.cmpltn f) 1 v ∧ one (a.toNat < b.toNat) v) ∧
     (∃ v, r (.cmple f) 1 v ∧ one (a.toInt ≤ b.toInt) v) ∧ (∃ v, r (.cmplen f) 1 v ∧ one (a.toNat ≤ b.toNat) v) ∧
     (∃ n, n ≤ 64 ∧ r (.clz f) 1 (BitVec.ofNat 64 n) ∧ (∀ i, 64 - n ≤ i → a.getLsbD i = false) ∧
       (n < 64 → a.getLsbD (63 - n) = true)) ∧
     (∃ n, n ≤ 64 ∧ r (.ctz f) 1 (BitVec.ofNat 64 n) ∧ (∀ i, i < n → a.getLsbD i = false) ∧
       (n < 64 → a.getLsbD n = true)) ∧
     r (.popc f) 1 (BitVec.ofNat 64 ((List.range 64).filter fun i => a.getLsbD i).length)) ∧
  (∀ (f : F3) (s : State), s.guardHolds f.g = true →
     let a := s.rd f.s1
     let b := s.rd f.s2
     let r : Instr → W64 → Prop := fun i v => integerResult (exec i s) s false 18 f.d.toNat v
     (b = 0 → r (.div f) 0xFFFFFFFFFFFFFFFF ∧ r (.rem f) a ∧ r (.divn f) 0xFFFFFFFFFFFFFFFF ∧ r (.remn f) a) ∧
     (a.toInt = -(2 ^ 63) → b.toInt = -1 → r (.div f) 0x8000000000000000 ∧ r (.rem f) 0) ∧
     (b ≠ 0 → ∃ q m : W64, r (.divn f) q ∧ r (.remn f) m ∧ a.toNat = q.toNat * b.toNat + m.toNat ∧ m.toNat < b.toNat) ∧
     (b ≠ 0 → ¬ (a.toInt = -(2 ^ 63) ∧ b.toInt = -1) → ∃ q m : W64, r (.div f) q ∧ r (.rem f) m ∧
       a.toInt = q.toInt * b.toInt + m.toInt ∧ m.toInt.natAbs < b.toInt.natAbs ∧ (m.toInt = 0 ∨ (m.toInt < 0 ↔ a.toInt < 0))))

/-- R138, R139, R140: the immediate forms compute as the register form named, with b taken from the immediate;
`extr` and `extrs` extract a field; `limm` writes its literal. -/
def Obligations.ImmediateForms : Prop :=
  ∀ (f : FI) (l : FL) (lit : W64) (s : State), s.guardHolds f.g = true → s.guardHolds l.g = true →
    let a := s.rd f.s1
    let b : W64 := f.imm.signExtend 64
    let k := f.imm.toNat % 64
    let len := f.imm.toNat / 64 % 64 + 1
    let field := a.toNat / 2 ^ k % 2 ^ len
    let r : Instr → Nat → W64 → Prop := fun i lat v => integerResult (exec i s) s false lat f.d.toNat v
    let one : Prop → W64 → Prop := fun p v => (p → v = 1) ∧ (¬ p → v = 0)
    r (.addi f) 1 (a + b) ∧ r (.muli f) 3 (a * b) ∧ r (.andi f) 1 (a &&& b) ∧ r (.ori f) 1 (a ||| b) ∧
    r (.xori f) 1 (a ^^^ b) ∧ r (.shli f) 1 (BitVec.ofNat 64 (a.toNat * 2 ^ k)) ∧
    r (.shri f) 1 (BitVec.ofNat 64 (a.toNat / 2 ^ k)) ∧ r (.srai f) 1 (BitVec.ofInt 64 (a.toInt / 2 ^ k)) ∧
    (∃ v, r (.cmpeqi f) 1 v ∧ one (a = b) v) ∧ (∃ v, r (.cmpnei f) 1 v ∧ one (a ≠ b) v) ∧
    (∃ v, r (.cmplti f) 1 v ∧ one (a.toInt < b.toInt) v) ∧ (∃ v, r (.cmpltni f) 1 v ∧ one (a.toNat < b.toNat) v) ∧
    (k + len ≤ 64 → r (.extr f) 1 (BitVec.ofNat 64 field)) ∧
    (k + len ≤ 64 → r (.extrs f) 1 (if field / 2 ^ (len - 1) % 2 = 1 then BitVec.ofInt 64 (field - 2 ^ len) else BitVec.ofNat 64 field)) ∧
    integerResult (exec (.limm l lit) s) s true 1 l.d.toNat lit

/-! ### Control -/

/-- R126, R144 to R148: where the transfers go. `br` and `ret` go to their target; `call` first writes the address of
the slot after it, whatever its target is; `loop` takes 1 from its register and goes to its target while the result is
not 0. A target that names no slot raises ILLEGAL with sys.epc at the target. That such a `call` has written its link
is the model's choice of log entry 28.

R25, R30: a stream that transfers within its line keeps the copy of the line that it has; otherwise it will read the
line of its target anew.

It rests on the model's choice of log entry 28. -/
def Obligations.Transfers : Prop :=
  (∀ (f : FB) (s : State), s.guardHolds f.g = true →
     let v := s.cur.stream s.str
     let target : W64 := if f.ind then s.rd f.s1
       else BitVec.ofNat 64 (v.pc.toNat / 64 * 64) + f.off.signExtend 64 * 64 + BitVec.ofNat 64 ((f.slot.toNat + 1) * 8)
     (namesSlot target = true →
       exec (.br f) s = .next (transferred s target) ∧
       exec (.call f) s = .next (transferred (s.wr f.d (v.fall false).1) target)) ∧
     (namesSlot (s.rd f.s1) = true → exec (.ret f) s = .next (transferred s (s.rd f.s1))) ∧
     (s.rd f.d = 0 → exec (.loop f) s = .next (s.advance false)) ∧
     (s.rd f.d = 1 → exec (.loop f) s = .next ((s.wr f.d 0).advance false)) ∧
     (s.rd f.d ≠ 0 → s.rd f.d ≠ 1 → f.ind = false → namesSlot target = true →
       exec (.loop f) s = .next (transferred (s.wr f.d (s.rd f.d - 1)) target)) ∧
     (namesSlot target = false → exec (.br f) s = .next (s.raise { code := cIllegal, epc := some target }) ∧
       exec (.call f) s = .next ((s.wr f.d (v.fall false).1).raise { code := cIllegal, epc := some target })) ∧
     (namesSlot (s.rd f.s1) = false →
       exec (.ret f) s = .next (s.raise { code := cIllegal, epc := some (s.rd f.s1) }))) ∧
  (∀ (v : StreamState) (t : W64),
     let w := v.jump t
     w.pc = t ∧ w.fell = false ∧ w = { v with pc := t, fell := false, line := w.line } ∧
     (t.toNat / 64 * 64 = v.lineAt.toNat → w.line = v.line) ∧ (t.toNat / 64 * 64 ≠ v.lineAt.toNat → w.line = none))

/-- R207: `lds` and `sts` of the scratchpad (hint 3) in C and A: they read and write the bytes of the buffer at s2 + off,
which must lie in it; nothing else of the core's memory changes. They perform when they issue, and stall until nothing
of their stream that is ordered before them is outstanding and their counter has room (R190, R195, R291).

R141, R142: `uld` reads 1, 2, 4 or 8 bytes, little-endian, of the launch's uniform snapshot at s1 + imm[9:0],
extended as imm[12] says; a read past the snapshot's end raises TOKEN_BOUNDS.

It rests on the model's choices of log entries 20 and 21. -/
def Obligations.BufferAndUniformLoads : Prop :=
  (∀ (f : FM) (s : State), s.str ≠ .x → s.guardHolds f.g = true → f.hint = 3 →
     let size := 2 ^ f.sz.toNat
     let o := fmOffset f (s.rd f.s2) size
     let b := f.s1.toNat
     s.cur.inBuf b o size = true →
     (mayReadBuf s.str b = true → s.localReady (.lds f) = false → exec (.lds f) s = .next s) ∧
     (mayWriteBuf s.str b = true → s.localReady (.sts f) = false → exec (.sts f) s = .next s) ∧
     (mayReadBuf s.str b = true → s.localReady (.lds f) = true → s.cur.bufPoison b o size = false →
       writesScalar (exec (.lds f) s) s false f.d.toNat (extended f.sgn size (natOfBytes (s.cur.bufBytes b o size)))) ∧
     (mayWriteBuf s.str b = true → s.localReady (.sts f) = true → ∃ u, exec (.sts f) s = .next u ∧ onlyCore s u ∧ movedOn s u false ∧
       u.cur = { s.cur.setStream s.str (u.cur.stream s.str) with localMem := u.cur.localMem, localPoison := u.cur.localPoison } ∧
       (∀ k, k < size → (Memory.read u.cur.localMem (s.cur.bufAddr b (o + k))).toNat = (s.rd f.d).toNat / 256 ^ k % 256) ∧
       ∀ a, (∀ k, k < size → a ≠ s.cur.bufAddr b (o + k)) → Memory.read u.cur.localMem a = Memory.read s.cur.localMem a)) ∧
  (∀ (f : FI) (s : State) (l : Launch), s.str ≠ .x → s.guardHolds f.g = true →
     s.launchAt s.cur.launchDie s.cur.launch = some l →
     let a := (s.rd f.s1).toNat + f.imm.toNat % 1024
     let size := 2 ^ (f.imm.toNat / 1024 % 4)
     let v := natOfBytes ((l.snapshot.drop a).take size)
     (a + size ≤ l.len → writesScalar (exec (.uld f) s) s false f.d.toNat
       (extended (f.imm.getLsbD 12) size v)) ∧
     (l.len < a + size → exec (.uld f) s = .next (s.raise { code := cBounds })))

/-- R149, R150, R326: `start` of an idle stream begins its chain at the target; a chain of A takes its copy of sys.bview.
In a handler `start` raises ILLEGAL (R380).

R288, R289, R150: `wait` completes when no counter of its stream exceeds its limit: the loads limit imm[6:0], the
stores limit imm[12:7], the copies limit imm[18:13], the tile limit imm[24:19]. With fin it finishes the chain; in C fin
is illegal, and raises ILLEGAL.

It rests on the model's choice of log entry 17. -/
def Obligations.StreamsStartAndWait : Prop :=
  (∀ (f : FB) (s : State), s.str = .c → s.guardHolds f.g = true → s.cur.cont.th = false →
     let st : Stream := if f.d = 1 then .a else .x
     let v := s.cur.stream st
     let t := s.branchTarget f
     (v.started = false ∨ v.finished = true) → namesSlot t = true →
     ∃ u, exec (.start f) s = .next u ∧ onlyCore s { u with turn := s.turn } ∧ memorySame s u ∧
       u.cur.stream st = { v with started := true, finished := false, residual := s.cur.sc.residual, pc := t, line := none, fell := false } ∧
       u.cur.stream .c = (s.cur.stream .c).advance false ∧ (s.core, st) ∈ u.turn ∧
       u.cur.aview = (if st = .a then s.cur.cont.bview else s.cur.aview) ∧
       u.cur = { (s.cur.setStream st (u.cur.stream st)) with sc := u.cur.sc, aview := u.cur.aview }) ∧
  (∀ (f : FB) (s : State), s.guardHolds f.g = true → s.cur.cont.th = true →
     exec (.start f) s = .next (s.raise { code := cIllegal })) ∧
  (∀ (f : FL) (s : State), s.guardHolds f.g = true →
     let i := f.imm.toNat
     let c := s.cur
     let v := c.stream s.str
     let met := c.loads s.str ≤ i % 128 ∧ c.stores s.str ≤ i / 128 % 64 ∧ v.copies ≤ i / 8192 % 64 ∧ v.tile ≤ i / 524288 % 64
     (met → i / 2 ^ 25 % 2 = 0 → exec (.wait f) s = .next (s.advance false)) ∧
     (s.str = .c → i / 2 ^ 25 % 2 = 1 → exec (.wait f) s = .next (s.raise { code := cIllegal, info := 4 })) ∧
     (¬ met → (s.str = .c → i / 2 ^ 25 % 2 = 0) → exec (.wait f) s = .next s.stalled) ∧
     (s.str ≠ .c → met → i / 2 ^ 25 % 2 = 1 → (s.str = .x → c.inflight = []) →
       ∃ u, exec (.wait f) s = .next u ∧ u.cur.stream s.str = { v.advance false with finished := true, fell := false } ∧
         (s.core, s.str) ∉ u.turn ∧ onlyCore s { u with turn := s.turn } ∧ memorySame s u))

/-- R152, R153, R100: `spawn` with a good descriptor, room in the context's quota and a free slot adds a record with the
caller's arguments; SPAWN_READY then makes it READY.

R105, R104: the other events of the record pool. A wait of a WAITING record that is over makes it READY; time passes
until the effective level of a READY record of the die rises.

It rests on the model's choice of log entry 4. -/
def Obligations.SpawnsAndRecords : Prop :=
  (∀ (f : FB) (s : State) (die slot : Nat), s.str = .c → s.guardHolds f.g = true → s.cur.cont.th = false →
     let d := s.rd f.d
     let t := s.branchTarget f
     let c := s.cur
     let kind := d.toNat / 2 ^ 11 % 4
     s.badDescriptor d = false →
     (kind = 2 → keepsEntries s.cur s.cur.ctx (tokIndex (c.tok 15)) ∧ ∃ e, s.checkToken c.ctx (c.tok 15) (d.toNat / 2 ^ 24) 64 (needR ||| needW) = .ok e) →
     namesSlot t = true → s.curCtx.poolUsed < s.curCtx.poolQuota → s.findSlot (dieOf s.core) = some (die, slot) →
     ∃ u r, exec (.spawn f) s = .next u ∧ u.recAt die slot = some r ∧ u.events = s.events ++ [.spawnReady die slot] ∧
       r.state = .free ∧ r.pc = t ∧ r.ctx = c.ctx ∧ r.launch = c.launch ∧ r.launchDie = c.launchDie ∧
       r.group = d.toNat % 256 ∧ r.prio = d.toNat / 256 % 8 ∧ r.frameKind = kind ∧ r.frameOff = d.toNat / 2 ^ 24 ∧
       r.args = [c.scalar .c 1, c.scalar .c 2, c.scalar .c 3, c.scalar .c 4] ∧
       (u.ctxAt c.ctx).poolUsed = (s.ctxAt c.ctx).poolUsed + 1 ∧ memorySame s u ∧ movedOn s u false ∧
       ∃ w q, exec (.spawnReady die slot) u = .next w ∧ w.recAt die slot = some q ∧
         q.state = .ready ∧ q.t0 = u.time ∧ q.pc = t ∧ q.args = r.args) ∧
  (∀ (s : State) (die slot : Nat) (r : Rec),
     (s.recAt die slot = some r → r.state = .waiting →
       ∃ u q, exec (.waiterWake die slot) s = .next u ∧ u.recAt die slot = some q ∧ q.state = .ready ∧ q.t0 = s.time ∧ q.args = r.args) ∧
     (∃ u, exec (.effectiveLevelRise die) s = .next u ∧ u = { s with time := u.time } ∧
       ((s.recAt die slot = some r → r.state = .ready → r.t0 ≤ s.time → r.level s.time < 7 →
         s.time < u.time ∧ (u.time ≤ r.t0 + 4096 * ((s.time - r.t0) / 4096 + 1))))))

/-- R102, R103, R154, R155, R107: `yield` puts the continuation back into READY with its four arguments and the PC of the
next slot; `exit` frees its record. Both leave the core idle, and it chooses again.

R101, R107: an idle core takes the record that it chooses: the record is RUNNING, the four arguments are in x1 to x4,
the frame offset in x5 and the frame token in k15; m0 reads as all ones, and every other register of every file, the checksum
registers among them, holds zero; the continuation registers of R393 take their reset values; every queue is empty and
nothing is outstanding; A and X run no chain, and C stands at the record's PC.

It rests on the model's choices of log entries 5 and 68. -/
def Obligations.SuspendAndPickup : Prop :=
  (∀ (f : FI) (s : State) (r : Rec), s.str = .c → s.guardHolds f.g = true → maySuspend s →
     s.recAt s.cur.recDie s.cur.recSlot = some r →
     (∃ u q, exec (.yield f) s = .next u ∧ u.recAt s.cur.recDie s.cur.recSlot = some q ∧ q.state = .ready ∧
       q.t0 = s.time ∧ q.prio = r.prio ∧ q.pc = ((s.cur.sc).fall false).1 ∧
       q.args = [s.cur.scalar .c 1, s.cur.scalar .c 2, s.cur.scalar .c 3, s.cur.scalar .c 4] ∧
       (u.coreAt s.core).mode = .idle ∧ .pickup s.core ∈ u.events) ∧
     ∃ u, exec (.exit f) s = .next u ∧ u.recAt s.cur.recDie s.cur.recSlot = none ∧ (u.coreAt s.core).mode = .idle ∧
       .pickup s.core ∈ u.events) ∧
  (∀ (s : State) (n die slot : Nat) (r : Rec), (s.coreAt n).mode = .idle → (s.coreAt n).stopping = false →
     (s.dieAt (dieOf n)).inService = true → (s.coreAt n).underTest = false → s.choose n = some ((die, slot), r) → (s.coreAt n).resident = some r.ctx →
     ∃ u, exec (.pickup n) s = .next u ∧
       let c := u.coreAt n
       c.mode = .running ∧ c.recDie = die ∧ c.recSlot = slot ∧ c.ctx = r.ctx ∧ c.sc.pc = r.pc ∧
       (∀ k, c.scalar .c k = if k = 0 ∨ 5 < k then 0 else if k = 5 then BitVec.ofNat 64 r.frameOff else r.args.getD (k - 1) 0) ∧
       (∀ k, c.tok k = if k = 15 then r.ftok else 0) ∧ (∀ k, c.scalar .a k = 0 ∧ c.scalar .x k = 0 ∧ c.vec k = 0) ∧
       (∀ k, c.maskReg k = if k = 0 then BitVec.allOnes 64 else 0) ∧ (∀ k, c.chk k = 0) ∧ c.cont = ContRegs.reset ∧ c.aview = 0 ∧
       (∀ q, c.loadQ q = [] ∧ c.storeQ q = []) ∧ c.binds = [] ∧ c.reqs = [] ∧ c.inflight = [] ∧ c.regPoison = [] ∧
       c.sa = StreamState.reset ∧ c.sx = StreamState.reset ∧
       c.sc = { StreamState.reset with started := true, pc := r.pc, residual := c.sc.residual } ∧
       c.localMem = (s.coreAt n).localMem ∧ u.recAt die slot = some { r with state := .running } ∧ (n, .c) ∈ u.turn)

/-! ### Memory -/

/-- A write that performs at the home of a line (R304, R312): the masked bytes take the new values and every other byte of
memory is served as before.

The device's own writes at their homes (R79, R418): the bytes of the list from an address on, and no other byte. -/
def Obligations.HomeAndDeviceWrites : Prop :=
  (∀ (s : State) (ctx l : Nat) (d : BitVec 1024) (m : BitVec 128) (p : BitVec 4) (a : Nat), tidy s →
     byteAt (s.homeWrite ctx l d m p) a = if lineNo a = l ∧ m.getLsbD (a % 128) = true then lineBytes d (a % 128) 1 else byteAt s a) ∧
  (∀ (s : State) (ctx a : Nat) (l : List Byte) (b : Nat), tidy s →
     byteAt (s.physWrite ctx a l) b = if a ≤ b ∧ b < a + l.length then (l.getD (b - a) 0).toNat else byteAt s b)

/-- R206, R304, R312: `lds` and `ldacq` of a word of ordinary memory, in C and A, behind nothing that the stream orders before
them: d receives the bytes that the word's home serves, extended as sgn says; when the core holds a copy of the line, it
supplies them (R307).

It rests on the model's choices of log entries 18, 19 and 20. -/
def Obligations.SharedLoads : Prop :=
  ∀ (f : FM) (s : State) (g : Seg), s.str ≠ .x → s.guardHolds f.g = true → tidy s → coherent s →
    s.cur.counterFull s.str .load = false → plainPart s g →
    let l := lineNo g.addr
    let size := 2 ^ f.sz.toNat
    let own := if g.frame.mode ≠ 1 ∧ g.frame.mode ≠ 3 ∧ s.cur.hasCache = true then SMap.find s.cur.lines l else none
    let data := match own with | some e => e.data | none => s.homeLine l
    (match own with | some e => e.poison | none => s.homePoison l) = 0 →
    (g.frame.cls ≠ 0 → keepsEntries s.cur s.cur.ctx (tokIndex (s.cur.tok f.s1.toNat))) →
    let form : Instr → MemOp → Prop := fun i op =>
      let r := s.newReq i 7 0 (s.rd f.s2) 0 .none .none
      s.checkReq s.core op r = .ok [g] → unhindered s op r [g] →
      ∃ u, exec i s = .next u ∧ (∀ a, byteKept s u a) ∧
        memoryDone s u (some (f.d.toNat, extended f.sgn size (lineBytes data g.lineOff size)))
    (f.hint ≠ 3 → form (.lds f) (fmMemOp f .load needR)) ∧
      form (.ldacq f) { fmMemOp f .load needR with na := false }

/-- R206, R304, R306, R307, R312: `sts` and `strel` of a word of ordinary memory, in C and A, behind nothing that the stream
orders before them. The bytes that d holds are served at the word's address from then on, and every other byte of memory
as before. On an SC or CP page that the core caches the store stays in the core's copy, and the home serves what it
served.

It rests on the model's choices of log entries 18, 19, 20 and 25. -/
def Obligations.SharedStores : Prop :=
  ∀ (f : FM) (s : State) (g : Seg), s.str ≠ .x → s.guardHolds f.g = true → tidy s → coherent s →
    s.cur.counterFull s.str .store = false → plainPart s g →
    let size := 2 ^ f.sz.toNat
    let form : Instr → MemOp → Prop := fun i op =>
      let r := s.newReq i 7 0 (s.rd f.s2) (s.rd f.d) .none .none
      s.checkReq s.core op r = .ok [g] → unhindered s op r [g] →
      ∃ u, exec i s = .next u ∧ memoryDone s u none ∧
        (g.frame.cls = 0 ∨ ¬ heldBack s op g → ∀ a, if g.addr ≤ a ∧ a < g.addr + size
          then byteAt u a = (s.rd f.d).toNat / 256 ^ (a - g.addr) % 256 else byteKept s u a) ∧
        (heldBack s op g → keepsEntries s.cur s.cur.ctx (tokIndex r.tok) → (∀ a, byteKept s u a) ∧
          ∃ e, SMap.find u.cur.lines (lineNo g.addr) = some e ∧
            ∀ k, k < size → lineBytes e.data (g.lineOff + k) 1 = (s.rd f.d).toNat / 256 ^ k % 256 ∧
              e.dirty.getLsbD (g.lineOff + k) = true)
    (f.hint ≠ 3 → form (.sts f) (fmMemOp f .store needW)) ∧
      form (.strel f) { fmMemOp f .store needW with na := false }

/-- R336, R337, R338: what each atomic leaves at its word and in d, in C and A, for a page of ordinary memory of any class,
behind nothing that the stream orders before it. Bytes that the issuing core has stored to the line of an SC or CP page and
has not written back reach the home first, and the atomic acts on the word that the home then holds; every copy that the
core has of such a line goes, and other cores keep theirs.

R345: `sigadd` adds to the count of a signal word, joins err, and takes the cause of the first error; `sigset` replaces
the word. In C and A, for a page of ordinary memory of any class.

It rests on the model's choices of log entries 19 and 20. -/
def Obligations.AtomicsAndSignals : Prop :=
  (∀ (f : FX) (s : State) (g : Seg) (old : Nat), s.str ≠ .x → s.guardHolds f.g = true → tidy s → coherent s →
     s.cur.counterFull s.str .load = false → plainPart s g →
     let size := 2 ^ f.sz.toNat
     pushedWord s g.addr size old →
     let w := 8 * size
     let v := (s.rd f.x).toNat % 2 ^ w
     let e := (s.rd f.d).toNat % 2 ^ w
     let sv := (BitVec.ofNat w v).toInt
     let so := (BitVec.ofNat w old).toInt
     let form : Instr → Nat → Nat → Prop := fun i k new =>
       let op := { fxMemOp f (.atomic k) needA with na := false }
       let r := s.newReq i 7 0 (s.rd f.s2) (s.rd f.x) ⟨(s.rd f.d).setWidth 2048, 0, false⟩ .none
       s.checkReq s.core op r = .ok [g] → unhindered s op r [g] →
       ∃ u, exec i s = .next u ∧ memoryDone s u (some (f.d.toNat, extended f.sgn size old)) ∧
         (∀ a, if g.addr ≤ a ∧ a < g.addr + size then byteAt u a = new / 256 ^ (a - g.addr) % 256 else byteKept s u a) ∧
         (g.frame.cls ≠ 0 → SMap.find u.cur.lines (lineNo g.addr) = none ∧
           ∀ n, n ≠ s.core → (u.coreAt n).lines = (s.coreAt n).lines)
     form (.aadd f) 0 ((old + v) % 2 ^ w) ∧ form (.amin f) 1 (if sv < so then v else old) ∧
     form (.amax f) 2 (if so < sv then v else old) ∧ form (.aminn f) 3 (min old v) ∧ form (.amaxn f) 4 (max old v) ∧
     form (.aand f) 5 (old &&& v) ∧ form (.aor f) 6 (old ||| v) ∧ form (.axor f) 7 (old ^^^ v) ∧ form (.aswap f) 8 v ∧
     form (.acas f) 9 (if old = e then v else old)) ∧
  (∀ (f : FM) (s : State) (g : Seg) (old : Nat), s.str ≠ .x → s.guardHolds f.g = true → f.sz = 3 → tidy s → coherent s →
     s.cur.counterFull s.str .sigadd = false → plainPart s g → pushedWord s g.addr 8 old →
     let sig : W64 := BitVec.ofNat 64 old
     let x := s.rd f.d
     let form : Instr → MemKind → W64 → Prop := fun i kind new =>
       let op := fmMemOp f kind needA
       let r := s.newReq i 7 0 (s.rd f.s2) x .none .none
       s.checkReq s.core op r = .ok [g] → unhindered s op r [g] →
       ∃ u, exec i s = .next u ∧ memoryDone s u none ∧
         (∀ a, if g.addr ≤ a ∧ a < g.addr + 8 then byteAt u a = new.toNat / 256 ^ (a - g.addr) % 256 else byteKept s u a) ∧
         (g.frame.cls ≠ 0 → SMap.find u.cur.lines (lineNo g.addr) = none ∧
           ∀ n, n ≠ s.core → (u.coreAt n).lines = (s.coreAt n).lines)
     (∃ new : W64, form (.sigadd f) .sigadd new ∧ new.getLsbD 63 = (sig.getLsbD 63 || x.getLsbD 63) ∧
       new.extractLsb' 56 7 = (if x.getLsbD 63 && !sig.getLsbD 63 then x.extractLsb' 56 7 else sig.extractLsb' 56 7) ∧
       new.extractLsb' 0 56 = sig.extractLsb' 0 56 + x.extractLsb' 0 56) ∧
     form (.sigset f) .sigset x)

/-- R214, R215, R307: the cache control forms of C and A on a line of ordinary memory, behind nothing that the stream orders
before them. `wback` and `inval` of an SC or CP line that the core holds perform its stored bytes at the home; `wback`
leaves the copy clean, and `inval` gives it up. Of an HC line, and of one that the core does not hold, they do nothing.
`discard` makes the line zero at its home; the copies of an HC line go, and of an SC or CP line the issuing core's own.

R216, R217: `pref` completes whatever its check says and changes no byte of memory and no register; `rprobe` tells which of
the 64 pages of 64 KiB from its offset are holes of the extent.

R294, R344: `fence` issues at once. While an earlier event of its stream that it orders is outstanding it stands among the
requests of the core, where the later events that it orders wait behind it; otherwise it leaves nothing.

It rests on the model's choices of log entries 18, 19, 20 and 25. -/
def Obligations.CacheControlAndFences : Prop :=
  (∀ (f : FM) (s : State) (g : Seg), s.str ≠ .x → s.guardHolds f.g = true → tidy s → coherent s →
     s.cur.counterFull s.str .wback = false → plainPart s g → keepsEntries s.cur s.cur.ctx (tokIndex (s.cur.tok f.s1.toNat)) →
     let l := lineNo g.addr
     let form : Instr → MemOp → (State → Prop) → Prop := fun i op post =>
       let r := s.newReq i 7 0 (s.rd f.s2) 0 .none .none
       s.checkReq s.core op r = .ok [g] → unhindered s op r [g] →
       ∃ u, exec i s = .next u ∧ memoryDone s u none ∧ post u
     let wop := { fmMemOp f .wback needR with size := 1 }
     let iop := { fmMemOp f .inval needR with size := 1 }
     let written : CLine → State → Prop := fun e u => ∀ a, byteAt u a =
       if lineNo a = l ∧ e.dirty.getLsbD (a % 128) = true then lineBytes e.data (a % 128) 1 else byteAt s a
     let same : State → Prop := fun u => (∀ a, byteAt u a = byteAt s a) ∧ u.cur.lines = s.cur.lines
     (∀ e, SMap.find s.cur.lines l = some e → e.cls ≠ 0 →
       form (.wback f) wop (fun u => written e u ∧ SMap.find u.cur.lines l = some { e with dirty := 0 }) ∧
       form (.inval f) iop (fun u => written e u ∧ SMap.find u.cur.lines l = none)) ∧
     ((∀ e, SMap.find s.cur.lines l = some e → e.cls = 0) → form (.wback f) wop same ∧ form (.inval f) iop same) ∧
     form (.discard f) { fmMemOp f .discard needW with size := 128 } (fun u =>
       (∀ a, byteAt u a = if lineNo a = l then 0 else byteAt s a) ∧
       ∀ n, SMap.find (u.coreAt n).lines l =
         if n = s.core ∨ g.frame.cls = 0 then none else SMap.find (s.coreAt n).lines l)) ∧
  (∀ (f : FM) (s : State), s.str ≠ .x → s.guardHolds f.g = true → tidy s → coherent s →
     (∃ u, exec (.pref f) s = .next u ∧ memoryDone s u none ∧ ∀ a, byteKept s u a) ∧
     ∀ e, s.cur.counterFull s.str .rprobe = false → keepsEntries s.cur s.cur.ctx (tokIndex (s.cur.tok f.s1.toNat)) →
       let o := fmOffset f (s.rd f.s2) 65536
       let op := { fmMemOp f .rprobe needR with size := 0 }
       s.checkToken s.cur.ctx (s.cur.tok f.s1.toNat) o 0 needR = .ok e →
       unhindered s op (s.newReq (.rprobe f) 7 0 (s.rd f.s2) 0 .none .none) [] →
       ∃ u v, exec (.rprobe f) s = .next u ∧ memoryDone s u (some (f.d.toNat, v)) ∧ memorySame s u ∧
         ∀ i, i < 64 → (v.getLsbD i = true ↔ o + i * 65536 < e.length.toNat ∧
           ∃ fr, e.frameAt (e.vbase.toNat + (o + i * 65536)) = some fr ∧ fr.hole = true)) ∧
  (∀ (f : FI) (s : State), s.str ≠ .x → s.guardHolds f.g = true → pruneFences s.cur.reqs = s.cur.reqs →
     let mask := f.imm.toNat % 2 ^ 16
     let kind := f.imm.toNat / 2 ^ 16 % 4
     let orders : EventKind → Prop := fun e => mask / 2 ^ e.cls % 2 = 1 ∧ (kind = 0 → e.load = true)
     let pending := ∃ q ∈ s.cur.reqs, q.str = s.str ∧ ∃ e, eventOf q.instr = some e ∧ orders e
     ∃ u, exec (.fence f) s = .next u ∧ onlyCore s u ∧ memorySame s u ∧ movedOn s u false ∧
       u.cur = { s.cur.setStream s.str (u.cur.stream s.str) with reqs := u.cur.reqs } ∧
       (¬ pending → u.cur.reqs = s.cur.reqs) ∧
       (pending → ∃ r, u.cur.reqs = s.cur.reqs ++ [r] ∧ r.instr = .fence f ∧ r.str = s.str ∧
         ∀ e : EventKind, r.holdsBack e = true ↔ (mask / 2 ^ e.cls % 2 = 1 ∧ (kind = 1 → e.store = true))))

/-- R311: the home's answers to the coherence requests keep every HC line coherent (R309) and leave every byte of memory as
it was: RdS, RdX, Upg, WB, Drop and a snoop, of a line that no core holds in another class.

It rests on the model's choice of log entry 26. -/
def Obligations.CoherenceRequests : Prop :=
  ∀ (s : State) (n l : Nat), tidy s → coherent s → isMapped (l * 128) = true → (s.coreAt n).hasCache = true → s.watched l = false →
    (∀ m e, SMap.find (s.coreAt m).lines l = some e → e.cls = 0) →
    (∀ k e, SMap.find (s.coreAt n).lines k = some e → e.cls = 0) →
    let keeps : Instr → (State → Prop) → Prop := fun i post =>
      ∃ u, exec i s = .next u ∧ coherent u ∧ (∀ a, byteAt u a = byteAt s a) ∧ post u
    let held : State → Option LineState := fun t => s.lineState n l |>.bind fun _ => t.lineState n l
    keeps (.rds n l) (fun u => s.lineState n l = none → (u.lineState n l = some .s ∨ u.lineState n l = some .e) ∧
      ∀ m, m ≠ n → u.lineState m l ≠ some .m ∧ u.lineState m l ≠ some .e) ∧
    keeps (.rdx n l) (fun u => s.lineState n l = none → u.lineState n l = some .m ∧ ∀ m, m ≠ n → u.lineState m l = none) ∧
    keeps (.upg n l) (fun u => (s.lineState n l = some .s ∨ s.lineState n l = some .o) →
      u.lineState n l = some .m ∧ ∀ m, m ≠ n → u.lineState m l = none) ∧
    keeps (.wb n l) (fun u => (s.lineState n l = some .m ∨ s.lineState n l = some .o) → held u = none) ∧
    keeps (.drop n l) (fun u => (s.lineState n l = some .e ∨ s.lineState n l = some .s) → held u = none) ∧
    keeps (.snoop n l true) (fun u => u.lineState n l = none) ∧
    keeps (.snoop n l false) (fun u => u.lineState n l ≠ some .m ∧ u.lineState n l ≠ some .e)

/-! ### Waiting -/

/-- R346, R347, R104: `sigwait` and `await` on a word of ordinary memory of this module. When the condition holds on the
word's value, d receives it and C goes on; otherwise the continuation parks: its record is WAITING with its arguments
and the PC of the next slot, a waiter stands at the word's home, and the core is idle.

R157, R158: `feed` of a queue on this module whose two checks pass. Bytes of the header that the issuing core has stored to
an SC or CP page reach the home first. When the queue holds an entry, head gains 1 and d receives the
offset of the entry claimed; when it is empty, a poll receives all ones, and a `feed` that blocks sleeps until it is
woken.

It rests on the model's choices of log entries 27 and 73. -/
def Obligations.WaitsAndFeeds : Prop :=
  (∀ (f : FM) (s : State) (ent : CabEntry) (g : Seg) (r : Rec), s.str = .c → s.guardHolds f.g = true → maySuspend s →
     s.checkToken s.cur.ctx (s.cur.tok f.s1.toNat) (fmOffset f (s.rd f.s2) 8) 8 needR = .ok ent →
     ent.elemSegs 0 (fmOffset f (s.rd f.s2) 8) 8 = [g] → (ent.vbase.toNat + fmOffset f (s.rd f.s2) 8) % 8 = 0 →
     plainPart s g → g.frame.cls = 0 → s.homePoison (lineNo g.addr) = 0 → keepsEntries s.cur s.cur.ctx (tokIndex (s.cur.tok f.s1.toNat)) →
     s.recAt s.cur.recDie s.cur.recSlot = some r →
     let v : W64 := BitVec.ofNat 64 (lineBytes (s.homeLine (lineNo g.addr)) g.lineOff 8)
     let t := s.rd f.d
     let room := (s.homes.waiters.filter fun q => homeAgent q.addr = homeAgent g.addr).length < 16384
     let form : Instr → Prop → Nat → Prop := fun i holds op =>
       (holds → ∃ u, exec i s = .next u ∧ onlyCore s u ∧ memorySame s u ∧ memoryDone s u (some (f.d.toNat, v))) ∧
       (¬ holds → room → ∃ u q, exec i s = .next u ∧ u.recAt s.cur.recDie s.cur.recSlot = some q ∧ q.state = .waiting ∧
         q.pc = (s.cur.sc.fall false).1 ∧ q.prio = r.prio ∧
         q.args = [s.cur.scalar .c 1, s.cur.scalar .c 2, s.cur.scalar .c 3, s.cur.scalar .c 4] ∧
         (u.coreAt s.core).mode = .idle ∧ u.homes.waiters = s.homes.waiters ++ [⟨g.addr, s.cur.recDie, s.cur.recSlot, 0, t, op, none⟩])
     form (.sigwait f) (0 ≤ (v.setWidth 56 - t.setWidth 56).toInt ∨ v.getLsbD 63 = true) 0 ∧
     (f.hint = 0 → form (.await f) (v ≠ t) 1) ∧ (f.hint = 1 → form (.await f) (v = t) 2)) ∧
  (∀ (f : FM) (s : State) (e : CabEntry) (h1 h2 : Seg) (r1 r2 : List Seg), s.str = .c → s.guardHolds f.g = true →
     let tok := s.cur.tok f.s1.toNat
     let q := fmOffset f (s.rd f.s2) 64
     let u := (s.noteToken s.core s.cur.ctx (tokIndex tok)).evictParts s.core (e.elemSegs 0 q 64)
     let n := u.entNat e (q + 16) 1 % 32
     let head := u.entNat e q 8
     let dist := (u.entNat e (q + 8) 8 + 2 ^ 64 - head) % 2 ^ 64
     s.checkToken s.cur.ctx tok q 64 (needR ||| needW) = .ok e →
     s.checkToken s.cur.ctx tok q (64 + 64 * 2 ^ n) (needR ||| needW) = .ok e → 1 ≤ n → n ≤ 16 →
     s.entUnmapped e q 64 = none → e.elemSegs 0 (q + 16) 1 = h1 :: r1 → e.elemSegs 0 q 16 = h2 :: r2 →
     s.isRemote h1.frame = false → s.isRemote h2.frame = false → s.movedPart h1 = false →
     (∀ g ∈ h2 :: r2, s.movedPart g = false) → s.cur.feedAsked = false →
     (0 < dist → dist < 2 ^ 63 → exec (.feed f) s = .next
       (((u.entWriteNat s.cur.ctx e q 8 ((head + 1) % 2 ^ 64)).wr f.d (BitVec.ofNat 64 (q + 64 + 64 * (head % 2 ^ n)))).advance false)) ∧
     (dist = 0 ∨ 2 ^ 63 ≤ dist →
       (f.hint = 1 → exec (.feed f) s = .next ((u.wr f.d (BitVec.allOnes 64)).advance false)) ∧
       (f.hint = 0 → s.cur.inside = none → ∃ w, exec (.feed f) s = .next w ∧ (w.cur.stream .c).pc = (s.cur.stream .c).pc ∧
         w.homes.feedSleepers = s.homes.feedSleepers ++ [(s.core, feedKey e q)] ∧
         ∃ x, exec (.feedWake s.core) w = .next x ∧ (∀ p ∈ x.homes.feedSleepers, p.1 ≠ s.core) ∧ x.cores = w.cores)))

/-- R348 to R350, R110, R111: barriers and phases of a group that the core is a member of. `gbar` takes its next count, tells
every other member, and completes once every member has arrived; `phase` goes on while no neighbour is more than the lead
behind. Counts that arrive from another core are recorded at the core that they reach.

It rests on the model's choice of log entry 67. -/
def Obligations.BarriersAndPhases : Prop :=
  ∀ (f : FI) (s : State) (k : GroupKey) (g : Group), s.str ≠ .x → s.guardHolds f.g = true → s.formGroup f = some (k, g) →
    let c := s.cur
    let b := countOf c.bars k + 1
    let v := countOf c.phases k + 1
    (c.arrived = none → c.loads .c = 0 → c.stores .c = 0 → c.loads .a = 0 → c.stores .a = 0 →
      ∃ u, exec (.gbar f) s = .next u ∧ countOf u.cur.bars k = b ∧ memorySame s u ∧
        (∀ m, m ∈ g.list → m ≠ s.core → .barrierCountArrival m s.core k b ∈ u.events) ∧
        (let met := ∀ m ∈ g.list, m ≠ s.core → atLeast (countOf c.heardBars (k, m)) b = true
         (met → u.cur.arrived = none ∧ u.cur.scalar s.str f.d.toNat = (if f.d = 0 then 0 else b.setWidth 64) ∧
           u.cur.stream s.str = (c.stream s.str).advance false) ∧
         (¬ met → u.cur.arrived = some (k, b) ∧ u.cur.stream s.str = c.stream s.str))) ∧
    ((∀ m ∈ g.neighbours s.core, atLeast (countOf c.heardPhases (k, m) + BitVec.ofNat 32 g.lead) v = true) →
      ∃ u, exec (.phase f) s = .next u ∧ countOf u.cur.phases k = v ∧ memorySame s u ∧
        u.cur.scalar s.str f.d.toNat = (if f.d = 0 then 0 else v.setWidth 64) ∧
        u.cur.stream s.str = (c.stream s.str).advance false ∧
        ∀ m ∈ g.neighbours s.core, .phaseCountArrival m s.core k v ∈ u.events) ∧
    ∀ (dst src : Nat) (w : BitVec 32),
      (∃ u, exec (.phaseCountArrival dst src k w) s = .next u ∧ countOf (u.coreAt dst).heardPhases (k, src) = w ∧
        ∀ k' src', (k', src') ≠ (k, src) → countOf (u.coreAt dst).heardPhases (k', src') = countOf (s.coreAt dst).heardPhases (k', src')) ∧
      (∃ u, exec (.barrierCountArrival dst src k w) s = .next u ∧ countOf (u.coreAt dst).heardBars (k, src) = w ∧
        ∀ k' src', (k', src') ≠ (k, src) → countOf (u.coreAt dst).heardBars (k', src') = countOf (s.coreAt dst).heardBars (k', src'))

/-! ### The A stream -/

/-- R187 to R191, R209, R210: the vector forms of A. A load reserves the next slot of its queue and a store takes its data
entry, an indexed form its index entry; the request joins A's list, A goes on to the next slot, and what may go on does so
at once. A request behind one that stands before it waits.

R172, R191, R209 to R211: the first request of A performs. A vector load of ordinary memory, consecutive, strided or indexed,
fills its slot with the bytes that their homes serve, each element's at its place, an element that is not enabled reading as
zero; `ldb` copies its one element to all of them. The enabled elements of a vector store are served at their addresses from
then on, where they overlap those of the highest-numbered. The request leaves A's list. A request whose check fails stops: it
keeps its place and its entries, its slot stays as it was, and the trap, of kind 1, names the cause, the queue and the
instruction that issued it; while a handler runs the trap is pending.

It rests on the model's choices of log entries 19 and 20. -/
def Obligations.RequestsIssueAndPerform : Prop :=
  (∀ (f : FM) (x : FX) (s : State), s.str = .a →
     let c := s.cur
     let gone : Instr → Core → Req → Prop := fun i d r =>
       let t := (s.modCur fun _ => { d with reqs := c.reqs ++ [r] }).advance false
       exec i s = exec (.requestPerform s.core .a) t ∧
         (s.ready s.core .a = [] → (∃ q ∈ c.reqs, s.standsBefore s.core q r = true) → exec i s = .next t)
     let load : Instr → Guard → BitVec 7 → BitVec 7 → W64 → Prop := fun i g d b w =>
       s.guardHolds g = true → c.counterFull .a .vload = false → (c.loadQ d.toNat).length < 16 →
         gone i (c.pushLq d.toNat ⟨false, 0, 0, 0, false⟩) (s.newReq i d.toNat (c.loadQ d.toNat).length (s.rd b) w .none .none)
     let store : Instr → Guard → BitVec 7 → BitVec 7 → W64 → Prop := fun i g d b w =>
       ∀ e rest, s.guardHolds g = true → c.counterFull .a .vstore = false → c.storeQ d.toNat = e :: rest →
         gone i (c.popSq d.toNat) (s.newReq i (4 + d.toNat) 0 (s.rd b) w e .none)
     load (.vld f) f.g f.d f.s2 0 ∧ load (.ldb f) f.g f.d f.s2 0 ∧ load (.vlds x) x.g x.d x.s2 (s.rd x.x) ∧
     store (.vst f) f.g f.d f.s2 0 ∧ store (.vsts x) x.g x.d x.s2 (s.rd x.x) ∧
     (∀ e rest, s.guardHolds x.g = true → c.counterFull .a .vload = false → (c.loadQ x.d.toNat).length < 16 →
       c.storeQ x.x.toNat = e :: rest →
       gone (.vldx x) ((c.popSq x.x.toNat).pushLq x.d.toNat ⟨false, 0, 0, 0, false⟩)
         (s.newReq (.vldx x) x.d.toNat (c.loadQ x.d.toNat).length (s.rd x.s2) 0 .none e)) ∧
     ∀ e rest e' rest', s.guardHolds x.g = true → c.counterFull .a .vstore = false → x.d.toNat ≠ x.x.toNat →
       c.storeQ x.d.toNat = e :: rest → c.storeQ x.x.toNat = e' :: rest' →
       gone (.vstx x) ((c.popSq x.d.toNat).popSq x.x.toNat) (s.newReq (.vstx x) (4 + x.d.toNat) 0 (s.rd x.s2) 0 e e')) ∧
  (∀ (f : FM) (s : State) (n : Nat) (r : Req), tidy s → coherent s →
     (s.coreAt n).reqs = r :: (s.coreAt n).reqs.tail → r.str = .a → r.stop = none → r.await = [] → r.checked = false →
     r.got = [] → (∀ q ∈ (s.coreAt n).reqs.tail, q.num ≠ r.num) → r.data.poison = false → r.index.poison = false →
     let ctx := (s.coreAt n).ctx
     let readable : Seg → Prop := fun g => plainPart s g ∧ g.frame.cls = 0 ∧ s.homePoison (lineNo g.addr) = 0
     let leaves : State → Prop := fun u => (u.coreAt n).reqs = pruneFences (s.coreAt n).reqs.tail
     (∀ op size en o e, memOpOf r.instr = some op → vectorElems r = some (size, en, o) →
       let js := (List.range (256 / size)).filter en
       let parts := js.flatMap fun j => e.elemSegs j (o j) size
       (∀ j ∈ js, s.checkOn n ctx r.tok (o j) size op.need = .ok e) → (∀ g ∈ parts, readable g) →
       let q := (s.coreAt n).loadQ op.d
       (op.kind = .vload → r.slot < q.length →
         ∃ u ent, exec (.requestPerform n .a) s = .next u ∧ leaves u ∧ (u.coreAt n).loadQ op.d = q.set r.slot ent ∧
           ent.filled = true ∧ ent.resid = 0 ∧ ent.view = 0 ∧ ent.poison = false ∧
           (∀ g ∈ parts, ∀ k, k < g.len → elem 8 ent.data (size * g.elem + g.pos + k) = byteAt s (g.addr + k)) ∧
           ∀ j, j < 256 / size → en j = false → elem (8 * size) ent.data j = 0) ∧
       (op.kind = .vstore → r.sent = false →
         ∃ u, exec (.requestPerform n .a) s = .next u ∧ leaves u ∧
           ∀ pre g rest, parts = pre ++ g :: rest → ∀ k, k < g.len →
             (∀ h ∈ rest, ¬ (h.addr ≤ g.addr + k ∧ g.addr + k < h.addr + h.len)) →
             byteAt u (g.addr + k) = elem 8 r.data.data (size * g.elem + g.pos + k))) ∧
     (∀ e, r.instr = .ldb f →
       let size := 2 ^ f.sz.toNat
       let o := memOffset r.base f.off.toInt size
       let q := (s.coreAt n).loadQ f.d.toNat
       s.checkOn n ctx r.tok o size needR = .ok e → (∀ g ∈ e.elemSegs 0 o size, readable g) → r.slot < q.length →
       ∃ u ent, exec (.requestPerform n .a) s = .next u ∧ leaves u ∧ (u.coreAt n).loadQ f.d.toNat = q.set r.slot ent ∧
         ent.filled = true ∧ ent.resid = 0 ∧ ent.view = 0 ∧ ent.poison = false ∧
         ∀ j, j < 256 / size → ∀ g ∈ e.elemSegs 0 o size, ∀ k, k < g.len →
           elem 8 ent.data (size * j + g.pos + k) = byteAt s (g.addr + k)) ∧
     (∀ op x, memOpOf r.instr = some op → s.checkReq n op r = .error x →
       exec (.requestPerform n .a) s = .next ((s.stopA n r x).postReady n .a) ∧
       ∃ u q rest, exec (.requestPerform n .a) s = .next u ∧ (u.coreAt n).reqs = q :: rest ∧
         rest.map (fun p => p.num) = (s.coreAt n).reqs.tail.map (fun p => p.num) ∧
         q = { r with stop := some x, sent := false, id := none, result := none, status := 0, before := q.before } ∧
         (u.coreAt n).lq = (s.coreAt n).lq ∧ (u.coreAt n).sq = (s.coreAt n).sq ∧ memorySame s u ∧
         (deliverable s n .a x.code → (u.coreAt n).cont.th = true ∧
           (u.coreAt n).cont.cause = causeWord 1 .a (x.info + r.queue) x.code ∧ (u.coreAt n).cont.epc = pcReg r.pc) ∧
         ((s.coreAt n).cont.th = true → (s.coreAt n).saving = none → (s.coreAt n).inside = none → (s.coreAt n).mode = .running →
           (s.coreAt n).pendA = none →
           ∃ p, (u.coreAt n).pendA = some p ∧ p.cause = causeWord 1 .a (x.info + r.queue) x.code ∧ p.epc = pcReg r.pc)))

/-- R212, R213: the local vector forms of A and the moves between its registers and queues. A local form performs when it
issues, and stalls until nothing of A that is ordered before it is outstanding and its counter has room (R190, R195,
R291).

It rests on the model's choice of log entry 20. -/
def Obligations.LocalVectors : Prop :=
  ∀ (f : FM) (m : F3) (s : State), s.str = .a → s.guardHolds f.g = true → s.guardHolds m.g = true →
    let c := s.cur
    let b := f.s1.toNat
    let o := fmOffset f (s.rd f.s2)
    let goes : Instr → Core → Prop := fun i d => exec i s = .next ((s.modCur fun _ => d).advance false)
    let vec : Nat → Vec := fun a => vecOfBytes (c.bufBytes b a 256)
    let waits : Instr → Prop := fun i => s.localReady i = false → exec i s = .next s
    (mayReadBuf .a b = true → c.inBuf b (o 256) 256 = true → c.bufPoison b (o 256) 256 = false → waits (.lld f)) ∧
    (mayReadBuf .a b = true → c.inBuf b (o 1024) 1024 = true → c.bufPoison b (o 1024) 1024 = false → waits (.vlld f)) ∧
    (mayWriteBuf .a b = true → c.inBuf b (o 256) 256 = true → waits (.lst f)) ∧
    (mayWriteBuf .a b = true → c.inBuf b (o 512) 512 = true → waits (.vlst f)) ∧
    (s.localReady (.lld f) = true → mayReadBuf .a b = true → c.inBuf b (o 256) 256 = true → c.bufPoison b (o 256) 256 = false → (c.loadQ f.d.toNat).length < 16 →
      goes (.lld f) (c.pushLq f.d.toNat ⟨true, vec (o 256), 0, 0, false⟩)) ∧
    (s.localReady (.vlld f) = true → mayReadBuf .a b = true → c.inBuf b (o 1024) 1024 = true → c.bufPoison b (o 1024) 1024 = false →
      (∀ q, q < 4 → (c.loadQ q).length < 16) →
      ∃ u, exec (.vlld f) s = .next u ∧ onlyCore s u ∧ movedOn s u false ∧
        u.cur = { c.setStream .a (u.cur.stream .a) with lq := u.cur.lq } ∧
        ∀ q, u.cur.loadQ q = if q < 4 then c.loadQ q ++ [⟨true, vec (o 1024 + 256 * q), 0, 0, false⟩] else c.loadQ q) ∧
    (∀ e rest, s.localReady (.lst f) = true → mayWriteBuf .a b = true → c.inBuf b (o 256) 256 = true → c.storeQ f.d.toNat = e :: rest → e.poison = false →
      ∃ u, exec (.lst f) s = .next u ∧ onlyCore s u ∧ movedOn s u false ∧ u.cur.storeQ f.d.toNat = rest ∧
        (∀ i, i < 256 → (Memory.read u.cur.localMem (c.bufAddr b (o 256 + i))).toNat =
          if e.enable.getLsbD (i / 4) then elem 8 e.data i else (Memory.read c.localMem (c.bufAddr b (o 256 + i))).toNat) ∧
        ∀ a, (∀ i, i < 256 → a ≠ c.bufAddr b (o 256 + i)) → Memory.read u.cur.localMem a = Memory.read c.localMem a) ∧
    (∀ e rest e' rest', s.localReady (.vlst f) = true → mayWriteBuf .a b = true → c.inBuf b (o 512) 512 = true → c.storeQ 0 = e :: rest →
      c.storeQ 1 = e' :: rest' → e.poison = false → e'.poison = false →
      ∃ u, exec (.vlst f) s = .next u ∧ onlyCore s u ∧ movedOn s u false ∧ u.cur.storeQ 0 = rest ∧ u.cur.storeQ 1 = rest' ∧
        (∀ i, i < 512 → (Memory.read u.cur.localMem (c.bufAddr b (o 512 + i))).toNat =
          (let p := if i < 256 then e else e'
          if p.enable.getLsbD (i % 256 / 4) then elem 8 p.data (i % 256)
          else (Memory.read c.localMem (c.bufAddr b (o 512 + i))).toNat)) ∧
        ∀ a, (∀ i, i < 512 → a ≠ c.bufAddr b (o 512 + i)) → Memory.read u.cur.localMem a = Memory.read c.localMem a) ∧
    ((c.loadQ m.d.toNat).length < 16 → ∃ v, goes (.lqput m) (c.pushLq m.d.toNat ⟨true, v, 0, 0, false⟩) ∧
      ∀ j, j < elemCount (typeWidth m.fmt.toNat) → elem (typeWidth m.fmt.toNat) v j = (s.rd m.s1).toNat % 2 ^ typeWidth m.fmt.toNat) ∧
    ∀ e rest, c.storeQ m.s1.toNat = e :: rest →
      goes (.sqdrop m) { c with sq := SMap.put c.sq m.s1.toNat rest } ∧
      (e.poison = false → goes (.sqget m) (({ c with sq := SMap.put c.sq m.s1.toNat rest }).setScalar .a m.d.toNat
        (BitVec.ofNat 64 (elem 64 e.data ((s.rd m.s2).toNat % 32)))))

/-! ### Tokens -/

/-- R171: the check of a token against the copy of its entry in the token cache of the issuing core, or against the entry of
the Cabinet when the core holds no copy: a token with bits in its low 24, or of generation 0, or whose entry is not LIVE in its
generation, is stale; the rights needed must be in the token and in the entry; the bytes must lie in the extent.

R163, R164: the fields of an entry's ctl word and of a token.

It rests on the model's choice of log entry 22. -/
def Obligations.TokenChecks : Prop :=
  (∀ (s : State) (ctx : Nat) (t : W64) (off size : Nat) (need : BitVec 4),
     let i := (t.extractLsb' 52 12).toNat
     let e := ((s.cur.tcache.find? fun p => p.1 = (ctx, i)).map (·.2)).getD (s.cab ctx i)
     let gen := (t.extractLsb' 28 24).toNat
     let stale := t.extractLsb' 0 24 ≠ 0 ∨ gen = 0 ∨ e.state ≠ .live ∨ e.gen ≠ gen
     let denied := need &&& ~~~(t.extractLsb' 24 4 &&& e.rights) ≠ 0
     let outside := 2 ^ 40 ≤ off ∨ e.length.toNat < off + size
     s.checkToken ctx t off size need = (
       if stale then .error cStale else if denied then .error cRights else if outside then .error cBounds else .ok e)) ∧
  (∀ (e : CabEntry) (i g : Nat) (r : BitVec 4), i < 4096 → g < 2 ^ 24 → e.gen < 2 ^ 24 →
     let c := e.ctl
     let t := mkToken i g r
     c.extractLsb' 61 3 = (match e.state with | .free => 0 | .busy => 1 | .live => 2 | .draining => 3 | .stale => 4 | .retired => 5) ∧
     (c.extractLsb' 28 24).toNat = e.gen ∧ c.extractLsb' 24 4 = e.rights ∧ c.getLsbD 1 = e.holes ∧
     (t.extractLsb' 52 12).toNat = i ∧ (t.extractLsb' 28 24).toNat = g ∧ t.extractLsb' 24 4 = r ∧ t.extractLsb' 0 24 = 0)

/-- R199 to R203: the token forms that complete at once: what `tquery` reads and writes, `tchk`'s verdict, and an `xlat`
whose operands are refused (R167).

It rests on the model's choice of log entry 22. -/
def Obligations.TokenReads : Prop :=
  ∀ (f : F3) (s : State), s.str ≠ .x → s.guardHolds f.g = true →
    let t := s.cur.tok f.fmt.toNat
    let e := s.cab s.cur.ctx (t.extractLsb' 52 12).toNat
    let r : Instr → W64 → Prop := fun i v => writesScalar (exec i s) s false f.d.toNat v
    r (.tqueryCtl f) e.ctl ∧ r (.tqueryVbase f) e.vbase ∧ r (.tqueryLen f) e.length ∧ r (.tqueryGet f) t ∧
    exec (.tquerySet f) s = .next ((s.modCur fun c => c.setTok f.fmt.toNat (s.rd f.d)).advance false) ∧
    exec (.tqueryCur f) s = .next (((s.modCur fun c => c.setTok f.fmt.toNat
      (if e.state = .free ∨ e.state = .retired then 0
       else mkToken (t.extractLsb' 52 12).toNat e.gen (t.extractLsb' 24 4 &&& e.rights))).wr f.d e.ctl).advance false) ∧
    exec (.tchk f) s = .next (((s.noteToken s.core s.cur.ctx (tokIndex t)).wr f.d
      (match s.checkToken s.cur.ctx t (s.rd f.s1).toNat (s.rd f.s2).toNat f.fn with
       | .ok _ => 0 | .error c => BitVec.ofNat 64 c)).advance false) ∧
    (let vb := (s.rd f.s1).toNat
     let len := (s.rd f.s2).toNat
     (2 ^ 57 ≤ vb → r (.xlat f) 2) ∧
     (vb < 2 ^ 57 → (len = 0 ∨ 2 ^ 40 < len ∨ 2 ^ 57 < vb + len) → r (.xlat f) 3) ∧
     (vb < 2 ^ 57 → len ≠ 0 → len ≤ 2 ^ 40 → vb + len ≤ 2 ^ 57 → f.fn = 0 → r (.xlat f) 6))

/-- R165 to R168, R200: a translation whose operands are good takes the lowest FREE entry whose generation can rise, which is
BUSY while C waits. When every page of the range translates, no frame is on another chip and the frame lists have
room, the entry becomes LIVE with the rights asked for and its generation one up, the token is written, and the
status is 0.

R173, R201, R202: `tdrop` and `refresh` of a LIVE entry of the token's generation start a drain: the entry is DRAINING with its
generation one up, every core that caches it is told, and C waits. A shoot-down takes the entry out of a core's
cache; once none holds it and nothing is in flight, DRAIN_COMPLETE leaves it FREE after a `tdrop`, with status 0, and
BUSY with a translation under way after a `refresh`.

It rests on the model's choices of log entries 22 and 23. -/
def Obligations.TranslationsAndDrains : Prop :=
  (∀ (f : F3) (s : State) (i : Nat), s.str = .c → s.guardHolds f.g = true →
     let vb := s.rd f.s1
     let len := s.rd f.s2
     let ctx := s.cur.ctx
     vb.toNat < 2 ^ 57 → len ≠ 0 → len.toNat ≤ 2 ^ 40 → vb.toNat + len.toNat ≤ 2 ^ 57 → f.fn ≠ 0 →
     i < 4096 → (s.cab ctx i).state = .free → (s.cab ctx i).gen < 2 ^ 24 - 1 →
     (∀ j, j < i → (s.cab ctx j).state ≠ .free) → (s.cab ctx i).later = [] → frozenElsewhere s.cur →
     ∃ u, exec (.xlat f) s = .next u ∧ (u.cab ctx i).state = .busy ∧ u.cur.stream .c = s.cur.stream .c ∧
       u.cur.cwait = .translation f.d.toNat f.fmt.toNat i vb len f.fn true [] 0 false ∧
       ∀ frames t, u.walkPages (dieOf s.core) ctx f.fn (vb.toNat + len.toNat) (len.toNat / 65536 + 2) vb.toNat [] = (.ok frames, t) →
         (∀ fr ∈ frames, fr.hole = false → s.isRemote fr = false) →
         (t.ctxAt ctx).frameUsed + frameUnits vb.toNat len.toNat frames ≤ (t.ctxAt ctx).frameUnits →
         ∃ w, exec (.translationComplete s.core) u = .next w ∧ (w.cab ctx i).state = .live ∧
           (w.cab ctx i).gen = (s.cab ctx i).gen + 1 ∧ (w.cab ctx i).rights = f.fn ∧ (w.cab ctx i).vbase = vb ∧
           (w.cab ctx i).length = len ∧ (w.cab ctx i).frames = frames ∧
           w.cur.tok f.fmt.toNat = mkToken i ((s.cab ctx i).gen + 1) f.fn ∧ (f.d ≠ 0 → w.cur.scalar .c f.d.toNat = 0) ∧
           w.cur.stream .c = (s.cur.stream .c).advance false ∧ w.cur.cwait = .none) ∧
  (∀ (f : F3) (s : State), s.str = .c → s.guardHolds f.g = true → s.cur.cwait = .none →
     let t := s.cur.tok f.fmt.toNat
     let i := tokIndex t
     let ctx := s.cur.ctx
     let e := s.cab ctx i
     e.state = .live → e.gen = tokGen t → e.gen < 2 ^ 24 - 1 → e.later = [] → SMap.sorted s.cores = true →
     frozenElsewhere s.cur → (∀ n, n ≠ s.core → ∀ w ∈ (s.coreAt n).waits, (match w with | .drain _ _ _ _ => False | _ => True)) →
     let starts : Instr → DrainKind → (State → Prop) → Prop := fun instr kind done =>
       ∃ u, exec instr s = .next u ∧ u.cab ctx i = { e with state := .draining, gen := e.gen + 1, drain := kind, retire := false, waiters := [] } ∧
         u.cur.stream .c = s.cur.stream .c ∧ .drainComplete ctx i ∈ u.events ∧
         (∀ p ∈ s.cores, (p.2.cachedEntry ctx i).isSome = true → .shootDown p.1 ctx i ∈ u.events) ∧
         (∀ n, ∃ w, exec (.shootDown n ctx i) u = .next w ∧ (w.coreAt n).tcache = (u.coreAt n).tcache.filter fun p => p.1 ≠ (ctx, i)) ∧
         (e.inflight = 0 → (∀ p ∈ s.cores, p.2.cachedEntry ctx i = none) → s.entryLeaving e = false →
           ∃ w, exec (.drainComplete ctx i) u = .next w ∧ done w)
     starts (.tdrop f) .drop (fun w => (w.cab ctx i).state = .free ∧ (w.cab ctx i).gen = e.gen + 1 ∧ (w.cab ctx i).frames = [] ∧
       w.cur.cwait = .none ∧ (f.d ≠ 0 → w.cur.scalar .c f.d.toNat = 0) ∧ w.cur.stream .c = (s.cur.stream .c).advance false) ∧
     starts (.refresh f) .refresh (fun w => (w.cab ctx i).state = .busy ∧ (w.cab ctx i).gen = e.gen + 1 ∧
       w.cur.cwait = .translation f.d.toNat f.fmt.toNat i e.vbase e.length e.rights false [] 0 false ∧ .translationComplete s.core ∈ w.events))

/-- R396, R173: `revoke` of a LIVE entry starts its drain and `grant` copies an entry that the caller may read into a FREE entry of
another context; `tcflush` empties the TLBs of a context. All need supervisor level.

It rests on the model's choice of log entry 33. -/
def Obligations.SupervisorTokens : Prop :=
  ∀ (f : F3) (s : State), s.str = .c → s.curCtx.sup = true → s.guardHolds f.g = true →
    let a := s.rd f.s1
    let ctx := a.toNat % 1024
    (∀ sig, a.extractLsb' 10 42 = 0 → (s.ctxAt ctx).live = true →
      s.checkToken s.cur.ctx (s.cur.tok f.s2.toNat) (s.rd f.d).toNat 8 needA = .ok sig → (s.rd f.d).toNat % 8 = 0 →
      let i := (a.extractLsb' 52 12).toNat
      (s.cab ctx i).state = .live → (s.cab ctx i).gen < 2 ^ 24 - 1 →
      ∃ u, exec (.revoke f) s = .next u ∧ (u.cab ctx i).state = .draining ∧ (u.cab ctx i).gen = (s.cab ctx i).gen + 1 ∧
        (u.cab ctx i).drain = .revoke ∧ (u.cab ctx i).waiters = [⟨s.cur.ctx, s.cur.tok f.s2.toNat, s.rd f.d, 0⟩] ∧
        .drainComplete ctx i ∈ u.events ∧ u.cur.stream .c = (s.cur.stream .c).advance false) ∧
    (∀ src i, a.extractLsb' 28 36 = 0 → a.extractLsb' 10 14 = 0 → (s.ctxAt ctx).live = true →
      s.checkToken s.cur.ctx (s.cur.tok f.s2.toNat) 0 0 0 = .ok src →
      let want := a.extractLsb' 24 4
      want ≠ 0 → want &&& ~~~src.rights = 0 → i < 4096 → (s.cab ctx i).state = .free → (s.cab ctx i).gen < 2 ^ 24 - 1 →
      (∀ j, j < i → (s.cab ctx j).state ≠ .free) → (s.ctxAt ctx).frameUsed + src.units ≤ (s.ctxAt ctx).frameUnits →
      ∃ u, exec (.grant f) s = .next u ∧ (u.cab ctx i).state = .live ∧ (u.cab ctx i).rights = want ∧
        (u.cab ctx i).vbase = src.vbase ∧ (u.cab ctx i).length = src.length ∧ (u.cab ctx i).frames = src.frames ∧
        (f.d ≠ 0 → u.cur.scalar .c f.d.toNat = mkToken i ((s.cab ctx i).gen + 1) want) ∧
        u.cur.stream .c = (s.cur.stream .c).advance false) ∧
    (a.toNat < 1024 → ∃ u, exec (.tcflush f) s = .next u ∧ u = { s with dies := u.dies, cores := u.cores } ∧ onlyCore s { u with dies := s.dies } ∧
      movedOn s u false ∧ ∀ d, d < 4 → (u.dieAt d).tlb = (s.dieAt d).tlb.filter fun t => t.ctx ≠ a.toNat)

/-- R169, R178: a home counts the pins of a frame and answers a pin request; a tier move changes nothing but where the home keeps the page.

R205, R418: `reqpg` of a good block appends one entry to the page-request ring: the block, the signal word, the context and the
core; it stalls while the ring holds 256. -/
def Obligations.PagesAtHomes : Prop :=
  (∀ (s : State) (p : Packet) (frame size dest : Nat),
     let k := p.line * 128 / 65536
     (∃ v q, exec (.pinRequest p) s = .next (State.send v q) ∧ v = { s with homes := v.homes } ∧
       q.kind = 4 ∧ q.dst = p.src ∧ q.op = 1 ∧ q.line = p.line ∧ q.body = p.body) ∧
     (∃ u, exec (.pinRequest p) s = .next u ∧ SMap.get 0 u.homes.pins k = SMap.get 0 s.homes.pins k + 1 ∧
       (∀ j, j ≠ k → SMap.get 0 u.homes.pins j = SMap.get 0 s.homes.pins j) ∧ u.mem = s.mem ∧ u.cores = s.cores) ∧
     (∃ u, exec (.unpinRequest p) s = .next u ∧ SMap.get 0 u.homes.pins k = SMap.get 0 s.homes.pins k - 1 ∧
       (∀ j, j ≠ k → SMap.get 0 u.homes.pins j = SMap.get 0 s.homes.pins j) ∧ u.mem = s.mem ∧ u.cores = s.cores) ∧
     ∃ u, exec (.tierMove frame size dest) s = .next u ∧ (frame, size, dest) ∈ u.homes.tiers ∧
       u = { s with homes := { s.homes with tiers := u.homes.tiers } }) ∧
  (∀ (f : FM) (s : State) (e1 e2 : CabEntry), s.str ≠ .x → s.guardHolds f.g = true →
     let c := s.cur
     let a := (s.rd f.d).toNat
     let block := c.bufBytes 1 a 32
     let stok := c.tok f.s1.toNat
     let soff := fmOffset f (s.rd f.s2) 8
     let ring := s.curCtx.preq
     let tail := s.physNat (ring + 8) 8
     a % 32 = 0 → c.inBuf 1 a 32 = true → natAt block 24 8 = 0 → s.checkToken c.ctx stok soff 8 needA = .ok e1 →
     s.checkToken c.ctx (BitVec.ofNat 64 (natAt block 0 8)) (natAt block 8 8) (natAt block 16 8) needR = .ok e2 →
     isMapped ring = true → c.bufPoison 1 a 32 = false →
     let u := (s.noteToken s.core c.ctx (tokIndex stok)).noteToken s.core c.ctx (tokIndex (BitVec.ofNat 64 (natAt block 0 8)))
     let full := (tail + 2 ^ 64 - s.physNat ring 8) % 2 ^ 64 = 256
     (¬ full → exec (.reqpg f) s = .next (((u.physWrite c.ctx (ring + 64 + 64 * (tail % 256))
       (block ++ bytesOf 8 stok.toNat ++ bytesOf 8 soff ++ bytesOf 8 (c.ctx % 1024 + s.core % 128 * 2 ^ 16) ++ bytesOf 8 0)).physWriteNat
         c.ctx (ring + 8) 8 (tail + 1)).advance false)) ∧
     (full → exec (.reqpg f) s = .next s.stalled))

/-! ### Bundles -/

/-- R320 to R324, R329 to R333: the forms on a record of this chip's Wardrobe. `bnew` takes the lowest FREE record, which is OPEN;
`bjoin` adds a companion and binds the class; the last participant's `bseal` commits the bundle with the next stamp, and
the lines that hold its pending versions take them; `babort` ends an OPEN bundle ABORTED, and its answer waits until every
other chip of the group knows it. Each then goes on; `bseal` and `babort` unbind the class.

It rests on the model's choice of log entry 42. -/
def Obligations.BundleForms : Prop :=
  ∀ (fi : FI) (f : FM) (s : State), s.str = .c → s.guardHolds fi.g = true → s.guardHolds f.g = true →
    let p := fi.imm.toNat % 256
    let cls := fi.imm.toNat % 16
    let went : State → Prop := fun u => u.cur.stream .c = (s.cur.stream .c).advance false ∧ u.cur.cwait = .none ∧ memorySame s u
    let t := s.rd f.d
    let name := t.toNat % 2 ^ 32
    let n := t.toNat / 2 ^ 32 % 2 ^ 21
    let o := fmOffset f (s.rd f.s2) 128
    (∀ i, 1 ≤ p → p ≤ 64 → s.rd fi.s1 = BitVec.ofNat 64 s.ownPeer → s.ownPeer < 4096 → s.homes.freeRecord = some i →
      ∃ u r, exec (.bnew fi) s = .next u ∧ went u ∧ u.ward i = some r ∧ r.state = 1 ∧ r.parties = p ∧ r.joined = 0 ∧
        r.domain = s.curCtx.bundleDomain ∧ r.conflict = false ∧ r.companions = [] ∧
        (fi.d ≠ 0 → u.cur.scalar .c fi.d.toNat = BitVec.ofNat 64 (s.ownPeer * 2 ^ 20 + i))) ∧
    (∀ ent r, badName t = false → n ≠ 0 → s.checkToken s.cur.ctx (s.cur.tok f.s1.toNat) o (128 * n) needW = .ok ent →
      (∀ g ∈ ent.frames, g.bundle = true) → (s.cur.bound f.cls.toNat = none ∨ s.cur.bound f.cls.toNat = some name) →
      keepsEntries s.cur s.cur.ctx (tokIndex (s.cur.tok f.s1.toNat)) →
      namePeer name = s.ownPeer → s.ward (nameIndex name) = some r → r.domain = s.curCtx.bundleDomain → r.state = 1 →
      r.companions.length < 64 → r.joiners.contains (s.ownPeer, s.continuation s.core) = false → r.joined < r.parties →
      ∃ u q, exec (.bjoin f) s = .next u ∧ went u ∧ u.cur.bound f.cls.toNat = some name ∧ u.ward (nameIndex name) = some q ∧
        q = { r with joined := r.joined + 1, joiners := r.joiners ++ [(s.ownPeer, s.continuation s.core)],
                     companions := r.companions ++ [⟨s.ownPeer, s.cur.ctx, s.cur.tok f.s1.toNat, o, n⟩] }) ∧
    (∀ name r, s.cur.bound cls = some name → namePeer name = s.ownPeer → s.ward (nameIndex name) = some r →
      let last := s.cur.lastBound cls name
      (s.cur.sa.idle = true → s.cur.stores .a = 0 → s.cur.jobsInClass cls = false → r.state = 1 → last = true →
        r.sealedN + 1 = r.parties → r.conflict = false → s.homes.sequencer.getD s.ownPeer = s.ownPeer → tidy s →
        ∃ u q, exec (.bseal fi) s = .next u ∧ u.cur.stream .c = (s.cur.stream .c).advance false ∧ u.cur.cwait = .none ∧
          (∀ n a, Memory.read (u.coreAt n).localMem a = Memory.read (s.coreAt n).localMem a) ∧
          (∀ a, (Memory.read u.mem a).toNat = match (s.bLine (lineNo a)).pending with
            | some (b, d, _) => if b = name then lineBytes d (a % 128) 1 else (Memory.read s.mem a).toNat
            | none => (Memory.read s.mem a).toNat) ∧
          u.cur.bound cls = none ∧ u.ward (nameIndex name) = some q ∧
          q.state = 3 ∧ q.stamp = s.homes.nextStamp ∧ u.homes.nextStamp = s.homes.nextStamp + 1 ∧
          .recordFree (nameIndex name) ∈ u.events ∧
          (fi.d ≠ 0 → u.cur.scalar .c fi.d.toNat = BitVec.ofNat 64 (2 ^ 62 + s.homes.nextStamp % 2 ^ 48))) ∧
      (r.state = 1 → r.ending = false → ∃ u q, exec (.babort fi) s = .next u ∧ u.ward (nameIndex name) = some q ∧
        q.state = 4 ∧ q.released = r.released + (if last then 1 else 0) ∧ q.acks = s.others.length ∧
        (s.others = [] → went u ∧ u.cur.bound cls = none) ∧
        (s.others ≠ [] → u.cur.stream .c = s.cur.stream .c ∧ u.cur.cwait = .bundle 0 cls name 3 ∧
          q.answers = r.answers ++ [(s.ownPeer, s.core, 0)])))

/-- R326, R334, R335: `bview.now` and `bview.clr` set and clear the view, `bview.set` sets it to a stamp that is complete
here; each gives the complete-through stamp. `bcheck` reads a record of this chip and `bcheck` of a class the name
bound to it.

R318, R321 to R323: what reaches a record's home and the Hutch. A notice is kept, the complete-through stamp rises over every
stamp whose notice has arrived, and the lines of this chip that the bundle wrote commit; the sequencer answers a request with the next stamp; a stamp that arrives for a SEALING record of this
chip makes it COMMITTED with that stamp, its notice goes out, and the `bseal` that waits is answered; a stamp for this chip's
single-line bundles is kept for the store that waits, and is told to every chip when no store has taken it by a second look; a peer's `bnew` takes a record here; the record of a committed bundle is freed, once every other chip of the group has been
told.

It rests on the model's choice of log entry 42. -/
def Obligations.BundleViewsAndEvents : Prop :=
  (∀ (f : FI) (s : State), s.str = .c → s.guardHolds f.g = true →
     let through : W64 := BitVec.ofNat 64 s.homes.complete
     let views : Instr → W64 → Prop := fun i v =>
       exec i s = .next (((s.modCur fun c => { c with cont := { c.cont with bview := v } }).wr f.d through).advance false)
     let t := s.rd f.s1
     let name := t.toNat % 2 ^ 32
     views (.bviewNow f) (BitVec.ofNat 64 (2 ^ 63 + s.homes.complete % 2 ^ 48)) ∧ views (.bviewClr f) 0 ∧
     (t.toNat < 2 ^ 48 → t.toNat ≤ s.homes.complete → views (.bviewSet f) (BitVec.ofNat 64 (2 ^ 63 + t.toNat))) ∧
     (2 ^ 48 ≤ t.toNat ∨ s.homes.complete < t.toNat → exec (.bviewSet f) s = .next (s.raise { code := cView })) ∧
     writesScalar (exec (.bcheckCls f) s) s false f.d.toNat (match s.cur.bound (f.imm.toNat % 16) with
       | some n => BitVec.ofNat 64 n | none => BitVec.allOnes 64) ∧
     (badName t = false → namePeer name = s.ownPeer →
       ∃ u, exec (.bcheck f) s = .next u ∧ memorySame s u ∧ u.cur.stream .c = (s.cur.stream .c).advance false ∧ u.homes = s.homes ∧
         (f.d ≠ 0 → u.cur.scalar .c f.d.toNat = match s.ward (nameIndex name) with
           | some r => if r.domain = s.curCtx.bundleDomain then BitVec.ofNat 64 (r.state * 2 ^ 61 + r.stamp % 2 ^ 48) else 0
           | none => 0))) ∧
  (∀ (s : State) (name : BitVec 32) (stamp peer i : Nat) (p : Packet) (r : Wardrobe),
     (∃ u, exec (.commitNotice name stamp) s = .next u ∧ u.homes.notices.head? = some (name.toNat, stamp) ∧
       s.homes.complete ≤ u.homes.complete ∧ (stamp = s.homes.complete + 1 → stamp ≤ u.homes.complete) ∧
       (u.homes.complete < stamp → stamp ∈ u.homes.heard) ∧
       (s.pendingLines name.toNat = [] → (∀ w ∈ s.homes.waiters, w.view = none) → u = { s with homes := u.homes }) ∧
       (namePeer name.toNat ≠ s.ownPeer → ∀ l d m, (s.bLine l).pending = some (name.toNat, d, m) →
         (u.bLine l).pending = none ∧ (u.bLine l).newer = d ∧ (u.bLine l).newerStamp = stamp)) ∧
     (s.homes.sequencer.getD s.ownPeer = s.ownPeer → ∃ q : Packet, exec (.stampRequest peer name) s =
         .next (State.send { s with homes := { s.homes with nextStamp := s.homes.nextStamp + 1 } } q) ∧
       q.kind = 4 ∧ q.dst = peer ∧ q.op = 6 ∧ q.body = [name.setWidth 64, BitVec.ofNat 64 s.homes.nextStamp]) ∧
     (name.toNat = s.singleName →
       let past := stamp ≤ s.homes.complete ∨ stamp ∈ s.homes.heard
       (past → exec (.stampReceived name stamp) s = .next s) ∧
       (¬ past → stamp ∉ s.homes.stamps → ∃ u, exec (.stampReceived name stamp) s = .next u ∧
         u = { s with homes := { s.homes with stamps := s.homes.stamps ++ [stamp], asked := false }, events := u.events } ∧
         .stampReceived name stamp ∈ u.events) ∧
       (¬ past → stamp ∈ s.homes.stamps → ∃ u, exec (.stampReceived name stamp) s = .next u ∧
         u.homes.stamps = s.homes.stamps.erase stamp ∧ u.homes.notices.head? = some (s.singleName, stamp))) ∧
     (name.toNat ≠ s.singleName → s.ward (nameIndex name.toNat) = some r → r.state = 2 →
       ∃ u q, exec (.stampReceived name stamp) s = .next u ∧ u.ward (nameIndex name.toNat) = some q ∧
         q = { r with state := 3, stamp := stamp, sealer := none } ∧ u.homes.notices.head? = some (name.toNat, stamp) ∧
         .recordFree (nameIndex name.toNat) ∈ u.events ∧
         ∀ n d cls, r.sealer = some (s.ownPeer, n) → (s.coreAt n).cwait = .bundle d cls name.toNat 2 → (s.coreAt n).frozen = [] →
           (u.coreAt n).cwait = .none ∧ (u.coreAt n).bound cls = none ∧
           (d ≠ 0 → (u.coreAt n).scalar .c d = BitVec.ofNat 64 (2 ^ 62 + stamp % 2 ^ 48)) ∧
           (u.coreAt n).sc = ((s.coreAt n).sc).advance false) ∧
     (name.toNat ≠ s.singleName → (∀ q, s.ward (nameIndex name.toNat) = some q → q.state ≠ 2) →
       exec (.stampReceived name stamp) s = .next s) ∧
     (p.op = 10 → s.homes.freeRecord = some i → ∃ u q, exec (.bundleRecordRequest p) s = .next u ∧ u.ward i = some q ∧
       q.state = 1 ∧ q.parties = (p.body.getD 0 0).toNat ∧ q.domain = (p.body.getD 1 0).toNat ∧ u.cores = s.cores ∧ u.mem = s.mem) ∧
     (s.ward i = some r → r.state = 3 → r.ending = false → r.acks = 0 →
       ∃ u, exec (.recordFree i) s = .next u ∧ u.cores = s.cores ∧
         u.ward i = if s.others = [] then none else some { r with ending := true, acks := s.others.length }))

/-! ### Jobs -/

/-- R276 to R281: `jpost` enters the card at s1 of SPAD into the lowest free slot of the Sideboard with its signal word, its class
and its edges, and counts it; `remq` does so on a core of its context, and leaves the tile and copies counters of the issuing
core as they are; on another core it blocks while the target has no free slot, or is under test (R407), and on its own it
stalls.

That a `remq` blocks on a core under test is the model's choice of log entry 59.

It rests on the model's choice of log entry 59. -/
def Obligations.Posts : Prop :=
  ∀ (f : FJ) (s : State) (e : CabEntry), s.str = .c → s.guardHolds f.g = true →
    let ca := (s.rd f.s1).toNat
    let tok := s.cur.tok f.k.toNat
    let off := s.rd f.s2
    let k : Card := BitVec.ofNat 1024 (s.cur.bufNat 1 ca 128)
    ca % 128 = 0 → s.cur.inBuf 1 ca 128 = true → off.toNat % 8 = 0 → s.cur.bufPoison 1 ca 128 = false →
    headerFault k = false → s.checkToken s.cur.ctx tok off.toNat 8 needA = .ok e → keepsEntries s.cur s.cur.ctx (tokIndex tok) →
    let entered : State → Nat → Nat → Nat → Prop := fun u n slot poster => ∃ j, (u.coreAt n).job slot = some j ∧ j.card = k ∧
      j.sigTok = tok ∧ j.sigOff = off ∧ j.cls = f.cls.toNat ∧ j.ctx = s.cur.ctx ∧ j.order = (s.coreAt n).jobOrder ∧
      j.preds = (s.coreAt n).edges k ∧ j.poster = poster ∧ j.cursor = 0 ∧ j.err = false ∧ (j.state = .pending ∨ j.state = .ready) ∧
      (j.preds = 0 → cardBar k = false → j.state = .ready) ∧ (j.preds ≠ 0 → j.state = .pending)
    let went : State → Prop := fun u => (u.cur.sc).pc = ((s.cur.sc).advance false).pc ∧ memorySame s u
    (∀ slot, s.cur.freeSlot = some slot → (countsTile k = true → s.cur.sc.tile < 32) → (countsTile k = false → s.cur.sc.copies < 32) →
      ∃ u, exec (.jpost f) s = .next u ∧ entered u s.core slot (s.continuation s.core + 1) ∧ went u ∧
        (countsTile k = true → u.cur.sc.tile = s.cur.sc.tile + 1 ∧ u.cur.sc.copies = s.cur.sc.copies) ∧
        (countsTile k = false → u.cur.sc.copies = s.cur.sc.copies + 1 ∧ u.cur.sc.tile = s.cur.sc.tile)) ∧
    (let t := (s.rd f.d).toNat
     t < 128 → s.curCtx.allows t = true → (s.coreAt t).resident = some s.cur.ctx → maySuspend s →
     (∀ slot, (s.coreAt t).freeSlot = some slot → (t = s.core ∨ (s.coreAt t).underTest = false) →
       ∃ u, exec (.remq f) s = .next u ∧ entered u t slot 0 ∧ went u ∧ u.cur.sc.tile = s.cur.sc.tile ∧ u.cur.sc.copies = s.cur.sc.copies) ∧
     (t = s.core → (s.coreAt t).freeSlot = none → exec (.remq f) s = .next s) ∧
     (∀ r, t ≠ s.core → ((s.coreAt t).freeSlot = none ∨ (s.coreAt t).underTest = true) → s.recAt s.cur.recDie s.cur.recSlot = some r →
       ∃ u q j, exec (.remq f) s = .next u ∧ u.recAt s.cur.recDie s.cur.recSlot = some q ∧ q.state = .blocked ∧
         q.wait = .remq t j s.cur.sc.pc ∧ j.card = k ∧ q.pc = (s.cur.sc.fall false).1 ∧ (u.coreAt s.core).mode = .idle))

/-- R275, R282, R283, R287, R345: an engine takes a READY job. It fails at once with the cause of its first failing check, or it runs;
a job that completes is DONE, its signal word counts one more, and its slot is free once the update is acknowledged.
A `remq` that waited for a slot enters its job then.

It rests on the model's choice of log entry 41. -/
def Obligations.JobLife : Prop :=
  ∀ (s : State) (n slot : Nat) (j : Job), tidy s → (s.coreAt n).job slot = some j →
    ((s.coreAt n).jobs.filter fun p => p.1 = slot) = [(slot, j)] →
    (∀ m, (s.coreAt n).parks = false → (m = true → (s.coreAt n).testing ≠ some 1) → (s.coreAt n).nextJob m = some slot → s.dispatchCause n j = 0 → j.isMatrix = false →
      ∃ u q, exec (.jobDispatch n m) s = .next u ∧ (u.coreAt n).job slot = some q ∧ q.state = .running ∧ q.card = j.card ∧
        .copyLine n ∈ u.events) ∧
    (∀ m, (s.coreAt n).parks = false → (m = true → (s.coreAt n).testing ≠ some 1) → (s.coreAt n).nextJob m = some slot → s.dispatchCause n j = 0 → j.isMatrix = true →
      s.shareFree n j = true → s.shareQueue (dieOf n) = [] →
      ∃ u q, exec (.jobDispatch n m) s = .next u ∧ (u.coreAt n).job slot = some q ∧ q.state = .running ∧ q.share = true ∧
        (u.dieAt (dieOf n)).shareUsed = (s.dieAt (dieOf n)).shareUsed + 1) ∧
    (∀ m, (s.coreAt n).parks = false → (m = true → (s.coreAt n).testing ≠ some 1) → (s.coreAt n).nextJob m = some slot → s.dispatchCause n j ≠ 0 → j.err = false → j.state ≠ .done →
      ∃ u q, exec (.jobDispatch n m) s = .next u ∧ (u.coreAt n).job slot = some q ∧ q.state = .done ∧ q.err = true ∧
        q.cause = s.dispatchCause n j) ∧
    (∀ rest, s.shareQueue (dieOf n) = (n, slot, j) :: rest → (s.dieAt (dieOf n)).shareUsed < (s.dieAt (dieOf n)).shareSize →
      s.sharesHeld (dieOf n) j.die j.launch < s.shareLimit j → j.isMatrix = true → s.dispatchCause n j = 0 →
      ∃ u q, exec (.shareGrant (dieOf n)) s = .next u ∧ (u.coreAt n).job slot = some q ∧ q.state = .running ∧ q.share = true ∧
        q.waiting = false ∧ (u.dieAt (dieOf n)).shareUsed = (s.dieAt (dieOf n)).shareUsed + 1) ∧
    (j.waiting = true → j.expired = false → j.since + 65536 ≤ s.time →
      ∃ u q, exec (.shareWaitExpiry n slot) s = .next u ∧ (u.coreAt n).job slot = some q ∧ q = { j with expired := true } ∧
        .shareGrant (dieOf n) ∈ u.events) ∧
    (j.state = .running → j.err = false →
      let g := s.sigSeg j.ctx j.sigTok j.sigOff.toNat
      let sig : W64 := BitVec.ofNat 64 (lineBytes (s.homeLine (lineNo g.addr)) g.lineOff 8)
      ∃ u q, exec (.jobCompletion n slot) s = .next u ∧ (u.coreAt n).job slot = some q ∧ q.state = .done ∧ q.err = false ∧
        (g.frame.hole = false → s.isRemote g.frame = false → s.movedPart g = false → g.lineOff + 8 ≤ 128 →
          .signalUpdateAck n slot ∈ u.events ∧ ∃ new : W64, new.extractLsb' 0 56 = sig.extractLsb' 0 56 + 1 ∧
            new.extractLsb' 56 8 = sig.extractLsb' 56 8 ∧
            ∀ a, byteAt u a = if g.addr ≤ a ∧ a < g.addr + 8 then new.toNat / 256 ^ (a - g.addr) % 256 else byteAt s a)) ∧
    (∃ u, exec (.signalUpdateAck n slot) s = .next u ∧ (u.coreAt n).job slot = none ∧ memorySame s u ∧
      (j.poster ≠ 0 → countsTile j.card = true → (u.coreAt n).sc.tile = (s.coreAt n).sc.tile - 1)) ∧
    ∀ d k r j₂ pc q, s.recAt d k = some r → r.state = .blocked → r.wait = .remq n j₂ pc → (s.coreAt n).resident = some r.ctx →
      (s.coreAt n).freeSlot = some q → (s.coreAt n).underTest = false → headerFault j₂.card = false →
      ∃ u r' j', exec (.remqUnblock d k) s = .next u ∧ u.recAt d k = some r' ∧ r'.state = .ready ∧
        (u.coreAt n).job q = some j' ∧ j'.card = j₂.card

/-- R243 to R248, R264, R266 to R268: the matrix engine. A shadow load takes the plane from WBUF; at a pass boundary the ready shadow plane
becomes active; a pass updates the accumulators of its block; the last pass of a block leads to its retirement, which scales each
accumulator, adds the bias, applies the function and converts the result into its place in CBUF or, raw, in ABUF, and folds the
checksum words; the last block leads to the job's completion, with the words in the header of fp2. -/
def Obligations.MatrixEngine : Prop :=
  ∀ (s : State) (n i : Nat) (j : Job), (s.coreAt n).job i = some j →
    ((s.coreAt n).jobs.filter fun p => p.1 = i) = [(i, j)] →
    let c := s.coreAt n
    let k := j.card
    (c.matrix.loading = some i → j.state = .running → j.err = false →
      let p := c.loadPlane (wldFmt k) (cardFoot k 0).start
      p.bad = [] → ∃ u q, exec (.shadowLoad n) s = .next u ∧ (u.coreAt n).matrix.shadow = p ∧ (u.coreAt n).matrix.shadowReady = true ∧
        (u.coreAt n).matrix.loading = none ∧ (u.coreAt n).job i = some q ∧ q.state = .done) ∧
    (c.matrix.running = some i → c.matrix.shadowReady = true →
      ∃ u, exec (.planeSwap n) s = .next u ∧ (u.coreAt n).matrix = { c.matrix with active := c.matrix.shadow, shadowReady := false } ∧
        u.events = s.events ++ [.shadowLoad n, .matrixPass n, .jobDispatch n true] ∧ memorySame s u) ∧
    (c.matrix.running = some i →
      let b := c.matrix.pass
      let cols := colsOf (mWfmt k)
      let at_ : Nat → Nat → Nat := fun q col => passC k b + q * 4 * cols + 4 * col
      ∃ u, exec (.matrixPass n) s = .next u ∧ (u.coreAt n).matrix = { c.matrix with pass := b + 1 } ∧
        (if (b + 1) % mPasses k = 0 then Event.retirement n else .planeSwap n) ∈ u.events ∧ u.mem = s.mem ∧
        (c.inBuf 4 (passC k b) (4 * mRpp k * cols) = true → ∀ q col, q < mRpp k → col < cols →
          (u.coreAt n).bufNat 4 (at_ q col) 4 = (c.accumulate k (b % mPasses k = 0 && !mInit k) (passC k b)
            (s.actRow c k (passA k b + q * mRowB k)) q col).1 % 2 ^ 32)) ∧
    (c.matrix.running = some i →
      let b := j.cursor
      let cols := colsOf (mWfmt k)
      let rowB := 4 * cols
      let cb := passC k (b * mPasses k)
      let head := (cardFoot k 2).start
      let scaleAt := head + (if mFold k ≠ 0 then 32 else 0)
      let biasAt := if mSen k then scaleAt + rowB else scaleAt
      let fzo := cardFzo k
      let acc : Nat → Nat → Nat := fun r col => c.bufNat 4 (cb + r * rowB + 4 * col) 4
      let f32 : Machine.Num → Nat := fun v => (roundTo 0 v 0 false fzo).1
      let val : Nat → Machine.Num := decodeFloat 0
      let scaled : Nat → Nat → Nat := fun r col =>
        if mSen k then f32 (Machine.Num.mul (val (acc r col)) (val (c.bufNat 4 (scaleAt + 4 * col) 4))).1 else acc r col
      let biased : Nat → Nat → Nat := fun r col =>
        if mBen k then f32 (Machine.Num.add 0 (val (scaled r col)) (val (c.bufNat 4 (biasAt + 4 * col) 4))).1 else scaled r col
      let out : Nat → Nat → Nat := fun r col =>
        let y := biased r col
        let z := if mFunc k = 1 then (if val y = .nan then y else if (val y).isNeg then 0 else y)
          else if mFunc k = 2 then (tanhRound 0 (val y) 0 false fzo).1 else if mFunc k = 3 then (sigmRound 0 (val y) 0 false fzo).1
          else if mFunc k = 4 then (siluRound 0 (val y) 0 false fzo).1 else y
        (convert (mOfmt k) 0 z (cardRnd k) false fzo (cardSat k)).1
      let each : (Nat → Nat → Nat) → List Nat := fun g => (List.range (mRpp k * cols)).map fun x => g (x / cols) (x % cols)
      ∃ u q, exec (.retirement n) s = .next u ∧ (u.coreAt n).job i = some q ∧ q.cursor = j.cursor + 1 ∧
      q.checksum0 = (if bitOf (mFold k) 0 then j.checksum0 + BitVec.ofInt 128 ((each out).map (intOf (mOfmt k))).sum else j.checksum0) ∧
      q.checksum1 = (if bitOf (mFold k) 1 then foldFsums (mRpp k * cols / 64 + 1) j.checksum1 (each acc) else j.checksum1) ∧
      ((mFold k ≠ 0 → c.inBuf 4 head 32 = true) →
        (mDest k = false → c.inBuf 4 cb (mRpp k * rowB) = true → ∀ r col, r < mRpp k → col < cols →
          let at_ := cb + r * rowB + col * mOb k
          (mFold k = 0 ∨ b + 1 < mBlocks k ∨ at_ + mOb k ≤ head ∨ head + 32 ≤ at_) →
          (u.coreAt n).bufNat 4 at_ (mOb k) = out r col % 256 ^ mOb k) ∧
        (mDest k = true → mCen k = false →
          let at0 := (cardFoot k 3).start + b * mRpp k * cols * mOb k
          c.inBuf 3 at0 (mRpp k * cols * mOb k) = true → ∀ r col, r < mRpp k → col < cols →
            (u.coreAt n).bufNat 3 (at0 + (r * cols + col) * mOb k) (mOb k) = out r col % 256 ^ mOb k) ∧
        (mFold k ≠ 0 → mBlocks k ≤ b + 1 → (u.coreAt n).bufNat 4 head 16 = q.checksum0.toNat ∧
          (u.coreAt n).bufNat 4 (head + 16) 16 = q.checksum1.toNat)) ∧
      (mBlocks k ≤ j.cursor + 1 → .jobCompletion n i ∈ u.events ∧ (u.coreAt n).matrix.running = none) ∧
      (j.cursor + 1 < mBlocks k → c.parks = false → .planeSwap n ∈ u.events) ∧
      (j.cursor + 1 < mBlocks k → c.parks = true → q.state = .parked))

/-- R249, R250, R256, R270, R273, R274: the copy engine, line by line. A COPY from memory issues the line at its cursor; when the line has been
read, its bytes are in the buffer and the engine goes on. A COPY to memory takes the bytes of its nest from the buffer, a CRYPT out
those of its footprint enciphered, and after them the tag; when the line performs, its bytes are in memory and no other byte has
changed. A block that an EXPAND has read is decoded into WBUF, or marks the job with CHECK; a line of a CRYPT in is deciphered, and a
tag that differs marks the job with TAG_FAIL. A line of an MCAST reaches a member whose local memory belongs to the context and
whose buffer holds the whole of fp1.

R255: a learned table slot freezes with the code lengths that the event brings, and learns again from the resampling event on.

R251 to R253: contributions of a REDUCE at the home of their line. The contribution of slot 0 to a line with no open record performs
at once: each of its elements becomes the sum; one of a later slot waits for those before it.

It rests on the model's choices of log entries 10, 40, 66 and 74. -/
def Obligations.CopyEngineAndReductions : Prop :=
  (∀ (s : State) (n slot : Nat) (j : Job) (e : CabEntry) (p : Piece) (m : McastWrite) (w : Nat),
     let c := s.coreAt n
     let k := j.card
     let len := unitLen k (s.tokenEntry n j.ctx (tokIndex (cardTok k))) j.cursor
     (c.copyJob = some (slot, j) → c.job slot = some j → cardKind k = 3 → cardOut k = false → c.piece = none → c.parks = false →
       j.cursor < copyTotal k → s.checkOn n j.ctx (cardTok k) (copyAt k j.cursor).1 len needR = .ok e →
       (∀ g ∈ e.elemSegs 0 (copyAt k j.cursor).1 len, plainPart s g) → keepsEntries c j.ctx (tokIndex (cardTok k)) →
       ∃ u q x, exec (.copyLine n) s = .next u ∧ (u.coreAt n).job slot = some q ∧ q.cursor = j.cursor + len ∧
         (u.coreAt n).piece = some x ∧ x.job = slot ∧ x.pos = j.cursor ∧ x.len = len ∧ x.buf = (copyAt k j.cursor).2.1 ∧
         x.segs = e.elemSegs 0 (copyAt k j.cursor).1 len ∧ x.await = [] ∧ .copyLineComplete n ∈ u.events ∧ memorySame s u) ∧
     (c.piece = some p → c.job p.job = some j → cardKind k = 3 → cardOut k = false → p.await = [] → p.sent = false →
       (∀ g ∈ p.segs, plainPart s g ∧ s.homePoison (lineNo g.addr) = 0) →
       let total := (p.segs.map fun g => g.len).sum
       let b := (cardFoot k 1).bufOf
       c.inBuf b p.buf total = true →
       ∃ u, exec (.copyLineComplete n) s = .next u ∧ (u.coreAt n).piece = none ∧ .copyLine n ∈ u.events ∧ u.mem = s.mem ∧
         ∀ g rest pre, p.segs = pre ++ g :: rest → ∀ i, i < g.len →
           (Memory.read (u.coreAt n).localMem (c.bufAddr b (p.buf + (pre.map fun h => h.len).sum + i))).toNat = byteAt s (g.addr + i)) ∧
     (let data : List Nat := p.segs.flatMap fun g => (List.range g.len).map fun i => byteAt s (g.addr + i)
      let b := (cardFoot k 1).bufOf
      let held : State → Nat → Nat := fun u i => (Memory.read (u.coreAt n).localMem (c.bufAddr b (p.buf + i))).toNat
      c.piece = some p → c.job p.job = some j → cardOut k = false → p.await = [] → p.sent = false → tidy s →
      (∀ g ∈ p.segs, plainPart s g ∧ s.homePoison (lineNo g.addr) = 0) →
      (cardKind k = 4 → (∀ out, s.decodeBlock (data.map (BitVec.ofNat 8)) = some out → c.inBuf b p.buf out.length = true →
          ∃ u, exec (.copyLineComplete n) s = .next u ∧ (u.coreAt n).piece = none ∧ u.mem = s.mem ∧
            ∀ i, i < out.length → held u i = (out.getD i 0).toNat) ∧
        (s.decodeBlock (data.map (BitVec.ofNat 8)) = none → j.err = false → ∃ u q, exec (.copyLineComplete n) s = .next u ∧
          (u.coreAt n).job p.job = some q ∧ q.err = true ∧ q.cause = cCheck ∧ (u.coreAt n).localMem = c.localMem ∧ u.mem = s.mem)) ∧
      (cardKind k = 7 → p.pos % 16 = 0 → data.length = p.len →
        let d := min p.len (cryptLen k - p.pos)
        c.inBuf b p.buf d = true →
        let y := (cryptBytes j.key k p.pos j.checksum0.toNat ((data.take d).map (BitVec.ofNat 8))).2
        let want := ((cryptTag j.key k y).drop (p.pos + d - cryptLen k)).take (p.len - d)
        let fails : Bool := p.len ≠ d && (data.drop d).map (BitVec.ofNat 8) != want
        ∃ u q, exec (.copyLineComplete n) s = .next u ∧ (u.coreAt n).piece = none ∧ (u.coreAt n).job p.job = some q ∧ u.mem = s.mem ∧
          (∀ i, i < d → held u i = (data.getD i 0 ^^^ cipherByte j.key k (p.pos + i)) % 256) ∧
          q.checksum0 = BitVec.ofNat 128 y ∧ q.tagBad = (fails || j.tagBad) ∧
          (fails = true → j.err = false → q.err = true ∧ q.cause = cTagFail))) ∧
     (let b := (cardFoot k 1).bufOf
      let place : Nat → Int := fun q => if cardKind k = 3 then
        (cardFoot k 1).start + (q / copyRun k / copyN1 k : Nat) * squad k 13 + (q / copyRun k % copyN1 k : Nat) * squad k 10 + (q % copyRun k : Nat)
        else (cardFoot k 1).start + (q : Nat)
      let side : Nat → Nat := fun i => (Memory.read c.localMem (c.bufAddr b (place (j.cursor + i)).toNat)).toNat
      let d := if cardKind k = 3 then len else min len (cryptLen k - j.cursor)
      c.copyJob = some (slot, j) → c.job slot = some j → cardKind k = 3 ∨ (cardKind k = 7 ∧ c.localPoison = [] ∧ j.cursor % 16 = 0) →
      cardOut k = true → c.piece = none → c.parks = false → j.cursor < copyTotal k → (∀ q, q < copyTotal k → 0 ≤ place q) →
      s.checkOn n j.ctx (cardTok k) (copyAt k j.cursor).1 len needW = .ok e →
      (∀ g ∈ e.elemSegs 0 (copyAt k j.cursor).1 len, plainPart s g) → keepsEntries c j.ctx (tokIndex (cardTok k)) →
      ∃ u q x, exec (.copyLine n) s = .next u ∧ (u.coreAt n).job slot = some q ∧ q.cursor = j.cursor + len ∧
        (u.coreAt n).piece = some x ∧ x.job = slot ∧ x.pos = j.cursor ∧ x.len = len ∧
        x.segs = e.elemSegs 0 (copyAt k j.cursor).1 len ∧ x.await = [] ∧ x.sent = false ∧ .copyLineComplete n ∈ u.events ∧ memorySame s u ∧
        (∀ i, i < d → (x.bytes.getD i 0).toNat =
          if cardKind k = 3 then side i else (side i ^^^ cipherByte j.key k (j.cursor + i)) % 256) ∧
        (cardKind k = 7 →
          let y := (cryptBytes j.key k j.cursor j.checksum0.toNat (c.bufBytes b (place j.cursor).toNat d)).2
          q.checksum0 = BitVec.ofNat 128 y ∧
          ∀ i, d ≤ i → i < len → x.bytes.getD i 0 = (cryptTag j.key k y).getD (j.cursor + i - cryptLen k) 0)) ∧
     (c.piece = some p → c.job p.job = some j → cardKind k = 3 ∨ cardKind k = 7 → cardOut k = true → p.await = [] → p.sent = false → tidy s →
       (∀ g ∈ p.segs, plainPart s g) → p.segs.Pairwise (fun g h => g.addr + g.len ≤ h.addr ∨ h.addr + h.len ≤ g.addr) →
       ∃ u, exec (.copyLineComplete n) s = .next u ∧ (u.coreAt n).piece = none ∧ .copyLine n ∈ u.events ∧
         (∀ g ∈ p.segs, ∀ i, i < g.len → byteAt u (g.addr + i) = (p.bytes.getD (g.pos + i) 0).toNat) ∧
         ∀ a, (∀ g ∈ p.segs, a < g.addr ∨ g.addr + g.len ≤ a) → byteAt u a = byteAt s a) ∧
     ((s.coreAt m.src).job m.job = some j → c.resident = some j.ctx →
       c.inBuf m.buf (cardFoot k 1).start (cardFoot k 1).len = true → c.inBuf m.buf m.off m.count = true → m.count ≤ 1024 →
       ∃ u, exec (.mcastMemberWrite n m) s = .next u ∧ (∀ i, i < m.count →
         (Memory.read (u.coreAt n).localMem (c.bufAddr m.buf (m.off + i))).toNat = m.data.toNat / 256 ^ i % 256) ∧ u.mem = s.mem) ∧
     ∀ (lens : List Nat), 
       (let t := s.tableAt n w
        (t.learned = true → t.frozen = false → validTable lens = true → ∃ u, exec (.tableFreeze n w lens) s = .next u ∧
         (u.tableAt n w).frozen = true ∧ (u.tableAt n w).lens = lens ∧ (u.tableAt n w).gen = (t.gen + 1) % 2 ^ 16 ∧ u.cores = s.cores) ∧
        (t.learned = true → ∃ u, exec (.resamplingInterval n w) s = .next u ∧ u.tableAt n w = { t with frozen := false, counts := [] } ∧ u.cores = s.cores))) ∧
  (∀ (s : State) (c : Contribution), tidy s → (∀ p ∈ s.homes.reductions, p.1.2.1 ≠ c.line) → s.homes.reductions.length < 4096 →
     c.bpage = false → c.empty = false → 1 ≤ c.n →
     (c.slot = 0 → ∃ u, exec (.reduceContribution c) s = .next u ∧
       ∀ a, byteAt u a = if lineNo a = c.line ∧ c.mask.getLsbD (a % 128) = true
         then lineBytes (reduceLine c (s.homeLine c.line)) (a % 128) 1 else byteAt s a) ∧
     (c.slot ≠ 0 → ∃ u, exec (.reduceContribution c) s = .next u ∧ (∀ a, byteAt u a = byteAt s a) ∧
       u.homes.record (c.ctx, c.line, c.epoch) = some ⟨c.n, 0, [c]⟩))

/-! ### Vectors -/

/-- R223 to R228: what each floating-point form gives each active element: the exact value of its flushed operands, rounded
once; a NaN operand gives the canonical NaN of R50. A source that is broadcast gives its low bits to every element.

R229: `vcmp` compares flushed values; every compare with a NaN fails but `ne` and `un`.

It rests on the model's choices of log entries 34, 35, 36 and 75. -/
def Obligations.FloatForms : Prop :=
  (∀ (f : F3) (s : State), s.str = .x → s.guardHolds f.g = true → f.fmt ≠ 7 →
     let t := f.fmt.toNat
     let w := typeWidth t
     let rnd := f.rnd.toNat
     let n := elemCount w
     let pat : BitVec 7 → Nat → Nat := fun q j => if q.toNat < 64 then elem w (s.cur.vec q.toNat) j
       else (s.cur.scalar .x (q.toNat - 64)).toNat % 2 ^ w
     let x : Nat → Machine.Num := fun j => flushIn t (pat f.s1 j) f.fzi
     let y : Nat → Machine.Num := fun j => flushIn t (pat f.s2 j) f.fzi
     let z : Nat → Machine.Num := fun j => flushIn t (elem w (s.cur.vec f.d.toNat) j) f.fzi
     let mask := s.cur.maskReg f.mask.toNat
     let act : Nat → Bool := fun j => mask.getLsbD (w * j / 32)
     let r : Instr → Nat → (Nat → Nat) → Prop := fun i lat val => vectorResult (exec i s) s f.d.toNat w lat act val
     let round : Machine.Num → Nat := fun v => (roundTo t v rnd f.sat f.fzo).1
     let same : Machine.Num → Nat := fun v => (roundTo t v 0 false false).1
     let add : Machine.Num → Machine.Num → Machine.Num := fun a b => (Machine.Num.add rnd a b).1
     let mul : Machine.Num → Machine.Num → Machine.Num := fun a b => (Machine.Num.mul a b).1
     r (.vadd f) 4 (fun j => round (add (x j) (y j))) ∧ r (.vsub f) 4 (fun j => round (add (x j) (y j).negate)) ∧
     r (.vmul f) 4 (fun j => round (mul (x j) (y j))) ∧ r (.vabd f) 4 (fun j => round (add (x j) (y j).negate).abs) ∧
     r (.vfma f) 4 (fun j => round (add (mul (x j) (y j)) (z j))) ∧
     r (.vfms f) 4 (fun j => round (add (mul (x j) (y j)) (z j).negate)) ∧
     r (.vfnma f) 4 (fun j => round (add (mul (x j).negate (y j)) (z j).negate)) ∧
     r (.vfnms f) 4 (fun j => round (add (mul (x j).negate (y j)) (z j))) ∧
     (∀ j, quotientIs t rnd f.sat f.fzo (x j) (y j) (divRound t (x j) (y j) rnd f.sat f.fzo).1 ∧
       rootIs t rnd f.sat f.fzo (x j) (sqrtRound t (x j) rnd f.sat f.fzo).1 ∧
       reciprocalIs t rnd f.sat f.fzo (x j) (rcpRound t (x j) rnd f.sat f.fzo).1 ∧
       reciprocalRootIs t rnd f.sat f.fzo (x j) (rsqRound t (x j) rnd f.sat f.fzo).1 ∧
       functionIs 0x80 t rnd f.sat f.fzo (x j) (exp2Round t (x j) rnd f.sat f.fzo).1 ∧
       functionIs 0x81 t rnd f.sat f.fzo (x j) (log2Round t (x j) rnd f.sat f.fzo).1 ∧
       functionIs 0x82 t rnd f.sat f.fzo (x j) (sinRound t (x j) rnd f.sat f.fzo).1 ∧
       functionIs 0x83 t rnd f.sat f.fzo (x j) (cosRound t (x j) rnd f.sat f.fzo).1 ∧
       functionIs 0x84 t rnd f.sat f.fzo (x j) (tanhRound t (x j) rnd f.sat f.fzo).1 ∧
       functionIs 0x85 t rnd f.sat f.fzo (x j) (sigmRound t (x j) rnd f.sat f.fzo).1) ∧
     r (.vdiv f) 16 (fun j => (divRound t (x j) (y j) rnd f.sat f.fzo).1) ∧
     r (.vsqrt f) 16 (fun j => (sqrtRound t (x j) rnd f.sat f.fzo).1) ∧
     r (.vrcp f) 6 (fun j => (rcpRound t (x j) rnd f.sat f.fzo).1) ∧ r (.vrsq f) 6 (fun j => (rsqRound t (x j) rnd f.sat f.fzo).1) ∧
     r (.vexp2 f) 10 (fun j => (exp2Round t (x j) rnd f.sat f.fzo).1) ∧ r (.vlog2 f) 10 (fun j => (log2Round t (x j) rnd f.sat f.fzo).1) ∧
     r (.vsin f) 10 (fun j => (sinRound t (x j) rnd f.sat f.fzo).1) ∧ r (.vcos f) 10 (fun j => (cosRound t (x j) rnd f.sat f.fzo).1) ∧
     r (.vtanh f) 10 (fun j => (tanhRound t (x j) rnd f.sat f.fzo).1) ∧ r (.vsigm f) 10 (fun j => (sigmRound t (x j) rnd f.sat f.fzo).1) ∧
     r (.vscale f) 4 (fun j => round (match x j with
       | .fin g m e => .fin g m (e + intOf (if w = 32 then 10 else 9) (pat f.s2 j)) | v => v)) ∧
     r (.vmin f) 2 (fun j => same (minNum (x j) (y j))) ∧ r (.vmax f) 2 (fun j => same (maxNum (x j) (y j))) ∧
     r (.vclamp f) 2 (fun j => same (minNum (maxNum (x j) (y j)) (z j))) ∧
     r (.vabs f) 2 (fun j => same (x j).abs) ∧ r (.vneg f) 2 (fun j => same (x j).negate) ∧
     r (.vround f) 2 (fun j => same (roundIntegral rnd (x j))) ∧
     r (.vsgnj f) 2 (fun j =>
       let sb := (pat f.s2 j).testBit (w - 1)
       same ((x j).withSign (if f.fn = 0 then sb else if f.fn = 1 then !sb else (x j).isNeg ^^ sb))) ∧
     r (.vclass f) 2 (fun j => 2 ^ classBit t (pat f.s1 j)) ∧
     r (.vpadd f) 4 (fun j =>
       let v := if j < n / 2 then s.cur.vec f.s1.toNat else s.cur.vec f.s2.toNat
       let i := 2 * (j % (n / 2))
       round (add (flushIn t (elem w v i) f.fzi) (flushIn t (elem w v (i + 1)) f.fzi))) ∧
     vectorResult (exec (.vdot f) s) s f.d.toNat 32 6 (fun j => mask.getLsbD j) (fun j =>
       let lane : BitVec 7 → Nat := fun q => elem 32 (s.vsrc w q) j
       (dotLane f (elem 32 (s.cur.vec f.d.toNat) j) (lane f.s1) (lane f.s2)).1) ∧
     (∀ j, let lane : BitVec 7 → Nat := fun q => elem 32 (s.vsrc w q) j
       dotIs f (elem 32 (s.cur.vec f.d.toNat) j) (lane f.s1) (lane f.s2)
         (dotLane f (elem 32 (s.cur.vec f.d.toNat) j) (lane f.s1) (lane f.s2)).1) ∧
     (f.fn ≠ 7 → let wide := max w (typeWidth f.fn.toNat)
       vectorResult (exec (.vcvt f) s) s f.d.toNat w 3 (fun j => decide (j < 2048 / wide) && mask.getLsbD (wide * j / 32)) (fun j =>
         (convert t f.fn.toNat (elem (typeWidth f.fn.toNat) (s.cur.vec f.s1.toNat) j) rnd f.fzi f.fzo f.sat).1) ∧
       ∀ j, convertedIs t f.fn.toNat (elem (typeWidth f.fn.toNat) (s.cur.vec f.s1.toNat) j) rnd f.fzi f.fzo f.sat
         (convert t f.fn.toNat (elem (typeWidth f.fn.toNat) (s.cur.vec f.s1.toNat) j) rnd f.fzi f.fzo f.sat).1)) ∧
  (∀ (f : F3) (s : State), s.str = .x → s.guardHolds f.g = true → f.fmt.toNat < 3 →
     let t := f.fmt.toNat
     let w := typeWidth t
     let mask := s.cur.maskReg f.mask.toNat
     let act : Nat → Bool := fun j => mask.getLsbD (w * j / 32)
     let x : Nat → Machine.Num := fun j => flushIn t (elem w (s.vsrc w f.s1) j) f.fzi
     let y : Nat → Machine.Num := fun j => flushIn t (elem w (s.vsrc w f.s2) j) f.fzi
     let nan : Nat → Bool := fun j => x j = .nan || y j = .nan
     let c := f.fn.toNat % 8
     let holds : Nat → Bool := fun j =>
       if c = 0 then !nan j && (x j).eqv (y j) else if c = 1 then nan j || !(x j).eqv (y j) else if c = 2 then !nan j && (x j).lt (y j)
       else if c = 3 then !nan j && !(y j).lt (x j) else if c = 4 then !nan j && (y j).lt (x j)
       else if c = 5 then !nan j && !(x j).lt (y j) else if c = 6 then nan j else !nan j
     (f.fn.toNat < 8 → w = 32 → ∃ v : W64,
       entersFlight (exec (.vcmp f) s) s false (flightOf s (.m f.d.toNat) allBits (v.setWidth 2048) 2 0) ∧
         ∀ i, i < 64 → v.getLsbD i = (mask.getLsbD i && holds i)) ∧
     (8 ≤ f.fn.toNat → vectorResult (exec (.vcmp f) s) s f.d.toNat w 2 act fun j => if holds j then 2 ^ w - 1 else 0))

/-- R229 to R231: the integer forms of X, their immediate forms and the compares. U(v) of a pattern is its value, S(v) the
integer that a signed type reads in it. -/
def Obligations.VectorIntegers : Prop :=
  ∀ (f : F3) (m : FI) (s : State), s.str = .x → s.guardHolds f.g = true → s.guardHolds m.g = true → 8 ≤ f.fmt.toNat →
    let t := f.fmt.toNat
    let w := typeWidth t
    let st := 8 + t % 4
    let mask := s.cur.maskReg f.mask.toNat
    let act : Nat → Bool := fun j => mask.getLsbD (w * j / 32)
    let a : Nat → Nat := fun j => elem w (s.vsrc w f.s1) j
    let b : Nat → Nat := fun j => elem w (s.vsrc w f.s2) j
    let r : Instr → Nat → (Nat → Nat) → Prop := fun i lat val => vectorResult (exec i s) s f.d.toNat w lat act val
    let int : (Nat → Int) → Nat → Nat := fun v j => intResult t f.sat (v j)
    let x : Nat → Int := fun j => intOf t (a j)
    let y : Nat → Int := fun j => intOf t (b j)
    let z : Nat → Int := fun j => intOf t (elem w (s.cur.vec f.d.toNat) j)
    r (.viadd f) 1 (int fun j => x j + y j) ∧ r (.visub f) 1 (int fun j => x j - y j) ∧ r (.vimul f) 3 (int fun j => x j * y j) ∧
    r (.vimulh f) 3 (int fun j => x j * y j / 2 ^ w) ∧ r (.vimac f) 3 (int fun j => z j + x j * y j) ∧
    r (.viabs f) 1 (int fun j => (x j).natAbs) ∧ r (.vineg f) 1 (int fun j => - x j) ∧
    r (.vand f) 1 (fun j => a j &&& b j) ∧ r (.vor f) 1 (fun j => a j ||| b j) ∧ r (.vxor f) 1 (fun j => a j ^^^ b j) ∧
    r (.vandn f) 1 (fun j => a j &&& (2 ^ w - 1 - b j)) ∧ r (.vshl f) 1 (fun j => a j * 2 ^ (b j % w)) ∧
    r (.vshr f) 1 (fun j => a j / 2 ^ (b j % w)) ∧ r (.vsra f) 1 (fun j => (intOf st (a j) / 2 ^ (b j % w) % 2 ^ w).toNat) ∧
    r (.viminn f) 1 (fun j => min (a j) (b j)) ∧ r (.vimaxn f) 1 (fun j => max (a j) (b j)) ∧
    r (.vimin f) 1 (fun j => if intOf st (a j) ≤ intOf st (b j) then a j else b j) ∧
    r (.vimax f) 1 (fun j => if intOf st (a j) ≤ intOf st (b j) then b j else a j) ∧
    r (.vpopc f) 2 (fun j => ((List.range w).filter fun i => (a j).testBit i).length) ∧
    (∃ v : Nat → Nat, r (.vclz f) 2 v ∧ ∀ j, j < elemCount w → v j ≤ w ∧
      (∀ i, w - v j ≤ i → (a j).testBit i = false) ∧ (v j < w → (a j).testBit (w - 1 - v j) = true)) ∧
    (let u := m.imm.toNat / 2 ^ 26
     let ww := typeWidth u
     let e : Nat → Nat := fun j => elem ww (s.cur.vec m.s1.toNat) j
     let k := m.imm.toNat % 64
     let imm : Instr → (Nat → Nat) → Prop := fun i val => vectorResult (exec i s) s m.d.toNat ww 1 (fun _ => true) val
     8 ≤ u → imm (.viaddi m) (fun j => (((e j : Int) + ((m.imm.setWidth 26).toInt)) % 2 ^ ww).toNat) ∧
      (k < ww → imm (.vshli m) (fun j => e j * 2 ^ k) ∧ imm (.vshri m) (fun j => e j / 2 ^ k) ∧
        imm (.vsrai m) (fun j => (intOf (8 + u % 4) (e j) / 2 ^ k % 2 ^ ww).toNat))) ∧
    let c := f.fn.toNat % 8
    let compare : Instr → (Nat → Bool) → Prop := fun i holds =>
      (f.fn.toNat < 8 → ∃ v : W64, entersFlight (exec i s) s false (flightOf s (.m f.d.toNat) allBits (v.setWidth 2048) 2 0) ∧
        ∀ i, i < 64 → v.getLsbD i = (act (32 * i / w) && holds (32 * i / w))) ∧
      (8 ≤ f.fn.toNat → vectorResult (exec i s) s f.d.toNat w 2 act fun j => if holds j then 2 ^ w - 1 else 0)
    (c < 6 → compare (.vicmp f) fun j => decide (if c = 0 then x j = y j else if c = 1 then x j ≠ y j else if c = 2 then x j < y j
      else if c = 3 then x j ≤ y j else if c = 4 then y j < x j else y j ≤ x j))

/-- R233, R234: the moves: which element each element of the result is. -/
def Obligations.VectorMoves : Prop :=
  ∀ (f : F3) (m : FI) (l : FL) (lit : W64) (s : State), s.str = .x → s.guardHolds f.g = true → s.guardHolds m.g = true →
    s.guardHolds l.g = true → f.fmt ≠ 7 →
    let w := typeWidth f.fmt.toNat
    let n := elemCount w
    let mask := s.cur.maskReg f.mask.toNat
    let act : Nat → Bool := fun j => mask.getLsbD (w * j / 32)
    let a : Nat → Nat := fun j => elem w (s.cur.vec f.s1.toNat) j
    let b : Nat → Nat := fun j => elem w (s.cur.vec f.s2.toNat) j
    let la : Nat → Nat := fun j => elem 32 (s.cur.vec f.s1.toNat) j
    let r : Instr → Nat → (Nat → Nat) → Prop := fun i lat val => vectorResult (exec i s) s f.d.toNat w lat act val
    let lanes : Instr → Nat → (Nat → Nat) → Prop := fun i lat val => vectorResult (exec i s) s f.d.toNat 32 lat (fun _ => true) val
    r (.vpack f) 2 (fun j => if j < n / 2 then a j else b (j - n / 2)) ∧
    r (.vunpack f) 2 (fun j => if j < n / 2 then a (j + n / 2) else 0) ∧
    r (.vperm f) 3 (fun j => if b j < n then a (b j) else 0) ∧
    r (.vshuf f) 3 (fun j => a (j ^^^ 2 ^ f.fn.toNat)) ∧
    r (.vbcast f) 1 (fun _ => a ((s.cur.scalar .x f.s2.toNat).toNat % n)) ∧
    r (.vzip f) 2 (fun j => if j % 2 = 0 then a (j / 2) else b (j / 2)) ∧
    r (.vunzip f) 2 (fun j => if j < n / 2 then a (2 * j + f.fn.toNat % 2) else b (2 * (j - n / 2) + f.fn.toNat % 2)) ∧
    r (.vidx f) 1 (fun j => j) ∧
    vectorResult (exec (.vmov f) s) s f.d.toNat 32 1 (fun j => mask.getLsbD j) la ∧
    vectorResult (exec (.vexpand f) s) s f.d.toNat 32 3 (fun j => mask.getLsbD j)
      (fun j => la ((List.range j).filter fun i => mask.getLsbD i).length) ∧
    lanes (.vsel f) 1 (fun i => if mask.getLsbD i then la i else elem 32 (s.cur.vec f.s2.toNat) i) ∧
    lanes (.vcompress f) 3 (fun i => match ((List.range 64).filter fun k => mask.getLsbD k)[i]? with | some k => la k | none => 0) ∧
    (let v := s.cur.vec m.s1.toNat
     let t := m.imm.toNat / 256
     let k := m.imm.toNat % 256
     let c := m.imm.toNat % 128
     (t < 16 → t ≠ 7 → k < elemCount (typeWidth t) →
      entersFlight (exec (.vext m) s) s false (flightOf s (.e m.d.toNat) allBits
        ((if 8 ≤ t ∧ t < 12 then BitVec.ofInt 64 (intOf t (elem (typeWidth t) v k)) else BitVec.ofNat 64 (elem (typeWidth t) v k)).setWidth 2048) 2 0) ∧
      vectorResult (exec (.vins m) s) s m.d.toNat (typeWidth t) 2 (fun j => j = k) fun _ => (s.cur.scalar .x m.s1.toNat).toNat) ∧
     (c ≤ 64 → vectorResult (exec (.vslide m) s) s m.d.toNat 32 2 (fun _ => true) fun i =>
      if m.imm.getLsbD 7 then (if i + c ≤ 63 then elem 32 v (i + c) else 0) else (if i < c then 0 else elem 32 v (i - c))) ∧
     (m.imm.toNat / 2 ^ 26 ≠ 7 → vectorResult (exec (.vimm m) s) s m.d.toNat (typeWidth (m.imm.toNat / 2 ^ 26)) 1 (fun _ => true)
      fun _ => ((m.imm.setWidth 26).signExtend 64).toNat)) ∧
    ∃ v, entersFlight (exec (.vlimm l lit) s) s true (flightOf s (.v l.d.toNat) allBits v 1 0) ∧ ∀ j, j < 32 → elem 64 v j = lit.toNat

/-- R71, R232: the reductions of the active elements of s1. The integer ones are the sum mod 2^w, with .sat each node of
TreeReduce clamped to the type's range, and the bitwise AND, OR and XOR of those elements; the float ones follow TreeReduce. With no active element the result is 0.

R237 to R239: the mask forms and the checksum forms.

It rests on the model's choices of log entries 38 and 75. -/
def Obligations.ReductionsMasksChecksums : Prop :=
  (∀ (f : F3) (s : State), s.str = .x → s.guardHolds f.g = true → f.fmt ≠ 7 →
     let t := f.fmt.toNat
     let w := typeWidth t
     let mask := s.cur.maskReg f.mask.toNat
     let a : Nat → Nat := fun j => elem w (s.cur.vec f.s1.toNat) j
     let l := ((List.range (elemCount w)).filter fun j => mask.getLsbD (w * j / 32)).map a
     let r : Instr → Nat → Nat → Prop := fun i lat v => ∃ fl, entersFlight (exec i s) s false (flightOf s (.e f.d.toNat) allBits
       ((if 8 ≤ t ∧ t < 12 then BitVec.ofInt 64 (intOf t v) else BitVec.ofNat 64 v).setWidth 2048) lat fl)
     let tree : (Nat → Nat) → (Nat → Nat → Nat) → Nat → Prop := fun pre op v =>
       let p := (treeReduce (fun x y => (op x y, 0)) (Nat.log2 (elemCount w))
         ((List.range (elemCount w)).map fun j => (mask.getLsbD (w * j / 32), pre (a j))) 0).1
       (p.1 = true → v = p.2) ∧ (p.1 = false → v = 0)
     (f.sat = true → 8 ≤ t → ∃ v, r (.vredadd f) 6 v ∧
       let lo : Int := if t < 12 then -(2 ^ (w - 1)) else 0
       let hi : Int := if t < 12 then 2 ^ (w - 1) - 1 else 2 ^ w - 1
       tree id (fun x y => (max lo (min hi (intOf t x + intOf t y)) % 2 ^ w).toNat) v) ∧
     (l = [] → r (.vredsum f) 14 0) ∧
     (f.sat = false → r (.vredadd f) 6 ((l.foldl (fun (acc : Int) b => acc + intOf t b) 0 % 2 ^ w).toNat)) ∧
     r (.vredand f) 4 (match l with | [] => 0 | h :: q => q.foldl (fun x y => x &&& y) h) ∧
     r (.vredor f) 4 (l.foldl (fun x y => x ||| y) 0) ∧ r (.vredxor f) 4 (l.foldl (fun x y => x ^^^ y) 0) ∧
     (let num := decodeFloat t
      let pat : Machine.Num → Nat := fun v => (roundTo t v 0 false false).1
      let canon : Nat → Nat := fun b => if num b = .nan then canonicalNaN t else b
      (∃ v, r (.vredmax f) 8 v ∧ tree canon (fun x y => pat (maxNum (num x) (num y))) v) ∧
      (∃ v, r (.vredmin f) 8 v ∧ tree canon (fun x y => pat (minNum (num x) (num y))) v)) ∧
     (let flush := fun b => flushIn t b f.fzi
      let round : Machine.Num → Nat := fun v => (roundTo t v f.rnd.toNat f.sat f.fzo).1
      l ≠ [] → ∃ u, r (.vredsum f) 14 (round (decodeFloat t u)) ∧
       tree (fun b => (roundTo t (flush b) 0 false false).1) (fun x y => round (Machine.Num.add f.rnd.toNat (flush x) (flush y)).1) u)) ∧
  (∀ (f : F3) (s : State), s.str = .x → s.guardHolds f.g = true →
     let a := s.cur.maskReg f.s1.toNat
     let b := s.cur.maskReg f.s2.toNat
     let m : Instr → W64 → Prop := fun i v =>
       entersFlight (exec i s) s false (flightOf s (.m f.d.toNat) allBits (v.setWidth 2048) 1 0)
     let e : Instr → Nat → W64 → Prop := fun i lat v =>
       entersFlight (exec i s) s false (flightOf s (.e f.d.toNat) allBits (v.setWidth 2048) lat 0)
     let x := s.cur.chk f.s1.toNat
     let y := s.cur.chk f.s2.toNat
     let t := f.fmt.toNat
     let mask := s.cur.maskReg f.mask.toNat
     let l := ((List.range (elemCount (typeWidth t))).filter fun j => mask.getLsbD (typeWidth t * j / 32)).map
       fun j => elem (typeWidth t) (s.cur.vec f.s1.toNat) j
     m (.mand f) (a &&& b) ∧ m (.mor f) (a ||| b) ∧ m (.mxor f) (a ^^^ b) ∧ m (.mandn f) (a &&& ~~~b) ∧ m (.mnot f) (~~~a) ∧
     m (.mmov f) a ∧ m (.mset f) (s.cur.scalar .x f.s1.toNat) ∧ e (.mget f) 1 a ∧
     e (.mcnt f) 1 (BitVec.ofNat 64 ((List.range 64).filter fun i => a.getLsbD i).length) ∧
     (∃ n, n ≤ 64 ∧ e (.mfirst f) 1 (BitVec.ofNat 64 n) ∧ (∀ i, i < n → a.getLsbD i = false) ∧ (n < 64 → a.getLsbD n = true)) ∧
     entersFlight (exec (.ckclr f) s) s false (flightOf s (.ck f.d.toNat) allBits 0 1 0) ∧
     (f.fn = 0 → e (.ckget f) 2 (x.extractLsb' 0 64)) ∧ (f.fn = 1 → e (.ckget f) 2 (x.extractLsb' 64 64)) ∧
     (f.fn = 0 → entersFlight (exec (.ckacc f) s) s false { flightOf s (.ck f.d.toNat) allBits 0 4 0 with
       op := .ckIsum (BitVec.ofInt 128 (l.foldl (fun (acc : Int) b => acc + intOf t b) 0)) }) ∧
     (f.fn = 1 → entersFlight (exec (.ckacc f) s) s false { flightOf s (.ck f.d.toNat) allBits 0 4 0 with
       op := (let v := l.map fun b => flushIn t b f.fzi
         .ckFsum (v.foldl (fun (acc : Int) x => acc + x.inUnits (-149)) 0) (v.any fun x => x = .nan) (v.any fun x => x = .inf false)
           (v.any fun x => x = .inf true) v.length) }) ∧
     let pass : Prop := if f.fn = 0 then x = y else x.extractLsb' 32 96 = y.extractLsb' 32 96 ∧
       withinTol (decodeFloat 0 (x.extractLsb' 0 32).toNat) (decodeFloat 0 (y.extractLsb' 0 32).toNat) (f.fn.toNat + 7) = true
     (pass → exec (.ckchk f) s = .next (s.advance false)) ∧
     (¬ pass → entersFlight (exec (.ckchk f) s) s false { flightOf s (.e 0) allBits 0 4 0 with op := .check }))

/-- R188, R189, R235, R236: `vpop` waits for the head of its load queue, removes it, and sends its data and its flag word to
their registers; `vpush` appends an entry to its store queue and waits while it is full.

R56, R57, R219, R238, R239, R240, R382: the results that are due land in the order of issue, each in its register, the bits that
it writes and no others; a contribution to a checksum register adds to what the register then holds. Their flags are ORed into
sys.fpstat. A poisoned result, a failing check, and a flag whose enable is set raise a late fault that names the instruction;
the first in the order of issue is the one reported, once all have landed.

That a register in which a poisoned result has landed is poisoned, and that poison comes before a failing check and both before
a flag, are the model's choices of log entries 21 and 37.

It rests on the model's choices of log entries 21 and 37. -/
def Obligations.QueuesAndResults : Prop :=
  (∀ (f : F3) (s : State), s.str = .x → s.guardHolds f.g = true →
     let c := s.cur
     (∀ q rest, c.loadQ f.s1.toNat = q :: rest → q.filled = true → q.poison = false → f.fn.toNat < 3 →
       ∃ u, exec (.vpop f) s = .next u ∧ onlyCore s u ∧ movedOn s u false ∧ memorySame s u ∧
         u.cur = { c with sx := u.cur.sx, lq := u.cur.lq, reqs := u.cur.reqs, inflight := u.cur.inflight } ∧
         (∀ k, u.cur.loadQ k = if k = f.s1.toNat then rest else c.loadQ k) ∧
         u.cur.inflight = tick (c.inflight ++ [flightOf s (.v f.d.toNat) allBits q.data 2 0,
           flightOf s (.m f.mask.toNat) allBits ((if f.fn = 0 then q.resid else if f.fn = 1 then q.view else q.resid ||| q.view).setWidth 2048) 2 0])) ∧
     ((∀ q ∈ (c.loadQ f.s1.toNat).head?, q.filled = false) → exec (.vpop f) s = .next s.stalled) ∧
     ((c.storeQ f.d.toNat).length < 16 →
       ∃ u, exec (.vpush f) s = .next u ∧ onlyCore s u ∧ movedOn s u false ∧ memorySame s u ∧
         u.cur = { c with sx := u.cur.sx, sq := u.cur.sq, inflight := tick c.inflight } ∧
         ∀ k, u.cur.storeQ k = if k = f.d.toNat then c.storeQ k ++ [⟨c.vec f.s1.toNat, c.maskReg f.mask.toNat, false⟩] else c.storeQ k) ∧
     (16 ≤ (c.storeQ f.d.toNat).length → exec (.vpush f) s = .next s.stalled)) ∧
  (∀ (s : State) (n : Nat),
     let c := s.coreAt n
     let due := c.inflight.filter fun g => g.remaining = 0
     let stat := due.foldl (fun (v : W64) f => v ||| f.flags.setWidth 64) c.cont.fpstat
     let sum : Int → Bool → Bool → Bool → Machine.Num := fun v nan pinf ninf =>
       if nan || (pinf && ninf) then .nan else if pinf then .inf false else if ninf then .inf true
       else if v = 0 then .zero false else .fin (v < 0) v.natAbs (-149)
     let poisoned : InFlight → Nat → Bool := fun f k => f.poison && f.op != .check && f.dest.key == some k
     let landed : State → Prop := fun u => ∃ d, u = s.setCore n d ∧ d.inflight = (c.inflight.filter fun g => g.remaining ≠ 0) ∧
       d = { c with inflight := d.inflight, e := d.e, v := d.v, m := d.m, ck := d.ck, regPoison := d.regPoison, cont := { c.cont with fpstat := stat } } ∧
       (∀ r, d.vec r = due.foldl (fun v f => if f.op = .write ∧ f.dest = .v r then (v &&& ~~~f.wmask) ||| (f.value &&& f.wmask) else v) (c.vec r)) ∧
       (∀ r, d.scalar .x r = due.foldl (fun v f => if f.op = .write ∧ f.dest = .e r ∧ r ≠ 0 then f.value.setWidth 64 else v) (c.scalar .x r)) ∧
       (∀ r, d.maskReg r = due.foldl (fun v f => if f.op = .write ∧ f.dest = .m r ∧ r ≠ 0 then f.value.setWidth 64 else v) (c.maskReg r)) ∧
       (∀ r, d.chk r = due.foldl (fun v f => if f.dest ≠ .ck r then v else match f.op with
         | .write => f.value.setWidth 128
         | .ckIsum x => v + x
         | .ckFsum x nan pinf ninf k => BitVec.ofNat 128 ((v.toNat / 2 ^ 32 + k) % 2 ^ 96 * 2 ^ 32 +
             (roundTo 0 (Machine.Num.add 0 (decodeFloat 0 (v.toNat % 2 ^ 32)) (sum x nan pinf ninf)).1 0 false false).1)
         | .check => v) (c.chk r)) ∧
       (∀ pre f post k, due = pre ++ f :: post → poisoned f k = true → (∀ g ∈ post, g.dest.key ≠ some k) → k ∈ d.regPoison) ∧
       ∀ k ∈ d.regPoison, k ∈ c.regPoison ∨ ∃ f ∈ due, poisoned f k = true
     let late : InFlight → Option Trap := fun f =>
       if f.poison then some { code := cPoison, kind := 2, epc := some f.pc }
       else if f.op = .check then some { code := cCheck, kind := 2, epc := some f.pc }
       else if stat.extractLsb' 8 5 &&& f.flags ≠ 0 then some { code := cFp, info := f.flags.toNat, kind := 2, epc := some f.pc }
       else none
     ((∀ f ∈ due, late f = none) → ∃ u, exec (.xResultLanding n) s = .next u ∧ landed u) ∧
     ∀ pre f post t, due = pre ++ f :: post → (∀ g ∈ pre, late g = none) → late f = some t →
       ∃ u, landed u ∧ exec (.xResultLanding n) s = .next (u.raiseAt n .x t))

/-! ### System registers, traps, local memory -/

/-- R21, R375, R378, R389, R392, R393: `csrr` reads the system register that its immediate numbers; `csrw` writes the bits that the
register has. The context registers need supervisor level; sys.fpstat and sys.ldstat wait until A and X are idle, but
for a handler; a register that is only read raises ILLEGAL.

R182, R395: `roleset` gives the banks of its mask a role; a bank whose role changes holds zeros afterwards, any other keeps its
bytes.

It rests on the model's choice of log entry 17. -/
def Obligations.SystemRegisters : Prop :=
  (∀ (f : FL) (s : State), s.str = .c → s.guardHolds f.g = true →
     let r := f.imm.toNat
     let c := s.cur
     let k := c.cont
     let x := s.curCtx
     let v := s.rd f.d
     let reads : Nat → W64 → Prop := fun n w => r = n → writesScalar (exec (.csrr f) s) s false f.d.toNat w
     let writes : Nat → ContRegs → Prop := fun n q => r = n → ∃ u, exec (.csrw f) s = .next u ∧ onlyCore s u ∧
       u.cur = { c with cont := q, sc := c.sc.advance false }
     let sets : Nat → Ctx → Prop := fun n y => r = n →
       (x.sup = true → ∃ u, exec (.csrw f) s = .next u ∧ u.ctxAt c.ctx = y ∧ (∀ i, i ≠ c.ctx → u.ctxAt i = s.ctxAt i) ∧
         u = { s with cores := u.cores, ctxs := u.ctxs } ∧ u.cur = { c with sc := c.sc.advance false } ∧
         ∀ i, i ≠ s.core → u.coreAt i = s.coreAt i) ∧
       (x.sup = false → exec (.csrw f) s = .next (s.raise { code := cPriv }))
     (∃ w : W64, reads 0x000 w ∧ ∀ i, i < 64 → w.getLsbD i =
       if 40 ≤ i ∧ i < 44 then (s.dieAt (i - 40)).inService else (0x5808102020604001 : W64).getLsbD i) ∧
     reads 0x001 (BitVec.ofNat 64 (dieOf s.core * 256 + s.core)) ∧ reads 0x002 s.fab.peerid ∧
     (∃ w : W64, reads 0x010 w ∧ w.getLsbD 63 = x.sup ∧ w.getLsbD 62 = x.prot ∧ w.getLsbD 61 = k.th ∧ w.getLsbD 60 = k.res ∧
       w.extractLsb' 10 50 = 0 ∧ (w.extractLsb' 0 10).toNat = c.ctx % 1024) ∧
     reads 0x011 k.tvec ∧ reads 0x012 k.cause ∧ reads 0x013 k.epc ∧ reads 0x014 k.opc ∧ reads 0x015 k.cpc ∧ reads 0x016 k.apc ∧
     reads 0x017 k.xpc ∧ reads 0x018 k.tmpa ∧ reads 0x019 k.tmpb ∧ reads 0x01A k.aretry ∧ reads 0x020 k.fpstat ∧
     reads 0x021 k.ldstat ∧ reads 0x022 k.bview ∧ reads 0x023 x.vsel ∧ reads 0x024 c.bankrole0 ∧ reads 0x025 c.bankrole1 ∧
     reads 0x026 k.ssave ∧ reads 0x028 (BitVec.ofNat 64 (x.ckpt % 2 ^ 32)) ∧ reads 0x030 x.ptbase ∧ reads 0x031 x.callow0 ∧
     reads 0x032 x.callow1 ∧
     (∀ l, s.launchAt c.launchDie c.launch = some l →
       reads 0x027 (BitVec.ofNat 64 (l.shares % 256 * 256 + s.sharesHeld (dieOf s.core) c.launchDie c.launch % 256))) ∧
     writes 0x011 { k with tvec := v &&& 0x800000FFFFFFFFFF } ∧ writes 0x013 { k with epc := v &&& 0xFFFFFFFFFF } ∧
     writes 0x015 { k with cpc := v &&& 0xFFFFFFFFFF } ∧ writes 0x016 { k with apc := v &&& 0xFFFFFFFFFF } ∧
     writes 0x017 { k with xpc := v &&& 0xFFFFFFFFFF } ∧ writes 0x018 { k with tmpa := v } ∧ writes 0x019 { k with tmpb := v } ∧
     (k.th = true ∨ (c.sa.idle = true ∧ c.sx.idle = true) →
       writes 0x020 { k with fpstat := v &&& 0x1F1F } ∧ writes 0x021 { k with ldstat := v &&& 0xF }) ∧
     (k.th = false → (c.sa.idle = false ∨ c.sx.idle = false) → r = 0x020 ∨ r = 0x021 → exec (.csrw f) s = .next s.stalled) ∧
     (v.toNat / 2 ^ 24 % 2 ^ 12 ≤ 3072 → writes 0x026 { k with ssave := v &&& 0xFFFFFFC00 }) ∧
     (3072 < v.toNat / 2 ^ 24 % 2 ^ 12 → r = 0x026 → exec (.csrw f) s = .next (s.raise { code := cIllegal })) ∧
     sets 0x023 { x with vsel := v &&& 0xF } ∧ sets 0x030 { x with ptbase := v &&& 0x800000FFFFFF8000 } ∧
     sets 0x031 { x with callow0 := v } ∧ sets 0x032 { x with callow1 := v } ∧
     (r ∈ [0x000, 0x001, 0x002, 0x010, 0x012, 0x014, 0x01A, 0x022, 0x024, 0x025, 0x027, 0x028] →
       exec (.csrw f) s = .next (s.raise { code := cIllegal }))) ∧
  (∀ (f : FI) (s : State), s.str = .c → s.guardHolds f.g = true →
     let c := s.cur
     let mask := (s.rd f.s1).toNat
     let role := f.imm.toNat % 8
     (2 ^ 32 ≤ mask ∨ 4 < role → exec (.roleset f) s = .next (s.raise { code := cIllegal })) ∧
     (mask < 2 ^ 32 → role ≤ 4 → c.jobs = [] → c.reqs = [] →
       ∃ u, exec (.roleset f) s = .next u ∧
         (∀ b, b < 32 → u.cur.bankRole b = if bitOf mask b then role else c.bankRole b) ∧
         (∀ b i, b < 32 → i < 98304 → Memory.read u.cur.localMem (b * 98304 + i) =
           if bitOf mask b = true ∧ c.bankRole b ≠ role then 0 else Memory.read c.localMem (b * 98304 + i)) ∧
         (f.imm.getLsbD 3 = false ∨ c.lines = [] → onlyCore s u) ∧
         (∀ b, b < 32 → bitOf mask b = true → c.bankRole b = 0 → role ≠ 0 → u.cur.lines = []) ∧
         (∀ st r, u.cur.scalar st r = c.scalar st r) ∧ u.cur.sc = c.sc.advance false ∧ u.cur.v = c.v ∧ u.cur.cont = c.cont))

/-- R375, R378, R394: `syscall` raises SYSCALL with its immediate, to be resumed behind it. `tret` returns: C continues at the PC that
the trap saved, or at sys.epc when C trapped, A and X at theirs, and the handler is over. A pending trap is delivered before C
goes on there; a PC that names no slot raises ILLEGAL. `halt` freezes the core until the management complex releases it.

R373, R379, R380, R381: a trap of A or X, or a late one of what C has done before the handler, waits while the handler runs, one
for each stream; a pending trap is delivered when the core can take it, and C freezes where it stands, also in a stall in
which it awaits an answer. A trap of the handler itself, a late one of its own work among them, is escalated: a supervisor context, or one with no
escalation area, halts its core; any other is to be saved into that area.

It rests on the model's choices of log entries 37, 51 and 79. -/
def Obligations.TrapLevel : Prop :=
  (∀ (f : FI) (s : State), s.str = .c → s.guardHolds f.g = true →
     let c := s.cur
     let k := c.cont
     let resume : Stream → W64 → W64 := fun st pc =>
       if k.cause.toNat / 2 ^ 62 = 0 ∧ k.cause.toNat / 2 ^ 60 % 4 = streamCode st then k.epc else pc
     exec (.syscall f) s = .next (s.raise { code := cSyscall, info := f.imm.toNat % 2 ^ 16, epc := some ((c.sc.fall false).1) }) ∧
     (k.th = false → exec (.tret f) s = .next (s.raise { code := cIllegal })) ∧
     (k.th = true → c.unresolved = none → (∀ r ∈ c.reqs, r.stop = none ∧ r.kept = false) → c.frozen = [] → c.firstPending = none →
       namesSlot (resume .c k.cpc) = true →
       ∃ u, exec (.tret f) s = .next u ∧ onlyCore s u ∧
         u.cur = { c with
           cont := { k with th := false }, sa := u.cur.sa, sx := u.cur.sx, arrived := c.outer, outer := none,
           reqs := c.reqs.map fun r => { r with past := r.past || r.str == .c }
           sc := { c.sc with pc := resume .c k.cpc, line := none, fell := false, residual := k.res } } ∧
         u.cur.sa.pc = resume .a k.apc ∧ u.cur.sx.pc = resume .x k.xpc ∧
         u.cur.sa.residual = c.sa.residual ∧ u.cur.sx.residual = c.sx.residual ∧
         u.cur.sa.started = c.sa.started ∧ u.cur.sa.finished = c.sa.finished ∧
         u.cur.sx.started = c.sx.started ∧ u.cur.sx.finished = c.sx.finished) ∧
     (k.th = true → c.firstPending = none → namesSlot (resume .c k.cpc) = false →
       exec (.tret f) s = .next ((s.modCur fun d => d.returned false).raise { code := cIllegal, epc := some (resume .c k.cpc) })) ∧
     (∀ st q, k.th = true → c.firstPending = some (st, q) → s.residualOf s.core = none → (∀ t, (c.stream t).fell = false) →
       (∀ f ∈ c.inflight, f.remaining ≠ 0) → s.escalates s.core st false (q.cause.toNat % 256) = false →
       ∃ u, exec (.tret f) s = .next u ∧ memorySame s u ∧
         let e := u.cur
         e.pend st = none ∧ e.cont.cause = q.cause ∧ e.cont.epc = q.epc ∧ e.cont.opc = q.opc ∧ e.cont.th = true ∧
         (st ≠ .c → e.cont.cpc = pcReg (resume .c k.cpc)) ∧ e.sc.pc = pcReg k.tvec ∧ e.sc.residual = false) ∧
     (s.curCtx.sup = true → ∃ u, exec (.halt f) s = .next u ∧ u.cur = { c with mode := .halted, sc := c.sc.advance false } ∧
       (∀ n, n ≠ s.core → u.coreAt n = s.coreAt n) ∧
       u = { s with cores := u.cores, mgmt := { s.mgmt with posted := s.mgmt.posted ++ [⟨1, s.core, 0⟩] } }) ∧
     ∀ n, (s.coreAt n).mode = .halted → ∃ u, exec (.coreRelease n) s = .next u ∧
       u.coreAt n = { (s.coreAt n) with mode := .running } ∧ (∀ m, m ≠ n → u.coreAt m = s.coreAt m) ∧
       u = { s with cores := u.cores, events := s.events ++ [.trapDelivery n] }) ∧
  (∀ (s : State) (t : Trap),
     let c := s.cur
     let epc := pcReg (t.epc.getD (c.stream s.str).pc)
     let p : PendingTrap := ⟨causeWord t.kind s.str t.info t.code, epc, pcReg (s.originPc s.core s.str epc)⟩
     c.inside = none → t.code ≠ cChainEnd → (∀ u, (c.stream u).fell = false) → (∀ f ∈ c.inflight, f.remaining ≠ 0) →
     (c.cont.th = true → (s.str ≠ .c ∨ t.before = true) → onlyCore s (s.raise t) ∧
       (c.pend s.str = none → (s.raise t).cur = c.setPend s.str (some p)) ∧
       (∀ q, c.pend s.str = some q → (s.raise t).cur = c)) ∧
     (c.cont.th = true → s.str = .c → t.before = false → c.saving = none → c.mode = .running → s.residualOf s.core = none →
       (s.curCtx.log = false ∨ t.code % 256 ≠ cPoison) →
       let u := s.raise t
       u.cur.cont.cause = p.cause ∧ u.cur.cont.epc = p.epc ∧ u.cur.cont.opc = p.opc ∧ u.cur.cont.th = true ∧ memorySame s u ∧
       ((s.curCtx.sup = true ∨ s.curCtx.escal = 0) → u.cur.mode = .halted ∧
         u.mgmt = { s.mgmt with posted := s.mgmt.posted ++ [⟨1, s.core, p.cause⟩] }) ∧
       (s.curCtx.sup = false → s.curCtx.escal ≠ 0 → ∃ a, u.cur.saving = some ⟨none, a, false, some p.cause, none, none⟩ ∧
         a.va = s.curCtx.escal ∧ u.events = s.events ++ [.preemption s.core s.curCtx.escal false]))) ∧
  ∀ (s : State) (n : Nat) (st : Stream) (q : PendingTrap),
     let d := s.coreAt n
     d.firstPending = some (st, q) → d.mode = .running → d.saving = none → d.cont.th = false → (∀ t, (d.stream t).fell = false) →
     (∀ f ∈ d.inflight, f.remaining ≠ 0) → s.residualOf n = none → s.escalates n st false (q.cause.toNat % 256) = false →
     ∃ u, exec (.trapDelivery n) s = .next u ∧
       let e := u.coreAt n
       e.pend st = none ∧ e.cont.cause = q.cause ∧ e.cont.epc = q.epc ∧ e.cont.opc = q.opc ∧ e.cont.th = true ∧
       e.sc.pc = pcReg d.cont.tvec ∧ e.sc.residual = false ∧ e.mode = .running ∧ e.cwait = .none ∧ memorySame s u ∧
       (d.cwait = .none → e.frozen = d.frozen) ∧ (d.cwait ≠ .none → e.frozen = ⟨d.sc, d.cwait, d.waitsAt, true⟩ :: d.frozen)

/-! ### Saving, checkpoints, self-tests -/

/-- R385, R386, R391, R399: `ctxsave` of a core that runs a continuation freezes it and waits; a core without one gives the status 1. A
pre-emption whose core has parked ends: the record is SAVED under the next serial number, its core keeps the local
memory or is released, what is BLOCKED on it may enter, and the `ctxsave` that waits receives 0. While bytes of the core are on their way to remote
homes it waits, before the area is written and before the record is SAVED.

It rests on the model's choices of log entries 43, 44 and 45. -/
def Obligations.Saves : Prop :=
  ∀ (f : F3) (s : State) (n : Nat) (e : CabEntry), n < 128 →
    (s.str = .c → s.guardHolds f.g = true → s.curCtx.sup = true → s.rd f.s1 = BitVec.ofNat 64 n → n ≠ s.core →
      let off := (s.rd f.d).toNat
      let tok := s.cur.tok f.s2.toNat
      let len := 0x16400 + 1024 * ((s.coreAt n).cont.ssave.toNat / 2 ^ 24 % 2 ^ 12) + 16
      off % 64 = 0 → s.checkToken s.cur.ctx tok off len (needR ||| needW) = .ok e → (∀ g ∈ e.elemSegs 0 off len, plainPart s g) →
      keepsEntries s.cur s.cur.ctx (tokIndex tok) →
      ((s.coreAt n).mode ≠ .running → (s.coreAt n).mode ≠ .halted →
        writesScalar (exec (.ctxsaveKeep f) s) s false f.d.toNat 1 ∧ writesScalar (exec (.ctxsaveDrop f) s) s false f.d.toNat 1) ∧
      ((s.coreAt n).mode = .running → (s.coreAt n).saving = none → s.residualOf n = none → ∀ i ∈ [(Instr.ctxsaveKeep f, false), (.ctxsaveDrop f, true)],
        ∃ u c, exec i.1 s = .next u ∧ (u.coreAt n).saving = some c ∧ c.drop = i.2 ∧ c.area = e.areaAt off len ∧
          c.reply = some (s.core, f.d.toNat) ∧ c.cause = none ∧ u.cur.cwait = .management f.d.toNat 0 ∧ u.cur.sc = s.cur.sc ∧
          u.events = s.events ++ [.preemption n 0 i.2] ∧
          (u.cab s.cur.ctx (tokIndex tok)).inflight = (s.cab s.cur.ctx (tokIndex tok)).inflight + 1 ∧ memorySame s u ∧
          (∀ x ∈ (u.coreAt n).inflight, x.remaining ≠ 0) ∧
          ∀ st, ((s.coreAt n).stream st).fell = true → ((s.coreAt n).stream st).finished = false →
            ((u.coreAt n).pend st).isSome = true)) ∧
    ∀ (cmd : SaveCmd) (r : Rec) (pa : Nat) (rel : Bool),
      let c := s.coreAt n
      (c.mode = .running ∨ c.mode = .halted) → c.saving = some cmd → s.recAt c.recDie c.recSlot = some r →
      (s.parked n = false → cmd.serial = none → ∃ u, exec (.preemption n pa rel) s = .next u ∧ u.cores = s.cores ∧ u.mem = s.mem ∧
        .preemption n pa rel ∈ u.events) ∧
      (s.areaHole cmd.area (areaLen (ssaveKib c.cont.ssave)) = none → s.coreLeaving n = true → s.parked n = true ∨ cmd.serial ≠ none →
        ∃ u, exec (.preemption n pa rel) s = .next u ∧ (u.coreAt n).mode = c.mode ∧
          .preemption n pa rel ∈ u.events) ∧
      (s.parked n = true → cmd.serial = none → s.areaHole cmd.area (areaLen (ssaveKib c.cont.ssave)) = none →
        (∀ m d, cmd.reply = some (m, d) → m ≠ n ∧ (s.coreAt m).frozen = []) → s.coreLeaving n = false →
        (∀ p ∈ c.lines, p.1 < 2 ^ 33 ∨ p.2.cls = 0 ∨ p.2.dirty = 0) →
        (∀ g ∈ cmd.area.parts 0 (areaLen (ssaveKib c.cont.ssave)), s.isRemote g.frame = false) →
        ∃ u q, exec (.preemption n pa rel) s = .next u ∧ u.recAt c.recDie c.recSlot = some q ∧ q.state = .saved ∧
          q.serial = (s.ctxAt c.ctx).saveCount + 1 ∧ (u.ctxAt c.ctx).saveCount = (s.ctxAt c.ctx).saveCount + 1 ∧
          q.area = cmd.area ∧ q.keep = (if cmd.drop then none else some n) ∧
          (u.coreAt n).mode = (if cmd.drop then .idle else .saved) ∧ (u.coreAt n).saving = none ∧
          (u.coreAt n).localMem = (if cmd.drop then [] else c.localMem) ∧ (u.coreAt n).jobs = [] ∧ (∀ st, (n, st) ∉ u.turn) ∧
          (∀ p ∈ s.blockedAll n, p ≠ (c.recDie, c.recSlot) → .remqUnblock p.1 p.2 ∈ u.events) ∧
          ∀ m d, cmd.reply = some (m, d) → (u.coreAt m).cwait = .none ∧ (d ≠ 0 → (u.coreAt m).scalar .c d = 0) ∧
            (u.coreAt m).sc = ((s.coreAt m).sc).advance false) ∧
      (∀ k, cmd.serial = some k → s.areaHole cmd.area (areaLen (ssaveKib c.cont.ssave)) = none → s.coreLeaving n = false →
        ∃ u q, exec (.preemption n pa rel) s = .next u ∧ u.recAt c.recDie c.recSlot = some q ∧ q.state = .saved ∧ q.serial = k ∧
          q.area = cmd.area ∧ q.keep = (if cmd.drop then none else some n) ∧ (u.ctxAt c.ctx).saveCount = (s.ctxAt c.ctx).saveCount ∧
          ∀ a, Memory.read u.mem a = Memory.read s.mem a)

/-- R387, R388, R390, R399: `ctxload` of an area that passes every check onto an idle core: the core runs the record, with the registers,
the streams and the phase of its trap that the area holds; the status is 0. An area that fails a check raises
RESTORE_REFUSED with its reason; a core that runs a continuation gives 1.

It rests on the model's choices of log entries 43 and 45. -/
def Obligations.Loads : Prop :=
  ∀ (f : F3) (s : State) (n : Nat) (e : CabEntry) (i : Instr), i ∈ [Instr.ctxload f, .ctxloadEvict f] →
    s.str = .c → s.guardHolds f.g = true → s.curCtx.sup = true → n < 128 → s.rd f.s1 = BitVec.ofNat 64 n → n ≠ s.core →
    let off := (s.rd f.d).toNat
    let tok := s.cur.tok f.s2.toNat
    let kib := min 3072 (bitsOf (natAt (s.areaBytes [] (e.areaAt off 64) 0 64) 0x20 8) 35 24)
    let len := areaLen kib
    let area := e.areaAt off len
    let c := s.coreAt n
    off % 64 = 0 → s.checkToken s.cur.ctx tok off (areaLen 0) needR = .ok e → s.checkToken s.cur.ctx tok off len needR = .ok e →
    (∀ g ∈ (e.areaAt off 64).ent.elemSegs 0 0 64, plainPart s g) → (∀ g ∈ area.ent.elemSegs 0 0 len, plainPart s g) →
    keepsEntries s.cur s.cur.ctx (tokIndex tok) →
    (c.mode = .running ∨ c.mode = .halted → ∃ u, exec i s = .next u ∧ memorySame s u ∧
      (∀ r, u.cur.scalar .c r = if r = f.d.toNat ∧ r ≠ 0 then 1 else s.cur.scalar .c r) ∧ movedOn s u false) ∧
    (∀ k, c.mode = .idle → s.checkArea (s.areaBytes [] area 0 len) (s.areaPlace area) = .error k →
      exec i s = .next (s.raise { code := cRestore, info := k })) ∧
    (∀ img r, c.mode = .idle → c.jobs = [] → c.underTest = false → s.checkArea (s.areaBytes [] area 0 len) (s.areaPlace area) = .ok img →
      let ctl := natAt img 8 8
      let w : Nat → W64 := fun o => BitVec.ofNat 64 (natAt img o 8)
      s.recAt (bitsOf ctl 49 48) (bitsOf ctl 47 32) = some r → r.keep = none →
      ∃ u q, exec i s = .next u ∧
        let d := u.coreAt n
        d.mode = .running ∧ d.recDie = bitsOf ctl 49 48 ∧ d.recSlot = bitsOf ctl 47 32 ∧ d.ctx = r.ctx ∧ d.launch = r.launch ∧
        u.recAt d.recDie d.recSlot = some q ∧ q.state = .running ∧
        (∀ k, k < 32 → k ≠ 0 → d.scalar .c k = w (0x40 + 8 * k) ∧ d.scalar .a k = w (0x1C0 + 8 * k) ∧ d.scalar .x k = w (0x2C0 + 8 * k)) ∧
        (∀ k, k < 16 → d.tok k = w (0x140 + 8 * k)) ∧ (∀ k, k < 64 → d.vec k = BitVec.ofNat 2048 (natAt img (0x800 + 256 * k) 256)) ∧
        (∀ k, k < 8 → k ≠ 0 → d.maskReg k = w (0x3C0 + 8 * k)) ∧ (∀ k, k < 4 → d.chk k = BitVec.ofNat 128 (natAt img (0x400 + 16 * k) 16)) ∧
        d.sc.pc = BitVec.ofNat 64 (natAt img 0x640 8 % 2 ^ 40) ∧ d.sa.pc = BitVec.ofNat 64 (natAt img 0x648 8 % 2 ^ 40) ∧
        d.sx.pc = BitVec.ofNat 64 (natAt img 0x650 8 % 2 ^ 40) ∧ d.cont.th = bitOf ctl 18 ∧ d.cont.cause = w (0x440 + 8 * 0x12) ∧
        (f.d ≠ 0 → u.cur.scalar .c f.d.toNat = 0) ∧ u.cur.sc = (s.cur.sc).advance false)

/-- R398, R404, R405, R406: `ckpt` closes a context's interval and opens the next, whose number it returns; `ckroll` gives the logged lines the
bytes that they had at the interval's start. Neither acts while a continuation of the context runs.

R10, R398, R407: `stest` of a unit that is not busy waits for its test; a busy unit gives 3. Firmware's own test of a busy core
has the continuation pre-empted first, and stays due. A test that passes answers 0; a core that
fails moves to a spare, or is retired with its die out of service.

It rests on the model's choices of log entries 11, 46, 59 and 80. -/
def Obligations.CheckpointsAndTests : Prop :=
  (∀ (f : FI) (s : State), tidy s → s.str = .c → s.guardHolds f.g = true → s.curCtx.sup = true →
     let t := (s.rd f.s1).toNat
     t < 1024 →
     (s.ctxRunning t = true → writesScalar (exec (.ckpt f) s) s false f.d.toNat 0xFFFFFFFFFFFFFFFF) ∧
     (s.ctxRunning t = false → ∃ u, exec (.ckpt f) s = .next u ∧ (u.ctxAt t).ckpt = ((s.ctxAt t).ckpt + 1) % 2 ^ 32 ∧
       (u.ctxAt t).overflow = false ∧ u.homes.undo = s.homes.undo.filter (fun x => x.ctx ≠ t) ∧
       (f.d ≠ 0 → u.cur.scalar .c f.d.toNat = BitVec.ofNat 64 (((s.ctxAt t).ckpt + 1) % 2 ^ 32)) ∧
       memorySame s u ∧ movedOn s u false) ∧
     (∀ l old p, s.ctxRunning t = false → (s.ctxAt t).overflow = false → s.memoryCores t = [] →
       (s.homes.undo.filter fun x => x.ctx = t && x.interval = (s.ctxAt t).ckpt) = [⟨t, l, (s.ctxAt t).ckpt, old, p⟩] →
       ∃ u, exec (.ckroll f) s = .next u ∧
         (∀ a, byteAt u a = if lineNo a = l then lineBytes old (a % 128) 1 else byteAt s a) ∧
         (∀ n, SMap.find (u.coreAt n).lines l = none) ∧ (f.d ≠ 0 → u.cur.scalar .c f.d.toNat = 0) ∧ u.cur.sc = (s.cur.sc).advance false)) ∧
  (∀ (f : FI) (s : State), tidy s →
     let kind := f.imm.toNat / 2 ^ 12 % 2 ^ 4
     let index := f.imm.toNat % 2 ^ 12
     index < unitCount kind →
     (s.str = .c → s.guardHolds f.g = true → s.curCtx.sup = true →
       (s.unitBusy kind index = true → writesScalar (exec (.stest f) s) s false f.d.toNat 3) ∧
       (s.unitBusy kind index = false → ∃ u, exec (.stest f) s = .next u ∧
         u.cur = { s.cur with cwait := .management f.d.toNat (2 + kind * 4096 + index), testing := u.cur.testing } ∧
         (kind < 3 → (u.coreAt (unitCore kind index)).testing = some kind) ∧
         u.events = s.events ++ [.selfTest kind index (Config.testOutcome s.fresh)] ∧ memorySame s u)) ∧
     (s.unitBusy kind index = true → s.testAsked kind index = false → kind = 0 ∨ kind = 2 →
       (s.coreAt (unitCore kind index)).preemptible = true → (∀ e ∈ s.events, e.preempts (unitCore kind index) = false) →
       ∃ u pa, exec (.selfTest kind index 1) s = .next u ∧ .preemption (unitCore kind index) pa true ∈ u.events ∧
         .selfTest kind index 1 ∈ u.events ∧ (u.coreAt (unitCore kind index)).testing = some kind ∧ memorySame s u) ∧
     (s.unitBusy kind index = false → ∃ u, exec (.selfTest kind index 0) s = .next u ∧
       SMap.find u.mgmt.lastTest (unitDie kind index) = some 0 ∧ memorySame s u ∧
       ∀ m d, (s.coreAt m).cwait = .management d (2 + kind * 4096 + index) → (s.coreAt m).frozen = [] →
         (u.coreAt m).cwait = .none ∧ (d ≠ 0 → (u.coreAt m).scalar .c d = 0) ∧ (u.coreAt m).sc = ((s.coreAt m).sc).advance false) ∧
     (s.unitBusy kind index = false → kind = 0 → s.mgmt.noSpares = false → SMap.get 0 s.mgmt.sparesUsed (index / 32) < 2 →
       ∃ u, exec (.selfTest 0 index 1) s = .next u ∧ SMap.find u.mgmt.lastTest (index / 32) = some 1 ∧
         SMap.get 0 u.mgmt.sparesUsed (index / 32) = SMap.get 0 s.mgmt.sparesUsed (index / 32) + 1 ∧
         u.mgmt.physicalCore index = 128 + 2 * (index / 32) + SMap.get 0 s.mgmt.sparesUsed (index / 32) ∧
         (u.coreAt index).mode = (s.coreAt index).mode) ∧
     (s.unitBusy kind index = false → kind = 0 → 2 ≤ SMap.get 0 s.mgmt.sparesUsed (index / 32) →
       ∃ u, exec (.selfTest 0 index 1) s = .next u ∧ (u.coreAt index).mode = .retired ∧ (u.dieAt (index / 32)).inService = false))

/-- R314, R166, R396, R397, R399: `pgclass` at its own home writes every cached copy of the page back and records the class; at another chip it
waits for that home. `tsweep` makes the RETIRED entries of a context FREE with generation 0. `shelfput` adds a record of a live
launch.

R371: a page moves line by line. The first copy begins the page's move and sends the line under the cursor to the new home; a
request that was answered with retry is sent again under its ID.

It rests on the model's choices of log entries 47 and 57. -/
def Obligations.PagesRecordsMigrations : Prop :=
  (∀ (f : F3) (s : State), tidy s → s.str = .c → s.guardHolds f.g = true → s.curCtx.sup = true →
     (let a := (s.rd f.s1).toNat
      let d := (s.rd f.d).toNat
      let peer := d / 2 ^ 52
      let size := 2 ^ (16 + 10 * (d % 4))
      d % 4 ≠ 3 → a % size = 0 → isMapped a = true → isMapped (a + size - 1) = true →
      (peer = s.ownPeer → coherent s → ∃ u, exec (.pgclass f) s = .next u ∧
        u.homes.pageClass.head? = some (a, size, f.fn.toNat) ∧
        (∀ n l x, SMap.find (u.coreAt n).lines l = some x → ¬ (a ≤ l * 128 ∧ l * 128 < a + size)) ∧
        (∀ b, byteAt u b = byteAt s b ∨ ∃ n x, SMap.find (s.coreAt n).lines (lineNo b) = some x ∧ x.cls ≠ 0 ∧ x.dirty ≠ 0) ∧
        u.cur.sc = (s.cur.sc).advance false) ∧
      (peer ≠ s.ownPeer → s.hasRoute peer = true → s.fab.reconf = .run → ∃ u q, exec (.pgclass f) s = .next u ∧
        q.kind = 6 ∧ q.dst = peer ∧ q.line = lineNo a ∧ q.op = 4 + 16 * f.fn.toNat ∧
        u.cur.cwait = .management 0 1 ∧ u.mem = s.mem ∧ u.cur.sc = s.cur.sc ∧ { u with cores := s.cores } = { (State.send s q) with cores := s.cores })) ∧
     (let t := (s.rd f.s1).toNat
      t < 1024 → s.ctxRunning t = false → s.savedRecs t = [] → ∃ u, exec (.tsweep f) s = .next u ∧
        (∀ i, u.cab t i = if (s.cab t i).state = .retired then { (s.cab t i) with state := .free, gen := 0 } else s.cab t i) ∧
        (∀ c, c ≠ t → u.ctxAt c = s.ctxAt c) ∧ memorySame s u ∧ movedOn s u false ∧ (f.d ≠ 0 → u.cur.scalar .c f.d.toNat = 0)) ∧
     ∀ (e : CabEntry) (l : Launch) (r : Rec) (d slot : Nat),
       let t := (s.rd f.s1).toNat
       let off := (s.rd f.d).toNat
       let tok := s.cur.tok f.s2.toNat
       let at_ := e.areaAt off 64
       let image := s.cab l.ctx (tokIndex l.image)
       let m := imageLines (s.areaBytes [] (image.areaAt 0 image.length.toNat) 0 (image.length.toNat / 64 * 64))
       s.areaNeeds [] (image.areaAt 0 image.length.toNat) 0 (image.length.toNat / 64 * 64) = [] →
       (∀ g ∈ (image.areaAt 0 image.length.toNat).parts 0 (image.length.toNat / 64 * 64), s.movedPart g = false) →
       keepsEntries s.cur s.cur.ctx (tokIndex tok) →
       t < 2 ^ 18 → off % 64 = 0 → s.checkToken s.cur.ctx tok off 64 needR = .ok e → (∀ g ∈ at_.ent.elemSegs 0 0 64, plainPart s g) →
       s.launchAt (t / 2 ^ 16) (t % 2 ^ 16) = some l → l.residual = none → l.ended = false →
       s.readRec l.ctx (t / 2 ^ 16) (t % 2 ^ 16) (Image.headAt m .c) (fun g => (SMap.find l.groups g).isSome) (s.areaBytes [] at_ 0 64) = some r →
       (s.ctxAt l.ctx).poolUsed < (s.ctxAt l.ctx).poolQuota → s.findSlot (t / 2 ^ 16) = some (d, slot) →
       ∃ u q, exec (.shelfput f) s = .next u ∧ u.recAt d slot = some q ∧ q.state = .ready ∧ q.t0 = s.time ∧ q.pc = r.pc ∧ q.args = r.args ∧
         q.launch = r.launch ∧ (u.ctxAt l.ctx).poolUsed = (s.ctxAt l.ctx).poolUsed + 1 ∧
         (∃ l', u.launchAt (t / 2 ^ 16) (t % 2 ^ 16) = some l' ∧ l'.live = l.live + 1) ∧
         (f.d ≠ 0 → u.cur.scalar .c f.d.toNat = 0) ∧ memorySame s u ∧ movedOn s u false) ∧
  (∀ (s : State) (page size peer dest : Nat) (p : Packet), tidy s → coherent s →
     (s.homes.moving.find? (fun q => q.base = page) = none → size ≠ 0 → inRange s.homes.moved page = none →
       isMapped (lineNo page * 128) = true → s.fab.reconf = .run → (∀ r ∈ s.homes.reductions, r.1.2.1 ≠ lineNo page) →
       ∃ v q, exec (.migrationLineCopy page size peer dest) s = .next (State.send v q) ∧
         v.homes.moving = s.homes.moving ++ [⟨page, size, peer, dest, lineNo page, true⟩] ∧ (∀ a, byteAt v a = byteAt s a) ∧
         q.kind = 1 ∧ q.dst = peer ∧ q.data = s.homeLine (lineNo page) ∧ q.mask = BitVec.allOnes 128 ∧
         ∀ n x, SMap.find (v.coreAt n).lines (lineNo page) = some x → x.cls ≠ 0) ∧
     (s.hasRoute p.dst = true → exec (.migrationRetry p) s = .next (s.send p)) ∧
     (s.hasRoute p.dst = false → exec (.migrationRetry p) s = outcomeOf (s.handBack p)))

/-! ### Launches -/

/-- R25, R27, R30, R31, R32: a stream reads the 64-byte line of its PC from the image and keeps a copy when the line is one of its own; a stream
that has run off the end of its chain raises CHAIN_END. -/
def Obligations.LineFetches : Prop :=
  ∀ (s : State) (n : Nat) (st : Stream) (l : Launch) (e : CabEntry),
    let c := s.coreAt n
    let v := c.stream st
    let a := v.pc.toNat / 64 * 64
    c.mode = .running → v.awaiting = none → v.line = none →
    (v.fell = true → exec (.lineFetch n st) s = .next (s.raiseAt n st { code := cChainEnd })) ∧
    (v.fell = false → s.launchAt c.launchDie c.launch = some l → v.residual = false →
      s.checkOn n c.ctx l.image a 64 needX = .ok e → (∀ g ∈ e.elemSegs 0 a 64, plainPart s g) →
      keepsEntries c c.ctx (tokIndex l.image) →
      ∃ w : BitVec 512,
        (∀ i g rest pre, e.elemSegs 0 a 64 = pre ++ g :: rest → i < g.len →
          (w.extractLsb' (8 * ((pre.map fun h => h.len).sum + i)) 8).toNat = byteAt s (g.addr + i)) ∧
        ((w.extractLsb' 29 3).toNat = streamCode st → w.extractLsb' 24 5 = 0 → ∃ u, exec (.lineFetch n st) s = .next u ∧
          (u.coreAt n).stream st = { v with line := some w, lineAt := BitVec.ofNat 64 a } ∧ memorySame s u ∧
          ∀ t, t ≠ st → (u.coreAt n).stream t = c.stream t) ∧
        ((w.extractLsb' 29 3).toNat ≠ streamCode st → ∃ u, exec (.lineFetch n st) s = .next u ∧
          u = (s.noteToken n c.ctx (tokIndex l.image)).raiseAt n st { code := cIllegal, info := 2 }))

/-- R72 to R78, R83, R85, R97 to R99: a launch record whose checks pass, under policy 0, is accepted: it is live, its status word has its number
and the code 0x03, and its records are READY; the entry that a thread serves ends with its status, and the ring's head advances. The
same record in a packet of a listed scheduler is taken in the same way. A record that breaks a rule of step 1 is refused with its
status. Under the other policies a launch takes the code that the cache holds for its key, with the code 0x02; under policies 1 and 2
a miss joins or begins a Bench run.

R85, R87, R88, R99: a Bench run that ends well puts its code into the cache, pinned for the launch that it was run for, which goes on with
it; one that declines, or finds no room, lets the launch go on without, or refuses it under policy 2. A launch that waits for record
slots goes on once they are free.

R79, R80, R84: a feed-append record whose checks pass adds its elements to the queue, whose tail rises by their count; its status is 0x04. A
residency request of a listed scheduler is answered with the die's report; a request of any other peer is dropped and
counted.

It rests on the model's choices of log entries 30, 31, 32, 50 and 77. -/
def Obligations.Launches : Prop :=
  (∀ (s : State) (die ctx : Nat) (a : QAddr) (p : Packet) (i : Instr) (src : LaunchSrc),
     (i = .launchRecord die ctx a ∧ src = .entry a) ∨
       (i = .fabricLaunch die p ∧ src = .packet p ∧ p.src ∈ (s.dieAt (packetDie p)).schedulers ∧ (p.body.getD 0 0).toNat % 1024 = ctx) →
     let r := readLaunch (s.recordBytes src)
     let ext := s.launchExtents ctx r
     let b : Nat → List Byte := fun i => s.areaBytes [] (ext.getD i (⟨0, []⟩, 0)).1 0 (ext.getD i (⟨0, []⟩, 0)).2
     (s.dieAt die).reads = [] →
     (r.step1 ≠ 0 → recKind r.control ≠ 2 →
       (src = .entry a → a.host = true ∧ ∀ q, s.serving a = some q → (s.queue q).base.host = true) →
       ∃ u, exec i s = .next u ∧ u.mem = s.mem ∧ u.dies = (s.frontDone die src).dies ∧
         (src = .entry a → entryAnswered s u a r.step1)) ∧
     ∀ l, r.step1 = 0 → s.launchTokens ctx r = true →
       (∀ e ∈ ext, s.areaHole e.1 e.2 = none ∧ s.areaNeeds [] e.1 0 e.2 = [] ∧ ∀ g ∈ e.1.parts 0 e.2, s.movedPart g = false) →
       s.checkLaunch die ctx src r (b 0) (b 1) (b 2) (b 3) = .ok l →
       let hit := (s.dieAt die).cached l.key (s.cacheDomain ctx)
       let run : BenchRun → Bool := fun x => x.key = l.key && x.domain = s.cacheDomain ctx && !x.ended
       ((s.dieAt die).waitingLaunches = [] → l.recs.length ≤ (s.dieAt die).freeSlots → SMap.sorted (s.dieAt die).recs = true →
         (l.policy = 0 ∨ (l.policy = 3 ∧ hit = none) → ∃ u, exec i s = .next u ∧ launched s u die l none 0x03 ∧
           ∀ q ∈ l.recs, ∃ slot x, u.recAt die slot = some x ∧ x.state = .ready ∧ x.pc = q.pc ∧ x.args = q.args ∧ x.prio = q.prio) ∧
         (∀ e, l.policy ≠ 0 → hit = some e → ∃ u e', exec i s = .next u ∧ launched s u die l (some e.code) 0x02 ∧
           (u.dieAt die).cached l.key (s.cacheDomain ctx) = some e' ∧ e'.code = e.code ∧ e'.pins = e.pins + 1)) ∧
       (l.policy = 1 ∨ l.policy = 2 → hit = none → ∃ u, exec i s = .next u ∧ .benchWaitEnd die ∈ u.events ∧
         (u.dieAt die).launches = (s.dieAt die).launches ∧ u.mem = s.mem ∧ u.hostMem = s.hostMem ∧
         ((∀ x ∈ (s.dieAt die).runs, run x = false) →
           (u.dieAt die).runs = (s.dieAt die).runs ++ [⟨l.key, s.cacheDomain ctx, [l], false, 0⟩]) ∧
         ((∃ x ∈ (s.dieAt die).runs, run x = true) → (u.dieAt die).runs =
           (s.dieAt die).runs.map fun x => if run x then { x with members := x.members ++ [l] } else x))) ∧
  (∀ (s : State) (die : Nat) (r : BenchRun) (rest : List BenchRun) (l : PendingLaunch) (more : List PendingLaunch),
     let d := s.dieAt die
     (d.runs = r :: rest → r.members = l :: more → r.ended = false → d.waitingLaunches = [] → l.recs.length ≤ d.freeSlots →
       (∀ e, e ≠ 0 → l.residual = none →
         BenchIn.specialise ⟨l.lines, l.snapshot, l.mask, l.snapshot.length⟩ = .error e ∨ (e = 8 ∧ ∃ q,
           BenchIn.specialise ⟨l.lines, l.snapshot, l.mask, l.snapshot.length⟩ = .ok q ∧ makeRoom q.chunks 4096 d.bench = none) →
         (l.policy ≠ 2 → ∃ u, exec (.benchWaitEnd die) s = .next u ∧ launched s u die l none (e * 256 + 0x03)) ∧
         (l.policy = 2 → ∃ u, exec (.benchWaitEnd die) s = .next u ∧ (u.dieAt die).launches = d.launches ∧
           (u.cab l.ctx (tokIndex l.sig.tok)).inflight = (s.cab l.ctx (tokIndex l.sig.tok)).inflight - 1 ∧
           ∀ a, l.src = .entry a → a.host = true → entryAnswered s u a (e * 256 + if e = 8 then 0x18 else 0x17))) ∧
       (∀ q kept, BenchIn.specialise ⟨l.lines, l.snapshot, l.mask, l.snapshot.length⟩ = .ok q → makeRoom q.chunks 4096 d.bench = some kept →
         d.cached l.key r.domain = none →
         ∃ u b, exec (.benchWaitEnd die) s = .next u ∧ launched s u die l (some q) 0x01 ∧
           (u.dieAt die).cached l.key r.domain = some b ∧ b.code = q ∧ b.pins = 1)) ∧
     ∀ (w : List PendingLaunch), d.waitingLaunches = l :: w → l.recs.length ≤ d.freeSlots →
       ∃ u, exec (.poolSlotWaitEnd die) s = .next u ∧ launched s u die l l.residual l.status ∧ (u.dieAt die).waitingLaunches = w) ∧
  (∀ (s : State) (die ctx : Nat) (a : QAddr) (p : Packet) (e es : CabEntry) (g : Seg),
     (let q : Nat → Nat := fun o => natAt (s.recordBytes (.entry a)) o 8
      let c := q 0x28
      let foff := q 0x10
      let ftok : W64 := BitVec.ofNat 64 (q 8)
      let stok : W64 := BitVec.ofNat 64 (q 0x18)
      let head := e.areaAt foff 64
      let n := natAt (s.areaBytes [] head 16 1) 0 1 % 32
      let h := natAt (s.areaBytes [] head 0 8) 0 8
      let t := natAt (s.areaBytes [] head 8 8) 0 8
      let whole := e.areaAt foff (64 + 64 * 2 ^ n)
      let source := es.areaAt (q 0x20) (64 * c)
      (s.dieAt die).reads = [] → a.host = true → (∀ q, s.serving a = some q → (s.queue q).base.host = true) →
      q 0 = 2 * 2 ^ 56 → (∀ x ∈ ((s.recordBytes (.entry a)).drop 0x30).take 0x28 ++ (s.recordBytes (.entry a)).drop 0x60, x = 0) →
      1 ≤ c → c ≤ 64 → 1 ≤ n → n ≤ 16 →
      s.checkCab ctx ftok foff 64 (needR ||| needW) = .ok e → s.checkCab ctx stok (q 0x20) (64 * c) needR = .ok es →
      s.checkCab ctx ftok foff (64 + 64 * 2 ^ n) (needR ||| needW) = .ok e →
      (∀ x ∈ e.elemSegs 0 foff 8, plainPart s x ∧ homeDie x.addr = die) → (e.elemSegs 0 foff 8) ≠ [] →
      (∀ x ∈ whole.ent.elemSegs 0 0 (64 + 64 * 2 ^ n), plainPart s x) → (∀ x ∈ source.ent.elemSegs 0 0 (64 * c), plainPart s x) →
      s.areaNeeds [] source 0 (64 * c) = [] → whole.ent.elemSegs 0 8 8 = [g] → plainPart s g →
      (t + 2 ^ 64 - h) % 2 ^ 64 + c ≤ 2 ^ n → tidy s →
      ∃ u, exec (.feedAppend die ctx a) s = .next u ∧
        (∀ i, i < 8 → byteAt u (g.addr + i) = (t + c) % 2 ^ 64 / 256 ^ i % 256) ∧
        entryAnswered s u a 0x04) ∧
     (p.src ∈ (s.dieAt die).schedulers → exec (.residencyRequest die p) s = .next (s.mgmtReply p 3 (s.residency die))) ∧
     (∀ i, i = Instr.residencyRequest die p ∧ p.src ∉ (s.dieAt die).schedulers ∨
         i = .fabricLaunch die p ∧ p.src ∉ (s.dieAt (packetDie p)).schedulers →
       exec i s = .next { s with fab := { s.fab with dropped := s.fab.dropped + 1 } }))

/-! ### Packets -/

/-- R305, R318, R324, R326, R358, R361: at its home a read packet of another chip is answered with the bytes that memory holds in the sectors it
names, and one of a B page with the version that its view sees; a write packet changes the bytes of its mask, and those only, and is acknowledged. Its slot is then empty.

R336, R340, R341, R345: a numbered request executes once. A new one changes its word in one step, and its result is kept and sent; a request
whose result is kept is answered from there, and memory does not change; one that is too old is dropped.

It rests on the model's choices of log entries 52 and 54. -/
def Obligations.HomePackets : Prop :=
  (∀ (s : State) (p : Packet), tidy s → isMapped (p.line * 128) = true → s.gate p.line = .here → bodyFrom p = 0 →
     s.homes.migThreshold = 0 →
     bodyWord p 4 = 0 →
     let answers : Packet → Prop := fun q => q.kind = 4 ∧ q.dst = p.src ∧ q.line = p.line ∧ q.sdie = p.sdie ∧ q.score = p.score ∧
       q.sstr = p.sstr ∧ q.id = p.id
     (wordBundle (bodyWord p 2) = false → ∃ v q, exec (.readPacket p) s = .next ((State.send v q).slotEmptied p) ∧ answers q ∧ q.op = 0 ∧ q.sect = p.sect ∧
       (∀ i j, i < 4 → j < 32 → bitOf p.sect i = true → lineBytes q.data (32 * i + j) 1 = byteAt s (p.line * 128 + 32 * i + j)) ∧
       v.mem = s.mem ∧ v.cores = s.cores) ∧
     (∀ d x, wordBundle (bodyWord p 2) = true → (s.settle p.line).viewWaits p.line (packetView p) (bodyBundle p) = false →
       ((s.settle p.line).bLine p.line).visible (bodyBundle p) (packetView p) = some (d, x) →
       ∃ v q, exec (.readPacket p) s = .next ((State.send v q).slotEmptied p) ∧ answers q ∧ q.op = 0 ∧ q.sect = p.sect ∧
         bodyWord q 0 = x.toNat ∧ ∀ i j, i < 4 → j < 32 → bitOf p.sect i = true → lineBytes q.data (32 * i + j) 1 = lineBytes d (32 * i + j) 1) ∧
     (wordBundle (bodyWord p 2) = false →
       ∃ v q, exec (.writePacket p) s = .next ((State.send v q).slotEmptied p) ∧ answers q ∧ q.op = 2 ∧
         ∀ a, byteAt v a = if lineNo a = p.line ∧ p.mask.getLsbD (a % 128) = true then lineBytes p.data (a % 128) 1 else byteAt s a)) ∧
  (∀ (s : State) (p : Packet) (i : Instr), i ∈ [Instr.atomicPacket p, .signalUpdatePacket p] → packetReduce p = false →
     tidy s → bodyFrom p = 0 →
     let code := numberedCode p
     let size := numberedSize p
     let addr := numberedAddr p
     let old := lineBytes (s.homeLine p.line) (addr % 128) size
     let f := numberedFn code size (bodyWord p 1) (bodyWord p 2) old
     (64 ≤ distance (s.fab.newest p.src p.sdie) p.id → exec i s = .next (s.slotEmptied p)) ∧
     (∀ c, distance (s.fab.newest p.src p.sdie) p.id < 64 → s.fab.cached p.src p.sdie p.id = some c →
       exec i s = .next ((s.send c.reply).slotEmptied p)) ∧
     (distance (s.fab.newest p.src p.sdie) p.id < 64 → s.fab.cached p.src p.sdie p.id = none → isMapped (p.line * 128) = true →
       s.gate p.line = .here → s.homes.migThreshold = 0 → code < 12 → bodyWord p 0 + size ≤ 128 → 0 < size →
       bodyWord p 0 < 128 → (poisonHit (s.homePoison p.line) (addr % 128) size = false ∨ p.sstr ≠ 1) →
       ∃ v q c, exec i s = .next ((State.send v q).slotEmptied p) ∧ q.kind = 4 ∧ q.op = 4 ∧ q.dst = p.src ∧ q.id = p.id ∧
         q.body.getD 0 0 = BitVec.ofNat 64 old ∧ v.fab.cached p.src p.sdie p.id = some c ∧ c.reply = q ∧
         ∀ a, byteAt v a = if f.2 = true ∧ addr ≤ a ∧ a < addr + size then f.1 / 256 ^ (a - addr) % 256 else byteAt s a))

/-- R172, R341, R347: what replies do. A fetched line reaches the stream that stands at it; a wake reaches its record with the value; a numbered
result releases the count that its sender holds. A notice is for the home's stamps.

R83, R341, R372: a management request is taken once: a new record goes to the front end of its die, and a duplicate of one that has been
answered is answered again. A reply ends the request that it answers.

It rests on the model's choices of log entries 52 and 58. -/
def Obligations.RepliesAndManagement : Prop :=
  (∀ (s : State) (p : Packet), bodyWord p 8 = 0 →
     (∀ st f, let v := (s.coreAt (packetCore p)).stream st
       let g : Fetch := { f with await := [], got := f.got ++ [gotOf p] }
       let w : BitVec 512 := BitVec.ofNat 512 (natOfBytes (s.fetchBytes g))
       p.op = 0 → p.sstr ≠ 2 → fetchStream (bodyWord p 1) = some st → v.awaiting = some f → f.await = [(p.src, p.line)] →
       lineOf v.pc = f.pc → (∀ x, f.segs = [x] → f.got = [] → x.frame.hole = false → s.isRemote x.frame = true → x.frame.peer = p.src →
         lineNo x.addr = p.line → x.len = 64 → w = BitVec.ofNat 512 (lineBytes p.data x.lineOff 64)) ∧
       ((w.extractLsb' 29 3).toNat = streamCode st → w.extractLsb' 24 4 = 0 → w.getLsbD 28 = v.residual →
       ∃ u, exec (.replyPacket p) s = .next u ∧ u.mem = s.mem ∧
         (u.coreAt (packetCore p)).stream st = { v with line := some w, lineAt := lineOf v.pc, awaiting := none })) ∧
     (∀ r x i a thr op d pc, p.op = 3 → bodyWord p 1 ≠ 4 → s.recAt (bodyWord p 1) (bodyWord p 2) = some r → r.state = .waiting →
       r.wait = .signal x i (p.src + 16) a thr op d pc → lineNo a = p.line →
       ∃ u, exec (.replyPacket p) s = .next u ∧ .waiterWake (bodyWord p 1) (bodyWord p 2) ∈ u.events ∧ memorySame s u ∧
         u.recAt (bodyWord p 1) (bodyWord p 2) = some { r with args := r.args.set r.wait.argIndex (p.body.getD 0 0) }) ∧
     (∀ q ctx i, p.op = 4 → s.fab.numbered p.src p.sdie p.id = some q → q.tag = [2, ctx, i] → s.fab.held = [] →
       ∃ u, exec (.replyPacket p) s = .next u ∧ (u.cab ctx i).inflight = (s.cab ctx i).inflight - 1 ∧
         q ∉ u.fab.outstanding ∧ memorySame s u) ∧
     (p.op = 6 → exec (.replyPacket p) s = .next (s.post [.stampReceived ((p.body.getD 0 0).setWidth 32) (bodyWord p 1)]))) ∧
  (∀ (s : State) (p : Packet),
     let newest := SMap.get 0xFFFF s.fab.mgmtAccepted p.src
     let old := s.fab.mgmtReplies.find? fun q => q.peer = p.src && q.id = p.id
     (p.op % 16 = 0 → distance newest p.id < 64 → old = none → s.fab.reconf = .run →
       ∃ u, exec (.managementPacket p) s = .next u ∧ .fabricLaunch (packetDie p) p ∈ u.events ∧ memorySame s u ∧
         (u.fab.mgmtReplies.find? fun q => q.peer = p.src && q.id = p.id).isSome = true) ∧
     (∀ q, p.op % 16 = 0 → distance newest p.id < 64 → old = some q → q.reply.kind = 7 →
       exec (.managementPacket p) s = .next ((s.send q.reply).slotEmptied p)) ∧
     (p.op % 16 = 0 → 64 ≤ distance newest p.id → exec (.managementPacket p) s = .next (s.slotEmptied p)) ∧
     (∀ q, p.op % 16 = 5 → s.fab.management p.src p.id = some q → (∀ d, (s.dieAt d).forwards = []) →
       (∀ x ∈ s.fab.mgmtOut, x.packet.dst = p.src → x.packet.id = p.id → x = q) →
       ∃ u, exec (.managementPacket p) s = .next u ∧ q ∉ u.fab.mgmtOut ∧ memorySame s u))

/-- R359, R363, R364: a packet for this chip is taken and counted; any other goes on its link, with one more hop when it is another chip's, or
merges with a write that waits for the same line; one without a route or link, or that would exceed 15 hops, goes back to the chip
that sent it.

R340, R343: an unanswered request is sent again under its number while tries are left and its home has a route; then it is unresolved: C raises
PEER_UNREACHABLE, and sys.aretry names the peer and the number.

It rests on the model's choices of log entries 10, 54 and 58. -/
def Obligations.ForwardingAndResends : Prop :=
  (∀ (s : State) (p : Packet), packetIllegal p = false →
     let own : Bool := packetSender p = s.ownPeer
     let q := { p with hops := if own then p.hops else p.hops + 1 }
     (p.dst = s.ownPeer → exec (.packetForward p) s = .next (s.deliverPacket p) ∧ arrival p ∈ (s.deliverPacket p).events ∧
       (own = false → SMap.get 0 (s.deliverPacket p).fab.taken (pairOf (packetSender p) p.rq) =
         (SMap.get 0 s.fab.taken (pairOf (packetSender p) p.rq) + packetCount p) % 2 ^ 16)) ∧
     (p.dst ≠ s.ownPeer → s.fab.lit = true → (s.linkOf p).isSome = true → q.hops ≤ 15 → (own = true ∨ mergeable s.fab.out q = none) →
       exec (.packetForward p) s = .next (s.send q)) ∧
     (p.dst ≠ s.ownPeer → s.fab.lit = true → ((s.linkOf p).isNone = true ∨ 15 < q.hops) → own = false →
       (p.kind ≠ 4 ∨ p.op % 16 ≠ 10) → ∃ b, exec (.packetForward p) s = .next (s.send b) ∧ b.dst = packetSender p ∧ b.kind = 4 ∧ b.id = p.id ∧ b.line = p.line) ∧
     (p.dst ≠ s.ownPeer → s.fab.lit = true → ((s.linkOf p).isNone = true ∨ 15 < q.hops) → own = true →
       exec (.packetForward p) s = outcomeOf (s.handBack p)) ∧
     (∀ e, p.dst ≠ s.ownPeer → s.fab.lit = true → (s.linkOf p).isSome = true → q.hops ≤ 15 → own = false → mergeable s.fab.out q = some e →
       exec (.packetForward p) s =
         .next { s with fab := { s.fab with out := s.fab.out.map fun r => if r = e then mergeWrites e q else r } })) ∧
  (∀ (s : State) (peer die id : Nat) (q : Outstanding), die < 4 → s.fab.numbered peer die id = some q →
     (q.tries < s.fab.budget → s.hasRoute peer = true →
       ∃ v, exec (.retransmission peer die id) s = .next (State.send v q.packet) ∧ v.mem = s.mem ∧ v.cores = s.cores ∧
         { q with tries := q.tries + 1 } ∈ v.fab.outstanding) ∧
     (q.tries = s.fab.budget ∨ (q.tries < s.fab.budget ∧ s.hasRoute peer = false) →
       exec (.retransmission peer die id) s = .next (s.post [.requestUnresolved peer die id])) ∧
     (∀ n r, q.tag = [] → packetStream q.packet = .c → s.waiterOf .c peer die id = some (n, r) →
       (s.coreAt n).frozen = [] → (s.coreAt n).inside = none → (s.coreAt n).cont.th = false → (s.coreAt n).saving = none → (s.coreAt n).mode = .running →
       (s.coreAt n).cont.tvec.getLsbD 63 = true → s.residualOf n = none →
       ∃ u, exec (.requestUnresolved peer die id) s = .next u ∧
         let c := u.coreAt n
         c.cont.aretry = BitVec.ofNat 64 (2 ^ 63 + peer % 4096 * 2 ^ 16 + id % 2 ^ 16) ∧ c.unresolved = some r ∧ c.cwait = .none ∧
         c.cont.cause = causeWord 0 .c (peer % 4096 * 16) cPeer ∧ c.cont.th = true ∧ c.sc.pc = pcReg (s.coreAt n).cont.tvec ∧
         (u.cab (s.coreAt n).ctx r.tokIndex).inflight = (s.cab (s.coreAt n).ctx r.tokIndex).inflight))

/-! ### Links and reconfiguration -/

/-- R352, R353, R354, R361, R362: a data flit whose check holds and whose number is the next one expected is accepted, and the next number
rises; one of the last 256 again is a duplicate, discarded and acknowledged; any other out of sequence, or whose check fails, is not
accepted, and replay is asked for. A control flit acknowledges flits and
returns slots, to this chip or on towards the chip that has sent the packets. Unacknowledged flits are sent again from the number
asked for, in order; those of a link out of service, on the next link.

R355, R356, R407: the life of a wavelength. One with more errors than the limit leaves when no other of its link is away; at the next boundary
it is out of the deal and trains; a success makes it READY, and the boundary after that ACTIVE; the third failure retires
it and starts a self-test.

It rests on the model's choices of log entries 10, 12, 52, 53, 78 and 83. -/
def Obligations.LinksAndWavelengths : Prop :=
  (∀ (s : State) (die link : Nat), s.fab.lit = true →
     let k := linkKey die link
     let l := s.link k
     let leaves : State → FlitOut → Prop := fun u f => ∃ j, (j, k, f) ∈ u.fab.tx ∧ (l.up = true → j = k) ∧
       (j = k ∨ ∃ m, (j, m) ∈ s.fab.links ∧ m.up = true ∧ m.far = l.far)
     (∀ (f : BitVec 512) (side : List W64), flitGood f = true → f.getLsbD 479 = false →
       let seq := (f.extractLsb' 448 15).toNat
       (seq = l.recvSeq % 2 ^ 15 → s.fab.out = [] → s.fab.marking = [] → ∃ u, exec (.dataFlit die link f side) s = .next u ∧
         (u.link k).recvSeq = (l.recvSeq + 1) % 2 ^ 15 ∧ (u.link k).asked = none ∧ u.mem = s.mem ∧ u.cores = s.cores) ∧
       (256 < (l.recvSeq + 2 ^ 15 - seq) % 2 ^ 15 → (seq + 2 ^ 15 - l.recvSeq) % 2 ^ 15 ≠ 0 → l.recvSeq < 2 ^ 15 →
         ∃ u b, exec (.dataFlit die link f side) s = .next u ∧ (u.link k).recvSeq = l.recvSeq ∧ (u.link k).rx = l.rx ∧ u.mem = s.mem ∧
           leaves u (.control (controlFlitOf ⟨[], [], (l.recvSeq + 2 ^ 15 - 1) % 2 ^ 15, some (l.recvSeq, b)⟩))) ∧
       (0 < (l.recvSeq + 2 ^ 15 - seq) % 2 ^ 15 → (l.recvSeq + 2 ^ 15 - seq) % 2 ^ 15 ≤ 256 → l.recvSeq < 2 ^ 15 →
         s.fab.out = [] → s.fab.marking = [] → ∃ u, exec (.dataFlit die link f side) s = .next u ∧
           (u.link k).recvSeq = l.recvSeq ∧ (u.link k).rx = l.rx ∧ (u.link k).asked = l.asked ∧ u.mem = s.mem ∧ u.cores = s.cores ∧
           leaves u (.control (controlFlitOf ⟨[], [], (l.recvSeq + 2 ^ 15 - 1) % 2 ^ 15, none⟩)))) ∧
     (∀ f side, flitGood f = false → ∃ u, exec (.dataFlit die link f side) s = .next u ∧ (u.link k).recvSeq = l.recvSeq ∧
       leaves u (.control (controlFlitOf ⟨[], [], (l.recvSeq + 2 ^ 15 - 1) % 2 ^ 15, some (l.recvSeq, true)⟩))) ∧
     (∀ c a pre x post, flitGood c = true → c.getLsbD 479 = true → controlOf c = ⟨[], [], a, none⟩ → s.fab.out = [] → s.fab.marking = [] →
       l.replay = pre ++ x :: post → x.1 = a → (∀ y ∈ pre, y.1 ≠ a) →
       ∃ u, exec (.controlFlit die link c) s = .next u ∧ (u.link k).replay = post ∧ u.mem = s.mem ∧ u.cores = s.cores) ∧
     (∀ c a src peer rq n, flitGood c = true → c.getLsbD 479 = true → controlOf c = ⟨[(src, peer, rq, n)], [], a, none⟩ →
       s.fab.out = [] → s.fab.marking = [] → ∃ u, exec (.controlFlit die link c) s = .next u ∧
         (src = s.ownPeer → diff16 n (SMap.get 0 s.fab.freed (pairOf peer rq)) ≤
             diff16 (SMap.get 0 s.fab.sent (pairOf peer rq)) (SMap.get 0 s.fab.freed (pairOf peer rq)) →
           SMap.get 0 u.fab.freed (pairOf peer rq) = n % 2 ^ 16) ∧
         (src = s.ownPeer → 0 < diff16 n (SMap.get 0 s.fab.sent (pairOf peer rq)) →
             diff16 n (SMap.get 0 s.fab.sent (pairOf peer rq)) < 2 ^ 15 →
           SMap.get 0 u.fab.sent (pairOf peer rq) = n % 2 ^ 16 ∧ SMap.get 0 u.fab.freed (pairOf peer rq) = n % 2 ^ 16) ∧
         (∀ j, src ≠ s.ownPeer → s.linkToward src = some j → u.fab.freed = s.fab.freed ∧
           ∃ b, (j, j, FlitOut.control (controlFlitOf ⟨[(src, peer, rq, n)], [], b, none⟩)) ∈ u.fab.tx)) ∧
     (∀ seq pre x post, l.up = true → l.replay = pre ++ x :: post → x.1 = seq → (∀ y ∈ pre, y.1 ≠ seq) → (pre = [] → l.replays < 16) →
       ∃ u, exec (.replay die link seq) s = .next u ∧ u.mem = s.mem ∧ u.cores = s.cores ∧
         u.fab.tx = s.fab.tx ++ (x :: post).map (fun f => (k, k, FlitOut.data f.2.1 f.2.2)) ∧ (u.link k).replay = x :: post) ∧
     (∀ peer rq, ∃ u, exec (.freedRefresh peer rq) s = .next u ∧ u.mem = s.mem ∧ u.cores = s.cores ∧
       (∀ j, SMap.get 0 s.fab.taken (pairOf peer rq) ≠ SMap.get 0 s.fab.emptied (pairOf peer rq) → s.linkToward peer = some j →
         ∃ b, (j, j, FlitOut.control (controlFlitOf
           ⟨[(peer, s.ownPeer, rq, SMap.get 0 s.fab.emptied (pairOf peer rq))], [], b, none⟩)) ∈ u.fab.tx) ∧
       ∀ j m, (j, m) ∈ s.fab.links → s.link j = m → m.up = true → m.far = peer →
         ∃ b, (j, j, FlitOut.control (controlFlitOf ⟨[], [(rq, SMap.get 0 m.credGiven rq)], b, none⟩)) ∈ u.fab.tx) ∧
     (l.up = true → (∀ p ∈ s.fab.links, p.2.up = false → s.nextLink p.1 ≠ some k) →
       let down := s.modLink k fun l => { l with up := false, replays := 0 }
       exec (.linkOutOfService die link) s = outcomeOf ((down.moveFlits k).map State.pump) ∧
       (∀ j, s.nextLink k = some j → s.fab.out = [] → s.fab.marking = [] → ∃ u, exec (.linkOutOfService die link) s = .next u ∧
         (u.link k).up = false ∧ (u.link k).replay = l.replay ∧
         u.fab.tx = s.fab.tx ++ l.replay.map (fun f => (j, k, FlitOut.data f.2.1 f.2.2))))) ∧
  (∀ (s : State) (die link wave : Nat), wave < 16 →
     let k := linkKey die link
     let l := s.link k
     let v := l.wave wave
     let becomes : Outcome State Fault Refusal → Wave → Prop := fun o w => ∃ u, o = .next u ∧ (u.link k).wave wave = w ∧
       (∀ x, x ≠ wave → (((u.link k).wave x).state = (l.wave x).state) ∨ (l.wave x).due = true) ∧ u.mem = s.mem ∧ u.cores = s.cores
     (∀ errs, v.state = .active → errs ≤ s.fab.errLimit → becomes (exec (.errorWindowEnd die link wave errs) s) { v with errors := errs }) ∧
     (∀ errs, v.state = .active → s.fab.errLimit < errs → l.away = true →
       becomes (exec (.errorWindowEnd die link wave errs) s) { v with errors := errs, due := true }) ∧
     (∀ errs, v.state = .active → s.fab.errLimit < errs → l.away = false →
       becomes (exec (.errorWindowEnd die link wave errs) s) { v with errors := errs, due := false, state := .leaving }) ∧
     (v.state = .leaving → becomes (exec (.flitBoundarySwitch die link wave) s) { v with state := .retrain, attempts := 0 }) ∧
     (v.state = .ready → v.due = false → becomes (exec (.flitBoundarySwitch die link wave) s) { v with state := .active }) ∧
     (∀ far, v.state = .retrain → s.fab.reconf ≠ .relock →
       becomes (exec (.trainingSuccess die link wave far) s) { v with state := .ready, attempts := 0 }) ∧
     (v.state = .retrain → v.attempts < 2 → becomes (exec (.trainingAttemptFail die link wave) s) { v with attempts := v.attempts + 1 }) ∧
     (v.state = .retrain → v.attempts = 2 → becomes (exec (.trainingAttemptFail die link wave) s) { v with state := .retired, attempts := 3 } ∧
       ∃ u o, exec (.trainingAttemptFail die link wave) s = .next u ∧ .selfTest 3 k o ∈ u.events))

/-- R366 to R370, R433, R413, R430: the states of a reconfiguration follow one another: HOLD, DRAIN once every request is answered, DARK once every
link has its markers and every slot is returned, RELOCK, ROUTES once the expected links are up or the time has passed, and RUN, in which held
requests go out and the notice words are told.

It rests on the model's choices of log entries 55 and 56. -/
def Obligations.Reconfiguration : Prop :=
  ∀ (s : State) (die link rq : Nat) (c : Cmd) (plan : RoutesPlan),
    (cmdZero c [1, 2] = true → 1 ≤ cmdQuad c 1 → cmdQuad c 1 ≤ 16 → isMapped (cmdQuad c 2) = true →
      isMapped (cmdQuad c 2 + 520 * cmdQuad c 1 - 1) = true → s.planRefused (s.cmdPlan c) = false → s.fab.reconf = .run →
      ∃ u, exec (.reconfigureFabric c) s = .next u ∧ u.fab = { s.fab with reconfCmd := some c } ∧
        u.events = s.events ++ [.reconfigHold] ∧ memorySame s u) ∧
    (s.fab.reconf = .run → ∃ u, exec .reconfigHold s = .next u ∧ u.fab = { s.fab with reconf := .hold } ∧ memorySame s u ∧
      (s.fab.reconfCmd ≠ none → .reconfigDrain ∈ u.events)) ∧
    (s.fab.reconf = .hold → s.answered = true → ∃ u, exec .reconfigDrain s = .next u ∧ u.fab.reconf = .drain ∧ memorySame s u ∧
      (s.fab.reconfCmd ≠ none → .reconfigDark ∈ u.events)) ∧
    (s.fab.reconf = .hold → s.answered = false → exec .reconfigDrain s = .next (s.post [.reconfigDrain])) ∧
    (∃ u, exec (.drainMarker die link rq) s = .next u ∧ rq ∈ (u.link (linkKey die link)).markers ∧
      (∀ x ∈ (s.link (linkKey die link)).markers, x ∈ (u.link (linkKey die link)).markers) ∧ memorySame s u) ∧
    (s.fab.reconf = .drain → s.drainedLinks = true → s.slotsBack = true → ∃ u, exec .reconfigDark s = .next u ∧ u.fab = { s.fab with reconf := .dark } ∧
      u.mgmt.posted = s.mgmt.posted ++ [⟨7, 0, 0⟩] ∧ memorySame s u) ∧
    (s.fab.reconf = .drain → (s.drainedLinks = false ∨ s.slotsBack = false) →
      exec .reconfigDark s = .next (s.pump.post [.reconfigDark])) ∧
    (s.fab.reconf = .dark → ∃ u, exec .reconfigRelock s = .next u ∧ u.fab.reconf = .relock ∧ u.fab.timedOut = false ∧
      (∀ k, k < 512 → (u.link k).up = false ∧ (u.link k).sendSeq = 0 ∧ (u.link k).recvSeq = 0 ∧ (u.link k).replay = [] ∧
        (s.mgmt.linkFallback = 0 → ∀ w, w < 16 → ((u.link k).wave w).state = .retrain)) ∧ memorySame s u) ∧
    (s.fab.reconf = .relock → ∃ u, exec .relockTimeout s = .next u ∧ u.fab = { s.fab with timedOut := true } ∧ memorySame s u) ∧
    (s.fab.reconf = .relock → (s.fab.timedOut = true ∨ ∀ k ∈ s.fab.expected plan.members, (s.link k).up = true) →
      ∃ u, exec (.reconfigRoutes plan) s = .next u ∧ u.fab.reconf = .routes ∧ u.fab.routes = s.newRoutes plan.members ∧
        u.fab.members = plan.members ∧ u.fab.manager = plan.manager ∧
        u.fab.peerid = peeridWord (plan.members.contains s.ownPeer) plan.group s.ownPeer ∧
        u.homes.sequencer = (if plan.members.contains s.ownPeer then some plan.sequencer else none) ∧
        u.homes.nextStamp = max s.homes.nextStamp plan.stamp ∧ memorySame s u) ∧
    (s.fab.reconf = .routes → s.mgmt.noticeWords = [] → s.fab.out = [] → s.fab.held = [] → s.fab.reconfCmd = none →
      s.fab.undelivered = [] → s.fab.mgmtOut = [] → s.fab.marking = [] → ∃ u, exec .reconfigRun s = .next u ∧ u.fab.reconf = .run ∧ u.fab.staged = [] ∧ u.fab.routes = s.fab.routes ∧
        u.fab.allowance = (match s.fab.plan with | some p => p.allowance | none => s.fab.allowance) ∧ memorySame s u)

/-! ### The host -/

/-- R412, R413, R414 to R416: queues. A wake sets the pending bit and wakes the thread of a MAPPED queue, which clears it once and serves the
entry at head, or sleeps when there is none, and wakes again if a wake has come meanwhile; an entry that ends has its status and
advances head; a queue is mapped, at the head that a park has saved if there is one, parked and, at rest, UNMAPPED.

R18, R409, R413, R415: the host port. A TDI goes from CONFIG_UNLOCKED to CONFIG_LOCKED to RUN, and back when it is stopped; a write of its
configuration while it is locked puts it into ERROR. A request to a TDI in RUN, to one of its queues or to its memory, that does not arrive on the TDI's IDE stream with
the T bit is dropped and counted; any other write is made. A lock names the stream. The device registers are queue 0's base and size, the reset register and the wake registers.

It rests on the model's choices of log entries 62, 63 and 71. -/
def Obligations.QueuesAndHostPort : Prop :=
  (∀ (s : State) (q : Nat) (c : Cmd), q < 32 →
     let v := s.queue q
     (∃ u, exec (.wakeRegisterWrite q) s = .next u ∧ u.queue q = { v with pending := true } ∧
       u.events = s.events ++ (if v.state = .mapped then [.threadWake q] else []) ∧ memorySame s u) ∧
     (v.state = .mapped → v.busy = false → (v.pending = true ∨ v.awake = true) →
       let late := v.awake && v.pending
       (s.qNat v.base 8 = v.head → ∃ u, exec (.threadWake q) s = .next u ∧ u.queue q = { v with pending := late, awake := false } ∧
         u.events = s.events ++ (if late then [.threadWake q] else []) ∧ memorySame s u) ∧
       (s.qNat v.base 8 ≠ v.head → v.kind = 1 → ∃ u, exec (.threadWake q) s = .next u ∧
         u.queue q = { v with pending := late, awake := true, busy := true } ∧ memorySame s u ∧
         u.events = s.events ++ [if recKind (s.qNat (v.entryAt v.head) 8) = 2 then .feedAppend v.die v.ctx (v.entryAt v.head)
           else .launchRecord v.die v.ctx (v.entryAt v.head)]) ∧
       (∀ e, s.qNat v.base 8 ≠ v.head → v.kind = 0 → cmdOp (s.readCmd (v.entryAt v.head)) ≠ 0x0B →
         cmdEvent (s.readCmd (v.entryAt v.head)) (s.messageKey (s.readCmd (v.entryAt v.head))) = some e →
         ∃ u, exec (.threadWake q) s = .next u ∧ u.events = s.events ++ [e] ∧ (u.queue q).busy = true)) ∧
     (v.state = .parked → v.busy = false → ∃ u, exec (.queueParkComplete q) s = .next u ∧ u.queue q = { v with state := .unmapped, saved := some (v.head, s.qNat v.base 8) } ∧ memorySame s u) ∧
     (s.serving c.src = some q → v.base.host = true → c.src.host = true → ∀ st,
       let u := s.cmdDone c st
       u.hostMem = Memory.writeBytes (Memory.writeBytes s.hostMem (c.src.addr + 0x38) (bytesOf 8 st)) (v.base.addr + 8)
         (bytesOf 8 ((v.head + 1) % 2 ^ 64)) ∧
       u.queue q = { v with head := (v.head + 1) % 2 ^ 64, busy := false } ∧
       u.events = s.events ++ [if v.state = .parked then .queueParkComplete q else .threadWake q] ∧ u.mem = s.mem) ∧
     (let w := cmdQuad c 1
      let z := cmdQuad c 3
      let n := z % 16
      let a : QAddr := ⟨!bitOf z 63, cmdQuad c 2⟩
      w % 32 = q → cmdZero c [1, 2, 3] = true → q ≠ 0 → w / 2 ^ 5 % 8 = 0 → w / 2 ^ 8 % 4 ≤ 1 → w / 2 ^ 10 % 4 = 0 → w / 2 ^ 14 % 4 = 0 →
      w / 2 ^ 26 = 0 → cmdQuad c 2 % 64 = 0 → z / 2 ^ 4 % 2 ^ 59 = 0 → 1 ≤ n → n ≤ 12 → s.ctxLive (w / 2 ^ 16 % 2 ^ 10) = true →
      v.state = .unmapped → qUnmapped a (64 + (if w / 2 ^ 8 % 4 = 1 then 256 else 64) * 2 ^ n) = false →
      v.saved = none ∨ a.host = true →
      ∃ u, exec (.mapQueue c) s = .next (State.cmdDone u c 0) ∧ memorySame s u ∧
        u.queue q = { v with
          state := .mapped, kind := w / 2 ^ 8 % 4, die := w / 2 ^ 12 % 4, ctx := w / 2 ^ 16 % 2 ^ 10, base := a, n := n,
          head := (match v.saved with | some p => p.1 | none => s.qNat (qAdd a 8) 8), busy := false, awake := false, saved := none } ∧
        u.hostMem = (match v.saved with | some p => Memory.writeBytes s.hostMem (a.addr + 8) (bytesOf 8 p.1) | none => s.hostMem) ∧
        u.events = s.events ++ (if v.pending then [.threadWake q] else [])) ∧
     (cmdZero c [1] = true → cmdQuad c 1 = q → v.state = .mapped → ∀ i ∈ [Instr.parkQueue c, .unmapQueue c],
       ∃ u, exec i s = .next (State.cmdDone u c 0) ∧ u.queue q = { v with state := .parked, awake := false } ∧ memorySame s u ∧
         u.events = s.events ++ (if v.busy then [] else [.queueParkComplete q]))) ∧
  (∀ (s : State) (t : Nat) (r : HostRequest) (v : BitVec 64),
     (∀ n m x, (m, s.tdi t, x) ∈ [(TdispMsg.lock n, TdiState.configUnlocked, TdiState.configLocked), (.start, .configLocked, .run),
         (.stop, .configUnlocked, .configUnlocked), (.stop, .configLocked, .configUnlocked), (.stop, .run, .configUnlocked),
         (.stop, .error, .configUnlocked)] →
       ∃ u, exec (.tdispRequest t m) s = .next u ∧ u.tdi t = x ∧ (∀ y, y ≠ t → u.tdi y = s.tdi y) ∧ memorySame s u ∧
         (m = .lock n → SMap.find u.mgmt.tdiStreams t = some n)) ∧
     (t < 64 → (∃ u, exec (.tdispRequest t .openSession) s = .next u ∧ t ∈ u.mgmt.sessions ∧ u.mgmt.tdis = s.mgmt.tdis) ∧
       ∃ u, exec (.tdispRequest t .closeSession) s = .next u ∧ t ∉ u.mgmt.sessions ∧ u.mgmt.tdis = s.mgmt.tdis) ∧
     (s.tdi t = .configLocked ∨ s.tdi t = .run → ∃ u, exec (.tdiConfigWrite t) s = .next u ∧ u.tdi t = .error ∧
       (∀ y, y ≠ t → u.tdi y = s.tdi y) ∧ memorySame s u) ∧
     (let takes : Nat → Prop := fun t => s.tdi t ≠ .run ∨
        (r.tbit = true ∧ ∃ n, r.stream = some n ∧ SMap.find s.mgmt.tdiStreams t = some n)
      let dropped : Nat → Prop := fun t => ∃ u, exec (.hostPortRequest r) s = .next u ∧ memorySame s u ∧ u.hostMem = s.hostMem ∧
        u.events = s.events ∧ u.mgmt.queues = s.mgmt.queues ∧
        SMap.get 0 u.mgmt.tdiDropped t = SMap.get 0 s.mgmt.tdiDropped t + 1
      (¬ takes r.tdi → dropped r.tdi) ∧
      (∀ q, takes r.tdi → q < 32 → q ≠ 0 → r.host = false → r.addr = 0xFF00001000 + 8 * q → (s.queue q).state ≠ .unmapped →
        ¬ takes (s.ctxAt (s.queue q).ctx).tdi → dropped (s.ctxAt (s.queue q).ctx).tdi) ∧
      (∀ p ∈ s.ctxs, p.2.live = true → s.ctxHolds p.1 r.addr = true → ¬ takes p.2.tdi → r.host = false →
        r.addr < 0xFF00000000 → ∃ y, ¬ takes y ∧ dropped y) ∧
      (∀ l, takes r.tdi → r.host = true → r.write = some l →
        ∃ u, exec (.hostPortRequest r) s = .next u ∧ u.hostMem = Memory.writeBytes s.hostMem r.addr (l.take r.len) ∧ memorySame s u)) ∧
     (∃ u, exec (.deviceRegisterWrite 0xFF00000F00 v) s = .next u ∧ u.mgmt.regBase = v ∧ (u.queue 0).base = ⟨true, v.toNat⟩ ∧
       (u.queue 0).state = .mapped ∧ memorySame s u ∧ ((s.queue 0).pending = true → .threadWake 0 ∈ u.events)) ∧
     (∃ u, exec (.deviceRegisterWrite 0xFF00000F08 v) s = .next u ∧ u.mgmt.regCount = v &&& 15 ∧ (u.queue 0).n = v.toNat % 16 ∧ memorySame s u) ∧
     (∀ q, q < 32 → exec (.deviceRegisterWrite (0xFF00001000 + 8 * q) v) s = .next (s.post [.wakeRegisterWrite q])))

/-- R410, R411, R413, R254, R363, R415, R430: what the management commands do when their operands are good: each changes what it names and ends done.

R419, R420: a report carries the nonce, the firmware stages, sys.cfg and the states of the TDIs and dies, in an SPDM measurement response
with a signature under a one-time key that is never used again; with no key left the command is refused. A key comes only in the
session of its context's TDI.

It rests on the model's choices of log entries 13, 14, 61 and 82. -/
def Obligations.CommandsAndReports : Prop :=
  (∀ (s : State) (c : Cmd),
     let done : Instr → (State → Prop) → Prop := fun i p => ∃ u, exec i s = .next (State.cmdDone u c 0) ∧ memorySame s u ∧ p u
     let slot := cmdQuad c 1 / 2 ^ 16 % 16
     let named : Nat → Prop := fun x => cmdQuad c 1 / 2 ^ 10 % 2 ^ 6 = 0 ∧ cmdQuad c 1 / 2 ^ 20 = 0 ∧ cmdQuad c 1 % 1024 = x
     (let x := cmdQuad c 1
      let a := cmdQuad c 2
      let q : Nat → Nat := fun i => s.physNat (a + 8 * i) 8
      cmdZero c [1, 2, 3] = true → x < 1024 → s.ctxLive x = false → (s.anyContext = true → cmdQuad c 3 = 0) →
      isMapped a = true → isMapped (a + 127) = true → descriptorOk q x = true →
      done (.createContext c) fun u => (∀ y, y ≠ x → u.ctxAt y = s.ctxAt y) ∧
        u.mgmt.heartbeatAt = (if s.anyContext then s.mgmt.heartbeatAt else some ⟨true, cmdQuad c 3⟩) ∧
        let d := u.ctxAt x
        d.live = true ∧ d.sup = bitOf (q 0) 63 ∧ d.prot = bitOf (q 0) 62 ∧ d.log = bitOf (q 0) 61 ∧ d.tdi = bitsOf (q 0) 41 32 ∧
          d.poolQuota = bitsOf (q 2) 15 0 ∧ d.frameUnits = bitsOf (q 2) 47 16 ∧ d.cacheDomain = bitsOf (q 3) 9 0 ∧
          d.bundleDomain = bitsOf (q 3) 31 16 ∧ d.escal = q 5 ∧ d.callow0 = BitVec.ofNat 64 (q 8) ∧ d.callow1 = BitVec.ofNat 64 (q 9) ∧
          d.cabinet = [] ∧ d.keys = [] ∧ d.poolUsed = 0 ∧ d.ckpt = 0) ∧
     (let x := cmdQuad c 1
      cmdZero c [1] = true → s.ctxLive x = true → s.ctxRecs x = [] → s.entriesIn x .live = [] → s.entriesIn x .draining = [] →
      done (.destroyContext c) fun u => u.ctxAt x = Ctx.fresh x ∧ ∀ y, y ≠ x → u.ctxAt y = s.ctxAt y) ∧
     (∀ x k, named x → cmdZero c [1, 2] = true → s.ctxLive x = true →
       done (.installKey c (some k)) fun u => SMap.find (u.ctxAt x).keys slot = some k ∧ ∀ y, y ≠ x → u.ctxAt y = s.ctxAt y) ∧
     ((s.ctxAt (cmdQuad c 1 % 1024)).tdi ∉ s.mgmt.sessions → s.messageKey c = none ∧
       exec (.installKey c (s.messageKey c)) s = .next (s.cmdDone c 1)) ∧
     (∀ x, named x → cmdZero c [1] = true → s.ctxLive x = true →
       done (.removeKey c) fun u => SMap.find (u.ctxAt x).keys slot = none ∧ ∀ y, y ≠ x → u.ctxAt y = s.ctxAt y) ∧
     (∀ (r : Nat) (m : W64), (r, m) ∈ [(0x023, 0xF), (0x030, 0x800000FFFFFF8000), (0x031, BitVec.allOnes 64), (0x032, BitVec.allOnes 64)] →
       let x := cmdQuad c 1
       let v : W64 := BitVec.ofNat 64 (cmdQuad c 3)
       cmdQuad c 2 = r → cmdZero c [1, 2, 3] = true → s.ctxLive x = true → v &&& ~~~m = 0 →
       done (.setContextRegister c) fun u => u.ctxAt x = (if r = 0x023 then { (s.ctxAt x) with vsel := v }
         else if r = 0x030 then { (s.ctxAt x) with ptbase := v } else if r = 0x031 then { (s.ctxAt x) with callow0 := v }
         else { (s.ctxAt x) with callow1 := v }) ∧ ∀ y, y ≠ x → u.ctxAt y = s.ctxAt y) ∧
     (let w := cmdQuad c 1
      let a := cmdQuad c 2
      let lens := (s.physBytes a 256).map (·.toNat)
      let t := s.tableAt (w % 4) (w / 16 % 4)
      cmdZero c [1, 2] = true → w / 4 % 4 = 0 → w / 64 = 0 → isMapped a = true → isMapped (a + 255) = true → validTable lens = true →
      done (.loadCompressionTable c) fun u =>
        u.tableAt (w % 4) (w / 16 % 4) = ⟨false, true, (t.gen + 1) % 2 ^ 16, lens, t.gen, t.lens, []⟩) ∧
     (let w := cmdQuad c 1
      let v : W64 := BitVec.ofNat 64 (cmdQuad c 2)
      cmdZero c [1, 2] = true → w / 2 ^ 12 % 2 ^ 51 = 0 → v.toNat / 2 ^ 38 % 2 ^ 25 = 0 →
      (w / 2 ^ 63 % 2 = 1 → done (.writeRouteEntry c) fun u => SMap.find u.fab.staged (w % 4096) = some v ∧ u.fab.routes = s.fab.routes) ∧
      (w / 2 ^ 63 % 2 = 0 → s.fab.out = [] → s.fab.held = [] →
        done (.writeRouteEntry c) fun u => SMap.get 0 u.fab.routes (w % 4096) = v ∧ u.fab.staged = s.fab.staged)) ∧
     (∀ e g rest, let q := cmdQuad c 1
       let tok : W64 := BitVec.ofNat 64 (cmdQuad c 3)
       let off := cmdQuad c 4
       cmdZero c [1, 2, 3, 4] = true → q < 32 →
       (tok = 0 → done (.bindSignalWord c) fun u => u.queue q = { (s.queue q) with bound := none }) ∧
       (tok ≠ 0 → s.ctxLive (cmdQuad c 2) = true → off % 8 = 0 → s.checkCab (cmdQuad c 2) tok off 8 needR = .ok e →
         e.elemSegs 0 off 8 = g :: rest → plainPart s g →
         done (.bindSignalWord c) fun u => u.queue q = { (s.queue q) with bound := some g.addr }) ∧
       (tok ≠ 0 → s.ctxLive (cmdQuad c 2) = true → off % 8 = 0 → s.checkCab (cmdQuad c 2) tok off 8 needR = .ok e →
         e.elemSegs 0 off 8 = g :: rest → g.frame.hole = false → s.isRemote g.frame = true →
         done (.bindSignalWord c) fun u => u.queue q = { (s.queue q) with bound := some ((g.frame.peer + 1) * 2 ^ 40 + g.addr) })) ∧
     (∀ x e, let tok : W64 := BitVec.ofNat 64 (cmdQuad c 2)
       let off := cmdQuad c 3
       named x → cmdZero c [1, 2, 3] = true → off % 8 = 0 →
       (tok = 0 → done (.registerNoticeWord c) fun u => SMap.find u.mgmt.noticeWords slot = none) ∧
       (tok ≠ 0 → s.ctxLive x = true → s.checkCab x tok off 8 needA = .ok e →
         done (.registerNoticeWord c) fun u => SMap.find u.mgmt.noticeWords slot = some ⟨x, tok, BitVec.ofNat 64 off, 0⟩))) ∧
  (∀ (s : State) (c : Cmd), cmdZero c [1, 2, 3, 4, 5] = true →
     let i := s.mgmt.lmsIndex
     let r := s.report ([1, 2, 3, 4].flatMap fun k => bytesOf 8 (cmdQuad c k))
     let stages := Config.firmwareStages s.mgmt.previousImage
     (i < 2 ^ 20 → ∃ u h, exec (.attestationReport c) s = .next (State.cmdDone u c 0) ∧ u.mgmt.lmsIndex = i + 1 ∧ h.length = 15 ∧
       h.take 2 = [0x12, 0x60] ∧
       u.hostMem = Memory.writeBytes s.hostMem (cmdQuad c 5) (h ++ r ++ bytesOf 32 (Config.reportNonce i).toNat ++ [0, 0] ++ hssSign i r) ∧
       memorySame s u ∧ ∃ x, u.mgmt.journal = s.mgmt.journal ++ [x] ∧ x.2 = BitVec.ofNat 64 (i + 1)) ∧
     (2 ^ 20 ≤ i → exec (.attestationReport c) s = .next (s.cmdDone c 1)) ∧
     (∀ k, k < 32 → r.getD k 0 = BitVec.ofNat 8 (cmdQuad c (1 + k / 8) / 256 ^ (k % 8))) ∧
     (∀ n k, n < stages.length → k < 32 → r.getD (32 + 32 * n + k) 0 = BitVec.ofNat 8 ((stages.getD n 0).toNat / 256 ^ k)) ∧
     (∀ k, k < 8 → r.getD (32 + 32 * stages.length + k) 0 = BitVec.ofNat 8 (s.sysCfg.toNat / 256 ^ k)) ∧
     ∀ t d, t < 64 → d < 4 → (r.getD (32 + 32 * stages.length + 8 + t) 0).toNat = (match s.tdi t with
         | .configUnlocked => 0 | .configLocked => 1 | .run => 2 | .error => 3) ∧
       r.getD (32 + 32 * stages.length + 72 + d) 0 = BitVec.ofNat 8 (SMap.get 0 s.mgmt.lastTest d))

/-- R417, R342: the reset ladder. Rung 1 ends the entry that a queue's thread serves; rung 2 ends every continuation of a context and drains its
Cabinet; rung 3 resets a die's cores; rung 4 leaves the module as after reset, but for the journal, the index of the one-time keys
and the host's memory.

R20, R408, R417: a new power limit sets the pools of the dies, down to the shares that are held; a start-up step is journalled before
it as begun and after it as done or failed, and one whose last entry is begun or failed takes its fallback; the heartbeat adds 1 to the host's word.

It rests on the model's choices of log entries 8, 11, 15, 60 and 64. -/
def Obligations.LadderAndFirmware : Prop :=
  (∀ (s : State) (q ctx die : Nat), tidy s →
     (let v := s.queue q
      v.busy = true → v.base.host = true → ∃ u, exec (.resetRungQueue q) s = .next u ∧
        u.queue q = { v with state := .mapped, head := (v.head + 1) % 2 ^ 64, busy := false, awake := true } ∧
        .threadWake q ∈ u.events ∧ u.mem = s.mem ∧ ∀ e ∈ u.events, e.ofEntry (v.entryAt v.head) = false) ∧
     (∃ u, exec (.resetRungContext ctx) s = .next u ∧ u.ctxRecs ctx = [] ∧
       (∀ n, (u.coreAt n).mode = .running ∨ (u.coreAt n).mode = .halted → (u.coreAt n).ctx ≠ ctx) ∧
       ((∀ i, (s.cab ctx i).state ≠ .busy ∧ (s.cab ctx i).later = []) →
         ∀ i, (u.cab ctx i).state ≠ .live ∧ (u.cab ctx i).state ≠ .busy)) ∧
     (die < 4 → ∃ u, exec (.resetRungDie die) s = .next u ∧ (u.dieAt die).runs = [] ∧ (u.dieAt die).waitingLaunches = [] ∧
       (u.dieAt die).bench = [] ∧ (u.dieAt die).tlb = [] ∧ (u.dieAt die).shareUsed = 0 ∧
       ∀ n, n / 32 = die → u.coreAt n = Core.reset ∨ (u.coreAt n).mode = .retired) ∧
     ∃ u, exec .resetRungModule s = .next u ∧
       u = { State.reset with
             time := s.time, fresh := u.fresh, hostMem := s.hostMem, events := u.events,
             fab := { State.reset.fab with undelivered := u.fab.undelivered },
             mgmt := { State.reset.mgmt with journal := s.mgmt.journal, lmsIndex := s.mgmt.lmsIndex } } ∧
       u.events.map (fun e => match e with | .bootStep n _ _ => n | _ => 0) = [1, 2, 18, 34, 50, 3, 4, 5] ∧
       (∀ p ∈ u.fab.undelivered, p.kind = 6 ∧ p.op = 8 ∧ p.dst ≠ s.ownPeer) ∧
       ∀ c ∈ s.cores, c.2.mode ≠ .idle → ∀ b ∈ c.2.binds, namePeer b.2 ≠ s.ownPeer →
         ∃ p ∈ u.fab.undelivered, p.dst = namePeer b.2 ∧ p.body = [BitVec.ofNat 64 b.2]) ∧
  (∀ (s : State) (sizes : List Nat) (number : Nat) (ok : Bool) (stamp : BitVec 64),
     (∃ u, exec (.powerLimitChange sizes) s = .next u ∧ memorySame s u ∧ ∀ d, d < 4 →
       (u.dieAt d).shareSize = max (sizes.getD d 0) (s.dieAt d).shareUsed ∧ (u.dieAt d).shareTarget = sizes.getD d 0 ∧
       (u.dieAt d).shareUsed = (s.dieAt d).shareUsed ∧ .shareGrant d ∈ u.events) ∧
     (∀ a, number ∉ s.mgmt.booting →
         (s.mgmt.lastEntry number = none ∧ a = 0) ∨ (∃ st b, s.mgmt.lastEntry number = some (st, b) ∧
           a = if st = 2 then 0 else b + 1) →
       (a ≤ 2 → ∃ u, exec (.bootStep number ok stamp) s = .next u ∧ memorySame s u ∧
         u.mgmt.journal = s.mgmt.journal ++ [(journalWord number a 1, stamp)] ∧ number ∈ u.mgmt.booting ∧
         u.events = .bootStep number ok stamp :: s.events ∧ u.dies = s.dies) ∧
       (2 < a → ∃ u, exec (.bootStep number ok stamp) s = .next u ∧ u.mgmt.degraded = s.mgmt.degraded ++ [number] ∧
         u.mgmt.journal = s.mgmt.journal ∧ memorySame s u ∧
         (number % 16 = 2 → (u.dieAt (number / 16 % 4)).inService = false))) ∧
     (∀ pre w post a, number ∈ s.mgmt.booting → s.mgmt.journal = pre ++ w :: post → w.1.toNat % 2 ^ 16 = number % 2 ^ 16 →
         (∀ x ∈ post, x.1.toNat % 2 ^ 16 ≠ number % 2 ^ 16) → a = w.1.toNat / 2 ^ 16 % 2 ^ 8 →
       let done := if number % 16 = 1 then imageOk (a != 0) else ok
       ∃ u, exec (.bootStep number ok stamp) s = .next u ∧ memorySame s u ∧ u.mgmt.booting = s.mgmt.booting.erase number ∧
         u.mgmt.journal = pre ++ (journalWord number a (if done then 2 else 3), stamp) :: post ∧
         (number % 16 = 1 → u.mgmt.previousImage = (a != 0)) ∧
         (number % 16 = 2 → (u.dieAt (number / 16 % 4)).inService = (done && a == 0)) ∧
         (number % 16 = 3 → a ≠ 0 → ∃ d, d < 12 ∧ d ∈ u.mgmt.excluded) ∧
         (number % 16 = 4 → u.mgmt.linkFallback = min a 2) ∧
         (number % 16 = 5 → u.mgmt.noSpares = (a != 0))) ∧
     (∀ a, s.mgmt.heartbeatAt = some a → a.host = true → ∃ u, exec .heartbeat s = .next u ∧
       u.qNat a 8 = (s.qNat a 8 + 1) % 2 ^ 64 ∧ memorySame s u))
end

