-- ==== Sys2Proof/Laws/Encoding.lean ====
section
/-! SUPPORT. Packing a word and reading its fields back, one format at a time (R115, R123 to R129). -/

namespace Sys2Proof

theorem extract_append_low {a b : Nat} (x : BitVec a) (y : BitVec b) (s l : Nat) (h : s + l ≤ b) :
    (x ++ y).extractLsb' s l = y.extractLsb' s l := by
  ext i hi
  simp [BitVec.getElem_extractLsb', BitVec.getLsbD_append]
  omega

theorem extract_append_high {a b : Nat} (x : BitVec a) (y : BitVec b) (s l : Nat) (h : b ≤ s) :
    (x ++ y).extractLsb' s l = x.extractLsb' (s - b) l := by
  ext i hi
  have : ¬ s + i < b := by omega
  simp [BitVec.getElem_extractLsb', BitVec.getLsbD_append, this, show s + i - b = s - b + i by omega]

theorem extract_whole {a : Nat} (x : BitVec a) : x.extractLsb' 0 a = x := by simp

theorem bit_of_extract {w : Nat} (x : BitVec w) (i : Nat) (b : Bool) (h : x.extractLsb' i 1 = BitVec.ofBool b) :
    x.getLsbD i = b := by
  have := congrArg (fun v : BitVec 1 => v.getLsbD 0) h
  simpa using this

theorem Guard.unpack_of (w : W64) (g : Guard) (h : w.extractLsb' 44 12 = g.pack) : Guard.unpack w = g := by
  have e : ∀ s l, s + l ≤ 12 → w.extractLsb' (44 + s) l = g.pack.extractLsb' s l := by
    intro s l hl
    rw [← h]
    ext i hi
    have : s + i < 12 := by omega
    simp [BitVec.getElem_extractLsb', this, Nat.add_assoc]
  have h0 : w.getLsbD 55 = g.gs := by
    apply bit_of_extract
    rw [show 55 = 44 + 11 from rfl, e 11 1 (by decide)]
    unfold Guard.pack
    repeat (first | exact extract_whole _ | refine (extract_append_high _ _ _ _ (by decide)).trans ?_)
  have h1 : w.extractLsb' 50 5 = g.gr := by
    rw [show 50 = 44 + 6 from rfl, e 6 5 (by decide)]
    unfold Guard.pack
    repeat (first | exact extract_whole _ | refine (extract_append_high _ _ _ _ (by decide)).trans ?_ | refine (extract_append_low _ _ _ _ (by decide)).trans ?_)
  have h2 : w.extractLsb' 44 6 = g.gb := by
    rw [show 44 = 44 + 0 from rfl, e 0 6 (by decide)]
    unfold Guard.pack
    repeat (first | exact extract_whole _ | refine (extract_append_low _ _ _ _ (by decide)).trans ?_)
  simp only [Guard.unpack, h0, h1, h2]

theorem F3.d_pack (op : BitVec 8) (f : F3) : (F3.pack op f).extractLsb' 37 7 = f.d := by
  unfold F3.pack
  repeat (first
    | exact extract_whole _
    | refine (extract_append_high _ _ _ _ (by decide)).trans ?_
    | refine (extract_append_low _ _ _ _ (by decide)).trans ?_)

theorem F3.s1_pack (op : BitVec 8) (f : F3) : (F3.pack op f).extractLsb' 30 7 = f.s1 := by
  unfold F3.pack
  repeat (first
    | exact extract_whole _
    | refine (extract_append_high _ _ _ _ (by decide)).trans ?_
    | refine (extract_append_low _ _ _ _ (by decide)).trans ?_)

theorem F3.s2_pack (op : BitVec 8) (f : F3) : (F3.pack op f).extractLsb' 23 7 = f.s2 := by
  unfold F3.pack
  repeat (first
    | exact extract_whole _
    | refine (extract_append_high _ _ _ _ (by decide)).trans ?_
    | refine (extract_append_low _ _ _ _ (by decide)).trans ?_)

theorem F3.fmt_pack (op : BitVec 8) (f : F3) : (F3.pack op f).extractLsb' 19 4 = f.fmt := by
  unfold F3.pack
  repeat (first
    | exact extract_whole _
    | refine (extract_append_high _ _ _ _ (by decide)).trans ?_
    | refine (extract_append_low _ _ _ _ (by decide)).trans ?_)

theorem F3.rnd_pack (op : BitVec 8) (f : F3) : (F3.pack op f).extractLsb' 17 2 = f.rnd := by
  unfold F3.pack
  repeat (first
    | exact extract_whole _
    | refine (extract_append_high _ _ _ _ (by decide)).trans ?_
    | refine (extract_append_low _ _ _ _ (by decide)).trans ?_)

theorem F3.fzi_pack (op : BitVec 8) (f : F3) : (F3.pack op f).getLsbD 16 = f.fzi := by
  apply bit_of_extract
  unfold F3.pack
  repeat (first
    | exact extract_whole _
    | refine (extract_append_high _ _ _ _ (by decide)).trans ?_
    | refine (extract_append_low _ _ _ _ (by decide)).trans ?_)

theorem F3.fzo_pack (op : BitVec 8) (f : F3) : (F3.pack op f).getLsbD 15 = f.fzo := by
  apply bit_of_extract
  unfold F3.pack
  repeat (first
    | exact extract_whole _
    | refine (extract_append_high _ _ _ _ (by decide)).trans ?_
    | refine (extract_append_low _ _ _ _ (by decide)).trans ?_)

theorem F3.sat_pack (op : BitVec 8) (f : F3) : (F3.pack op f).getLsbD 14 = f.sat := by
  apply bit_of_extract
  unfold F3.pack
  repeat (first
    | exact extract_whole _
    | refine (extract_append_high _ _ _ _ (by decide)).trans ?_
    | refine (extract_append_low _ _ _ _ (by decide)).trans ?_)

theorem F3.mask_pack (op : BitVec 8) (f : F3) : (F3.pack op f).extractLsb' 11 3 = f.mask := by
  unfold F3.pack
  repeat (first
    | exact extract_whole _
    | refine (extract_append_high _ _ _ _ (by decide)).trans ?_
    | refine (extract_append_low _ _ _ _ (by decide)).trans ?_)

theorem F3.fn_pack (op : BitVec 8) (f : F3) : (F3.pack op f).extractLsb' 7 4 = f.fn := by
  unfold F3.pack
  repeat (first
    | exact extract_whole _
    | refine (extract_append_high _ _ _ _ (by decide)).trans ?_
    | refine (extract_append_low _ _ _ _ (by decide)).trans ?_)

theorem F3.res_pack (op : BitVec 8) (f : F3) : (F3.pack op f).extractLsb' 0 7 = f.res := by
  unfold F3.pack
  repeat (first
    | exact extract_whole _
    | refine (extract_append_high _ _ _ _ (by decide)).trans ?_
    | refine (extract_append_low _ _ _ _ (by decide)).trans ?_)

theorem F3.guard_pack (op : BitVec 8) (f : F3) : Guard.unpack (F3.pack op f) = f.g := by
  apply Guard.unpack_of
  unfold F3.pack
  repeat (first
    | exact extract_whole _
    | refine (extract_append_high _ _ _ _ (by decide)).trans ?_
    | refine (extract_append_low _ _ _ _ (by decide)).trans ?_)

theorem F3.opcode_pack (op : BitVec 8) (f : F3) : opcodeOf (F3.pack op f) = op.toNat := by
  unfold opcodeOf
  congr 1
  unfold F3.pack
  repeat (first
    | exact extract_whole _
    | refine (extract_append_high _ _ _ _ (by decide)).trans ?_
    | refine (extract_append_low _ _ _ _ (by decide)).trans ?_)

/-- Format F3 drops no bit. -/
theorem F3.unpack_pack (op : BitVec 8) (f : F3) : F3.unpack (F3.pack op f) = f := by
  simp only [F3.unpack, F3.guard_pack op f, F3.d_pack op f, F3.s1_pack op f, F3.s2_pack op f, F3.fmt_pack op f, F3.rnd_pack op f, F3.fzi_pack op f, F3.fzo_pack op f, F3.sat_pack op f, F3.mask_pack op f, F3.fn_pack op f, F3.res_pack op f]

theorem FI.d_pack (op : BitVec 8) (f : FI) : (FI.pack op f).extractLsb' 37 7 = f.d := by
  unfold FI.pack
  repeat (first
    | exact extract_whole _
    | refine (extract_append_high _ _ _ _ (by decide)).trans ?_
    | refine (extract_append_low _ _ _ _ (by decide)).trans ?_)

theorem FI.s1_pack (op : BitVec 8) (f : FI) : (FI.pack op f).extractLsb' 30 7 = f.s1 := by
  unfold FI.pack
  repeat (first
    | exact extract_whole _
    | refine (extract_append_high _ _ _ _ (by decide)).trans ?_
    | refine (extract_append_low _ _ _ _ (by decide)).trans ?_)

theorem FI.imm_pack (op : BitVec 8) (f : FI) : (FI.pack op f).extractLsb' 0 30 = f.imm := by
  unfold FI.pack
  repeat (first
    | exact extract_whole _
    | refine (extract_append_high _ _ _ _ (by decide)).trans ?_
    | refine (extract_append_low _ _ _ _ (by decide)).trans ?_)

theorem FI.guard_pack (op : BitVec 8) (f : FI) : Guard.unpack (FI.pack op f) = f.g := by
  apply Guard.unpack_of
  unfold FI.pack
  repeat (first
    | exact extract_whole _
    | refine (extract_append_high _ _ _ _ (by decide)).trans ?_
    | refine (extract_append_low _ _ _ _ (by decide)).trans ?_)

theorem FI.opcode_pack (op : BitVec 8) (f : FI) : opcodeOf (FI.pack op f) = op.toNat := by
  unfold opcodeOf
  congr 1
  unfold FI.pack
  repeat (first
    | exact extract_whole _
    | refine (extract_append_high _ _ _ _ (by decide)).trans ?_
    | refine (extract_append_low _ _ _ _ (by decide)).trans ?_)

/-- Format FI drops no bit. -/
theorem FI.unpack_pack (op : BitVec 8) (f : FI) : FI.unpack (FI.pack op f) = f := by
  simp only [FI.unpack, FI.guard_pack op f, FI.d_pack op f, FI.s1_pack op f, FI.imm_pack op f]

theorem FL.d_pack (op : BitVec 8) (f : FL) : (FL.pack op f).extractLsb' 37 7 = f.d := by
  unfold FL.pack
  repeat (first
    | exact extract_whole _
    | refine (extract_append_high _ _ _ _ (by decide)).trans ?_
    | refine (extract_append_low _ _ _ _ (by decide)).trans ?_)

theorem FL.imm_pack (op : BitVec 8) (f : FL) : (FL.pack op f).extractLsb' 0 37 = f.imm := by
  unfold FL.pack
  repeat (first
    | exact extract_whole _
    | refine (extract_append_high _ _ _ _ (by decide)).trans ?_
    | refine (extract_append_low _ _ _ _ (by decide)).trans ?_)

theorem FL.guard_pack (op : BitVec 8) (f : FL) : Guard.unpack (FL.pack op f) = f.g := by
  apply Guard.unpack_of
  unfold FL.pack
  repeat (first
    | exact extract_whole _
    | refine (extract_append_high _ _ _ _ (by decide)).trans ?_
    | refine (extract_append_low _ _ _ _ (by decide)).trans ?_)

theorem FL.opcode_pack (op : BitVec 8) (f : FL) : opcodeOf (FL.pack op f) = op.toNat := by
  unfold opcodeOf
  congr 1
  unfold FL.pack
  repeat (first
    | exact extract_whole _
    | refine (extract_append_high _ _ _ _ (by decide)).trans ?_
    | refine (extract_append_low _ _ _ _ (by decide)).trans ?_)

/-- Format FL drops no bit. -/
theorem FL.unpack_pack (op : BitVec 8) (f : FL) : FL.unpack (FL.pack op f) = f := by
  simp only [FL.unpack, FL.guard_pack op f, FL.d_pack op f, FL.imm_pack op f]

theorem FB.d_pack (op : BitVec 8) (f : FB) : (FB.pack op f).extractLsb' 37 7 = f.d := by
  unfold FB.pack
  repeat (first
    | exact extract_whole _
    | refine (extract_append_high _ _ _ _ (by decide)).trans ?_
    | refine (extract_append_low _ _ _ _ (by decide)).trans ?_)

theorem FB.s1_pack (op : BitVec 8) (f : FB) : (FB.pack op f).extractLsb' 30 7 = f.s1 := by
  unfold FB.pack
  repeat (first
    | exact extract_whole _
    | refine (extract_append_high _ _ _ _ (by decide)).trans ?_
    | refine (extract_append_low _ _ _ _ (by decide)).trans ?_)

theorem FB.ind_pack (op : BitVec 8) (f : FB) : (FB.pack op f).getLsbD 29 = f.ind := by
  apply bit_of_extract
  unfold FB.pack
  repeat (first
    | exact extract_whole _
    | refine (extract_append_high _ _ _ _ (by decide)).trans ?_
    | refine (extract_append_low _ _ _ _ (by decide)).trans ?_)

theorem FB.slot_pack (op : BitVec 8) (f : FB) : (FB.pack op f).extractLsb' 26 3 = f.slot := by
  unfold FB.pack
  repeat (first
    | exact extract_whole _
    | refine (extract_append_high _ _ _ _ (by decide)).trans ?_
    | refine (extract_append_low _ _ _ _ (by decide)).trans ?_)

theorem FB.off_pack (op : BitVec 8) (f : FB) : (FB.pack op f).extractLsb' 0 26 = f.off := by
  unfold FB.pack
  repeat (first
    | exact extract_whole _
    | refine (extract_append_high _ _ _ _ (by decide)).trans ?_
    | refine (extract_append_low _ _ _ _ (by decide)).trans ?_)

theorem FB.guard_pack (op : BitVec 8) (f : FB) : Guard.unpack (FB.pack op f) = f.g := by
  apply Guard.unpack_of
  unfold FB.pack
  repeat (first
    | exact extract_whole _
    | refine (extract_append_high _ _ _ _ (by decide)).trans ?_
    | refine (extract_append_low _ _ _ _ (by decide)).trans ?_)

theorem FB.opcode_pack (op : BitVec 8) (f : FB) : opcodeOf (FB.pack op f) = op.toNat := by
  unfold opcodeOf
  congr 1
  unfold FB.pack
  repeat (first
    | exact extract_whole _
    | refine (extract_append_high _ _ _ _ (by decide)).trans ?_
    | refine (extract_append_low _ _ _ _ (by decide)).trans ?_)

/-- Format FB drops no bit. -/
theorem FB.unpack_pack (op : BitVec 8) (f : FB) : FB.unpack (FB.pack op f) = f := by
  simp only [FB.unpack, FB.guard_pack op f, FB.d_pack op f, FB.s1_pack op f, FB.ind_pack op f, FB.slot_pack op f, FB.off_pack op f]

theorem FM.d_pack (op : BitVec 8) (f : FM) : (FM.pack op f).extractLsb' 37 7 = f.d := by
  unfold FM.pack
  repeat (first
    | exact extract_whole _
    | refine (extract_append_high _ _ _ _ (by decide)).trans ?_
    | refine (extract_append_low _ _ _ _ (by decide)).trans ?_)

theorem FM.s1_pack (op : BitVec 8) (f : FM) : (FM.pack op f).extractLsb' 30 7 = f.s1 := by
  unfold FM.pack
  repeat (first
    | exact extract_whole _
    | refine (extract_append_high _ _ _ _ (by decide)).trans ?_
    | refine (extract_append_low _ _ _ _ (by decide)).trans ?_)

theorem FM.s2_pack (op : BitVec 8) (f : FM) : (FM.pack op f).extractLsb' 23 7 = f.s2 := by
  unfold FM.pack
  repeat (first
    | exact extract_whole _
    | refine (extract_append_high _ _ _ _ (by decide)).trans ?_
    | refine (extract_append_low _ _ _ _ (by decide)).trans ?_)

theorem FM.off_pack (op : BitVec 8) (f : FM) : (FM.pack op f).extractLsb' 11 12 = f.off := by
  unfold FM.pack
  repeat (first
    | exact extract_whole _
    | refine (extract_append_high _ _ _ _ (by decide)).trans ?_
    | refine (extract_append_low _ _ _ _ (by decide)).trans ?_)

theorem FM.cls_pack (op : BitVec 8) (f : FM) : (FM.pack op f).extractLsb' 7 4 = f.cls := by
  unfold FM.pack
  repeat (first
    | exact extract_whole _
    | refine (extract_append_high _ _ _ _ (by decide)).trans ?_
    | refine (extract_append_low _ _ _ _ (by decide)).trans ?_)

theorem FM.scope_pack (op : BitVec 8) (f : FM) : (FM.pack op f).extractLsb' 5 2 = f.scope := by
  unfold FM.pack
  repeat (first
    | exact extract_whole _
    | refine (extract_append_high _ _ _ _ (by decide)).trans ?_
    | refine (extract_append_low _ _ _ _ (by decide)).trans ?_)

theorem FM.hint_pack (op : BitVec 8) (f : FM) : (FM.pack op f).extractLsb' 3 2 = f.hint := by
  unfold FM.pack
  repeat (first
    | exact extract_whole _
    | refine (extract_append_high _ _ _ _ (by decide)).trans ?_
    | refine (extract_append_low _ _ _ _ (by decide)).trans ?_)

theorem FM.sgn_pack (op : BitVec 8) (f : FM) : (FM.pack op f).getLsbD 2 = f.sgn := by
  apply bit_of_extract
  unfold FM.pack
  repeat (first
    | exact extract_whole _
    | refine (extract_append_high _ _ _ _ (by decide)).trans ?_
    | refine (extract_append_low _ _ _ _ (by decide)).trans ?_)

theorem FM.sz_pack (op : BitVec 8) (f : FM) : (FM.pack op f).extractLsb' 0 2 = f.sz := by
  unfold FM.pack
  repeat (first
    | exact extract_whole _
    | refine (extract_append_high _ _ _ _ (by decide)).trans ?_
    | refine (extract_append_low _ _ _ _ (by decide)).trans ?_)

theorem FM.guard_pack (op : BitVec 8) (f : FM) : Guard.unpack (FM.pack op f) = f.g := by
  apply Guard.unpack_of
  unfold FM.pack
  repeat (first
    | exact extract_whole _
    | refine (extract_append_high _ _ _ _ (by decide)).trans ?_
    | refine (extract_append_low _ _ _ _ (by decide)).trans ?_)

theorem FM.opcode_pack (op : BitVec 8) (f : FM) : opcodeOf (FM.pack op f) = op.toNat := by
  unfold opcodeOf
  congr 1
  unfold FM.pack
  repeat (first
    | exact extract_whole _
    | refine (extract_append_high _ _ _ _ (by decide)).trans ?_
    | refine (extract_append_low _ _ _ _ (by decide)).trans ?_)

/-- Format FM drops no bit. -/
theorem FM.unpack_pack (op : BitVec 8) (f : FM) : FM.unpack (FM.pack op f) = f := by
  simp only [FM.unpack, FM.guard_pack op f, FM.d_pack op f, FM.s1_pack op f, FM.s2_pack op f, FM.off_pack op f, FM.cls_pack op f, FM.scope_pack op f, FM.hint_pack op f, FM.sgn_pack op f, FM.sz_pack op f]

theorem FX.d_pack (op : BitVec 8) (f : FX) : (FX.pack op f).extractLsb' 37 7 = f.d := by
  unfold FX.pack
  repeat (first
    | exact extract_whole _
    | refine (extract_append_high _ _ _ _ (by decide)).trans ?_
    | refine (extract_append_low _ _ _ _ (by decide)).trans ?_)

theorem FX.s1_pack (op : BitVec 8) (f : FX) : (FX.pack op f).extractLsb' 30 7 = f.s1 := by
  unfold FX.pack
  repeat (first
    | exact extract_whole _
    | refine (extract_append_high _ _ _ _ (by decide)).trans ?_
    | refine (extract_append_low _ _ _ _ (by decide)).trans ?_)

theorem FX.s2_pack (op : BitVec 8) (f : FX) : (FX.pack op f).extractLsb' 23 7 = f.s2 := by
  unfold FX.pack
  repeat (first
    | exact extract_whole _
    | refine (extract_append_high _ _ _ _ (by decide)).trans ?_
    | refine (extract_append_low _ _ _ _ (by decide)).trans ?_)

theorem FX.x_pack (op : BitVec 8) (f : FX) : (FX.pack op f).extractLsb' 16 7 = f.x := by
  unfold FX.pack
  repeat (first
    | exact extract_whole _
    | refine (extract_append_high _ _ _ _ (by decide)).trans ?_
    | refine (extract_append_low _ _ _ _ (by decide)).trans ?_)

theorem FX.off_pack (op : BitVec 8) (f : FX) : (FX.pack op f).extractLsb' 11 5 = f.off := by
  unfold FX.pack
  repeat (first
    | exact extract_whole _
    | refine (extract_append_high _ _ _ _ (by decide)).trans ?_
    | refine (extract_append_low _ _ _ _ (by decide)).trans ?_)

theorem FX.cls_pack (op : BitVec 8) (f : FX) : (FX.pack op f).extractLsb' 7 4 = f.cls := by
  unfold FX.pack
  repeat (first
    | exact extract_whole _
    | refine (extract_append_high _ _ _ _ (by decide)).trans ?_
    | refine (extract_append_low _ _ _ _ (by decide)).trans ?_)

theorem FX.scope_pack (op : BitVec 8) (f : FX) : (FX.pack op f).extractLsb' 5 2 = f.scope := by
  unfold FX.pack
  repeat (first
    | exact extract_whole _
    | refine (extract_append_high _ _ _ _ (by decide)).trans ?_
    | refine (extract_append_low _ _ _ _ (by decide)).trans ?_)

theorem FX.hint_pack (op : BitVec 8) (f : FX) : (FX.pack op f).extractLsb' 3 2 = f.hint := by
  unfold FX.pack
  repeat (first
    | exact extract_whole _
    | refine (extract_append_high _ _ _ _ (by decide)).trans ?_
    | refine (extract_append_low _ _ _ _ (by decide)).trans ?_)

theorem FX.sgn_pack (op : BitVec 8) (f : FX) : (FX.pack op f).getLsbD 2 = f.sgn := by
  apply bit_of_extract
  unfold FX.pack
  repeat (first
    | exact extract_whole _
    | refine (extract_append_high _ _ _ _ (by decide)).trans ?_
    | refine (extract_append_low _ _ _ _ (by decide)).trans ?_)

theorem FX.sz_pack (op : BitVec 8) (f : FX) : (FX.pack op f).extractLsb' 0 2 = f.sz := by
  unfold FX.pack
  repeat (first
    | exact extract_whole _
    | refine (extract_append_high _ _ _ _ (by decide)).trans ?_
    | refine (extract_append_low _ _ _ _ (by decide)).trans ?_)

theorem FX.guard_pack (op : BitVec 8) (f : FX) : Guard.unpack (FX.pack op f) = f.g := by
  apply Guard.unpack_of
  unfold FX.pack
  repeat (first
    | exact extract_whole _
    | refine (extract_append_high _ _ _ _ (by decide)).trans ?_
    | refine (extract_append_low _ _ _ _ (by decide)).trans ?_)

theorem FX.opcode_pack (op : BitVec 8) (f : FX) : opcodeOf (FX.pack op f) = op.toNat := by
  unfold opcodeOf
  congr 1
  unfold FX.pack
  repeat (first
    | exact extract_whole _
    | refine (extract_append_high _ _ _ _ (by decide)).trans ?_
    | refine (extract_append_low _ _ _ _ (by decide)).trans ?_)

/-- Format FX drops no bit. -/
theorem FX.unpack_pack (op : BitVec 8) (f : FX) : FX.unpack (FX.pack op f) = f := by
  simp only [FX.unpack, FX.guard_pack op f, FX.d_pack op f, FX.s1_pack op f, FX.s2_pack op f, FX.x_pack op f, FX.off_pack op f, FX.cls_pack op f, FX.scope_pack op f, FX.hint_pack op f, FX.sgn_pack op f, FX.sz_pack op f]

theorem FJ.d_pack (op : BitVec 8) (f : FJ) : (FJ.pack op f).extractLsb' 37 7 = f.d := by
  unfold FJ.pack
  repeat (first
    | exact extract_whole _
    | refine (extract_append_high _ _ _ _ (by decide)).trans ?_
    | refine (extract_append_low _ _ _ _ (by decide)).trans ?_)

theorem FJ.s1_pack (op : BitVec 8) (f : FJ) : (FJ.pack op f).extractLsb' 30 7 = f.s1 := by
  unfold FJ.pack
  repeat (first
    | exact extract_whole _
    | refine (extract_append_high _ _ _ _ (by decide)).trans ?_
    | refine (extract_append_low _ _ _ _ (by decide)).trans ?_)

theorem FJ.s2_pack (op : BitVec 8) (f : FJ) : (FJ.pack op f).extractLsb' 23 7 = f.s2 := by
  unfold FJ.pack
  repeat (first
    | exact extract_whole _
    | refine (extract_append_high _ _ _ _ (by decide)).trans ?_
    | refine (extract_append_low _ _ _ _ (by decide)).trans ?_)

theorem FJ.k_pack (op : BitVec 8) (f : FJ) : (FJ.pack op f).extractLsb' 19 4 = f.k := by
  unfold FJ.pack
  repeat (first
    | exact extract_whole _
    | refine (extract_append_high _ _ _ _ (by decide)).trans ?_
    | refine (extract_append_low _ _ _ _ (by decide)).trans ?_)

theorem FJ.cls_pack (op : BitVec 8) (f : FJ) : (FJ.pack op f).extractLsb' 15 4 = f.cls := by
  unfold FJ.pack
  repeat (first
    | exact extract_whole _
    | refine (extract_append_high _ _ _ _ (by decide)).trans ?_
    | refine (extract_append_low _ _ _ _ (by decide)).trans ?_)

theorem FJ.res_pack (op : BitVec 8) (f : FJ) : (FJ.pack op f).extractLsb' 0 15 = f.res := by
  unfold FJ.pack
  repeat (first
    | exact extract_whole _
    | refine (extract_append_high _ _ _ _ (by decide)).trans ?_
    | refine (extract_append_low _ _ _ _ (by decide)).trans ?_)

theorem FJ.guard_pack (op : BitVec 8) (f : FJ) : Guard.unpack (FJ.pack op f) = f.g := by
  apply Guard.unpack_of
  unfold FJ.pack
  repeat (first
    | exact extract_whole _
    | refine (extract_append_high _ _ _ _ (by decide)).trans ?_
    | refine (extract_append_low _ _ _ _ (by decide)).trans ?_)

theorem FJ.opcode_pack (op : BitVec 8) (f : FJ) : opcodeOf (FJ.pack op f) = op.toNat := by
  unfold opcodeOf
  congr 1
  unfold FJ.pack
  repeat (first
    | exact extract_whole _
    | refine (extract_append_high _ _ _ _ (by decide)).trans ?_
    | refine (extract_append_low _ _ _ _ (by decide)).trans ?_)

/-- Format FJ drops no bit. -/
theorem FJ.unpack_pack (op : BitVec 8) (f : FJ) : FJ.unpack (FJ.pack op f) = f := by
  simp only [FJ.unpack, FJ.guard_pack op f, FJ.d_pack op f, FJ.s1_pack op f, FJ.s2_pack op f, FJ.k_pack op f, FJ.cls_pack op f, FJ.res_pack op f]

/-! The other direction: a word is the packing of its fields. -/

theorem toNat_append_add {a b : Nat} (x : BitVec a) (y : BitVec b) :
    (x ++ y).toNat = x.toNat * 2 ^ b + y.toNat := by
  rw [BitVec.toNat_append, Nat.shiftLeft_eq, Nat.mul_comm, ← Nat.two_pow_add_eq_or_of_lt y.isLt]

theorem toNat_extract {n : Nat} (x : BitVec n) (s l : Nat) :
    (x.extractLsb' s l).toNat = x.toNat / 2 ^ s % 2 ^ l := by
  simp [BitVec.extractLsb'_toNat, Nat.shiftRight_eq_div_pow]

theorem toNat_bit {n : Nat} (x : BitVec n) (i : Nat) :
    (BitVec.ofBool (x.getLsbD i)).toNat = x.toNat / 2 ^ i % 2 ^ 1 := by
  have h : x.getLsbD i = decide (x.toNat / 2 ^ i % 2 = 1) := by
    simp [BitVec.getLsbD, Nat.testBit, Nat.shiftRight_eq_div_pow, Nat.and_comm 1, Nat.and_one_is_mod]
    rcases Nat.mod_two_eq_zero_or_one (x.toNat / 2 ^ i) with h | h <;> simp [h]
  rw [h]
  rcases Nat.mod_two_eq_zero_or_one (x.toNat / 2 ^ i) with h | h <;> simp [h]

theorem digits_join (n s l r : Nat) (h : s + l = r) : n / 2 ^ r * 2 ^ l + n / 2 ^ s % 2 ^ l = n / 2 ^ s := by
  subst h
  rw [Nat.pow_add, ← Nat.div_div_eq_div_mul]
  exact Nat.div_add_mod' _ _

theorem digits_top (w : W64) : w.toNat / 2 ^ 56 % 2 ^ 8 = w.toNat / 2 ^ 56 := by
  have := w.isLt
  omega

theorem Guard.pack_unpack (w : W64) : (Guard.unpack w).pack.toNat = w.toNat / 2 ^ 44 % 2 ^ 12 := by
  unfold Guard.pack Guard.unpack
  refine (toNat_append_add _ _).trans ?_
  simp only [toNat_append_add, toNat_extract, toNat_bit]
  omega

theorem F3.pack_unpack (w : W64) : F3.pack (w.extractLsb' 56 8) (F3.unpack w) = w := by
  apply BitVec.eq_of_toNat_eq
  unfold F3.pack F3.unpack
  refine (toNat_append_add _ _).trans ?_
  simp only [toNat_append_add, toNat_extract, toNat_bit, Guard.pack_unpack]
  rw [digits_top w, digits_join _ 44 12 56 rfl, digits_join _ 37 7 44 rfl, digits_join _ 30 7 37 rfl, digits_join _ 23 7 30 rfl, digits_join _ 19 4 23 rfl, digits_join _ 17 2 19 rfl, digits_join _ 16 1 17 rfl, digits_join _ 15 1 16 rfl, digits_join _ 14 1 15 rfl, digits_join _ 11 3 14 rfl, digits_join _ 7 4 11 rfl, digits_join _ 0 7 7 rfl, Nat.pow_zero, Nat.div_one]

theorem FI.pack_unpack (w : W64) : FI.pack (w.extractLsb' 56 8) (FI.unpack w) = w := by
  apply BitVec.eq_of_toNat_eq
  unfold FI.pack FI.unpack
  refine (toNat_append_add _ _).trans ?_
  simp only [toNat_append_add, toNat_extract, toNat_bit, Guard.pack_unpack]
  rw [digits_top w, digits_join _ 44 12 56 rfl, digits_join _ 37 7 44 rfl, digits_join _ 30 7 37 rfl, digits_join _ 0 30 30 rfl, Nat.pow_zero, Nat.div_one]

theorem FL.pack_unpack (w : W64) : FL.pack (w.extractLsb' 56 8) (FL.unpack w) = w := by
  apply BitVec.eq_of_toNat_eq
  unfold FL.pack FL.unpack
  refine (toNat_append_add _ _).trans ?_
  simp only [toNat_append_add, toNat_extract, toNat_bit, Guard.pack_unpack]
  rw [digits_top w, digits_join _ 44 12 56 rfl, digits_join _ 37 7 44 rfl, digits_join _ 0 37 37 rfl, Nat.pow_zero, Nat.div_one]

theorem FB.pack_unpack (w : W64) : FB.pack (w.extractLsb' 56 8) (FB.unpack w) = w := by
  apply BitVec.eq_of_toNat_eq
  unfold FB.pack FB.unpack
  refine (toNat_append_add _ _).trans ?_
  simp only [toNat_append_add, toNat_extract, toNat_bit, Guard.pack_unpack]
  rw [digits_top w, digits_join _ 44 12 56 rfl, digits_join _ 37 7 44 rfl, digits_join _ 30 7 37 rfl, digits_join _ 29 1 30 rfl, digits_join _ 26 3 29 rfl, digits_join _ 0 26 26 rfl, Nat.pow_zero, Nat.div_one]

theorem FM.pack_unpack (w : W64) : FM.pack (w.extractLsb' 56 8) (FM.unpack w) = w := by
  apply BitVec.eq_of_toNat_eq
  unfold FM.pack FM.unpack
  refine (toNat_append_add _ _).trans ?_
  simp only [toNat_append_add, toNat_extract, toNat_bit, Guard.pack_unpack]
  rw [digits_top w, digits_join _ 44 12 56 rfl, digits_join _ 37 7 44 rfl, digits_join _ 30 7 37 rfl, digits_join _ 23 7 30 rfl, digits_join _ 11 12 23 rfl, digits_join _ 7 4 11 rfl, digits_join _ 5 2 7 rfl, digits_join _ 3 2 5 rfl, digits_join _ 2 1 3 rfl, digits_join _ 0 2 2 rfl, Nat.pow_zero, Nat.div_one]

theorem FX.pack_unpack (w : W64) : FX.pack (w.extractLsb' 56 8) (FX.unpack w) = w := by
  apply BitVec.eq_of_toNat_eq
  unfold FX.pack FX.unpack
  refine (toNat_append_add _ _).trans ?_
  simp only [toNat_append_add, toNat_extract, toNat_bit, Guard.pack_unpack]
  rw [digits_top w, digits_join _ 44 12 56 rfl, digits_join _ 37 7 44 rfl, digits_join _ 30 7 37 rfl, digits_join _ 23 7 30 rfl, digits_join _ 16 7 23 rfl, digits_join _ 11 5 16 rfl, digits_join _ 7 4 11 rfl, digits_join _ 5 2 7 rfl, digits_join _ 3 2 5 rfl, digits_join _ 2 1 3 rfl, digits_join _ 0 2 2 rfl, Nat.pow_zero, Nat.div_one]

theorem FJ.pack_unpack (w : W64) : FJ.pack (w.extractLsb' 56 8) (FJ.unpack w) = w := by
  apply BitVec.eq_of_toNat_eq
  unfold FJ.pack FJ.unpack
  refine (toNat_append_add _ _).trans ?_
  simp only [toNat_append_add, toNat_extract, toNat_bit, Guard.pack_unpack]
  rw [digits_top w, digits_join _ 44 12 56 rfl, digits_join _ 37 7 44 rfl, digits_join _ 30 7 37 rfl, digits_join _ 23 7 30 rfl, digits_join _ 19 4 23 rfl, digits_join _ 15 4 19 rfl, digits_join _ 0 15 15 rfl, Nat.pow_zero, Nat.div_one]

end Sys2Proof
end

