-- ==== Sys2Proof/Laws/Exec.lean ====
section
/-! SUPPORT. What `exec` does with each constructor: its meaning, by definition. -/

namespace Sys2Proof.Machine

theorem exec_add f s : exec (.add f) s = execAdd f s := rfl
theorem exec_sub f s : exec (.sub f) s = execSub f s := rfl
theorem exec_mul f s : exec (.mul f) s = execMul f s := rfl
theorem exec_mulh f s : exec (.mulh f) s = execMulh f s := rfl
theorem exec_mulhn f s : exec (.mulhn f) s = execMulhn f s := rfl
theorem exec_div f s : exec (.div f) s = execDiv f s := rfl
theorem exec_divn f s : exec (.divn f) s = execDivn f s := rfl
theorem exec_rem f s : exec (.rem f) s = execRem f s := rfl
theorem exec_remn f s : exec (.remn f) s = execRemn f s := rfl
theorem exec_and f s : exec (.and f) s = execAnd f s := rfl
theorem exec_or f s : exec (.or f) s = execOr f s := rfl
theorem exec_xor f s : exec (.xor f) s = execXor f s := rfl
theorem exec_andn f s : exec (.andn f) s = execAndn f s := rfl
theorem exec_shl f s : exec (.shl f) s = execShl f s := rfl
theorem exec_shr f s : exec (.shr f) s = execShr f s := rfl
theorem exec_sra f s : exec (.sra f) s = execSra f s := rfl
theorem exec_rol f s : exec (.rol f) s = execRol f s := rfl
theorem exec_ror f s : exec (.ror f) s = execRor f s := rfl
theorem exec_min f s : exec (.min f) s = execMin f s := rfl
theorem exec_max f s : exec (.max f) s = execMax f s := rfl
theorem exec_minn f s : exec (.minn f) s = execMinn f s := rfl
theorem exec_maxn f s : exec (.maxn f) s = execMaxn f s := rfl
theorem exec_cmpeq f s : exec (.cmpeq f) s = execCmpeq f s := rfl
theorem exec_cmpne f s : exec (.cmpne f) s = execCmpne f s := rfl
theorem exec_cmplt f s : exec (.cmplt f) s = execCmplt f s := rfl
theorem exec_cmpltn f s : exec (.cmpltn f) s = execCmpltn f s := rfl
theorem exec_cmple f s : exec (.cmple f) s = execCmple f s := rfl
theorem exec_cmplen f s : exec (.cmplen f) s = execCmplen f s := rfl
theorem exec_clz f s : exec (.clz f) s = execClz f s := rfl
theorem exec_ctz f s : exec (.ctz f) s = execCtz f s := rfl
theorem exec_popc f s : exec (.popc f) s = execPopc f s := rfl
theorem exec_addi f s : exec (.addi f) s = execAddi f s := rfl
theorem exec_muli f s : exec (.muli f) s = execMuli f s := rfl
theorem exec_andi f s : exec (.andi f) s = execAndi f s := rfl
theorem exec_ori f s : exec (.ori f) s = execOri f s := rfl
theorem exec_xori f s : exec (.xori f) s = execXori f s := rfl
theorem exec_shli f s : exec (.shli f) s = execShli f s := rfl
theorem exec_shri f s : exec (.shri f) s = execShri f s := rfl
theorem exec_srai f s : exec (.srai f) s = execSrai f s := rfl
theorem exec_cmpeqi f s : exec (.cmpeqi f) s = execCmpeqi f s := rfl
theorem exec_cmpnei f s : exec (.cmpnei f) s = execCmpnei f s := rfl
theorem exec_cmplti f s : exec (.cmplti f) s = execCmplti f s := rfl
theorem exec_cmpltni f s : exec (.cmpltni f) s = execCmpltni f s := rfl
theorem exec_extr f s : exec (.extr f) s = execExtr f s := rfl
theorem exec_extrs f s : exec (.extrs f) s = execExtrs f s := rfl
theorem exec_limm f lit s : exec (.limm f lit) s = execLimm f lit s := rfl
theorem exec_uld f s : exec (.uld f) s = execUld f s := rfl
theorem exec_br f s : exec (.br f) s = execBr f s := rfl
theorem exec_call f s : exec (.call f) s = execCall f s := rfl
theorem exec_ret f s : exec (.ret f) s = execRet f s := rfl
theorem exec_loop f s : exec (.loop f) s = execLoop f s := rfl
theorem exec_start f s : exec (.start f) s = execStart f s := rfl
theorem exec_spawn f s : exec (.spawn f) s = execSpawn f s := rfl
theorem exec_yield f s : exec (.yield f) s = execYield f s := rfl
theorem exec_await f s : exec (.await f) s = execAwait f s := rfl
theorem exec_exit f s : exec (.exit f) s = execExit f s := rfl
theorem exec_feed f s : exec (.feed f) s = execFeed f s := rfl
theorem exec_jpost f s : exec (.jpost f) s = execJpost f s := rfl
theorem exec_remq f s : exec (.remq f) s = execRemq f s := rfl
theorem exec_wait f s : exec (.wait f) s = execWait f s := rfl
theorem exec_sigwait f s : exec (.sigwait f) s = execSigwait f s := rfl
theorem exec_gbar f s : exec (.gbar f) s = execGbar f s := rfl
theorem exec_phase f s : exec (.phase f) s = execPhase f s := rfl
theorem exec_xlat f s : exec (.xlat f) s = execXlat f s := rfl
theorem exec_refresh f s : exec (.refresh f) s = execRefresh f s := rfl
theorem exec_tdrop f s : exec (.tdrop f) s = execTdrop f s := rfl
theorem exec_tqueryCtl f s : exec (.tqueryCtl f) s = execTqueryCtl f s := rfl
theorem exec_tqueryVbase f s : exec (.tqueryVbase f) s = execTqueryVbase f s := rfl
theorem exec_tqueryLen f s : exec (.tqueryLen f) s = execTqueryLen f s := rfl
theorem exec_tqueryCur f s : exec (.tqueryCur f) s = execTqueryCur f s := rfl
theorem exec_tqueryGet f s : exec (.tqueryGet f) s = execTqueryGet f s := rfl
theorem exec_tquerySet f s : exec (.tquerySet f) s = execTquerySet f s := rfl
theorem exec_reqpg f s : exec (.reqpg f) s = execReqpg f s := rfl
theorem exec_fence f s : exec (.fence f) s = execFence f s := rfl
theorem exec_sigadd f s : exec (.sigadd f) s = execSigadd f s := rfl
theorem exec_sigset f s : exec (.sigset f) s = execSigset f s := rfl
theorem exec_lds f s : exec (.lds f) s = execLds f s := rfl
theorem exec_sts f s : exec (.sts f) s = execSts f s := rfl
theorem exec_ldacq f s : exec (.ldacq f) s = execLdacq f s := rfl
theorem exec_strel f s : exec (.strel f) s = execStrel f s := rfl
theorem exec_wback f s : exec (.wback f) s = execWback f s := rfl
theorem exec_inval f s : exec (.inval f) s = execInval f s := rfl
theorem exec_discard f s : exec (.discard f) s = execDiscard f s := rfl
theorem exec_pref f s : exec (.pref f) s = execPref f s := rfl
theorem exec_aadd f s : exec (.aadd f) s = execAadd f s := rfl
theorem exec_amin f s : exec (.amin f) s = execAmin f s := rfl
theorem exec_amax f s : exec (.amax f) s = execAmax f s := rfl
theorem exec_aminn f s : exec (.aminn f) s = execAminn f s := rfl
theorem exec_amaxn f s : exec (.amaxn f) s = execAmaxn f s := rfl
theorem exec_aand f s : exec (.aand f) s = execAand f s := rfl
theorem exec_aor f s : exec (.aor f) s = execAor f s := rfl
theorem exec_axor f s : exec (.axor f) s = execAxor f s := rfl
theorem exec_aswap f s : exec (.aswap f) s = execAswap f s := rfl
theorem exec_acas f s : exec (.acas f) s = execAcas f s := rfl
theorem exec_bnew f s : exec (.bnew f) s = execBnew f s := rfl
theorem exec_bjoin f s : exec (.bjoin f) s = execBjoin f s := rfl
theorem exec_bseal f s : exec (.bseal f) s = execBseal f s := rfl
theorem exec_babort f s : exec (.babort f) s = execBabort f s := rfl
theorem exec_bviewNow f s : exec (.bviewNow f) s = execBviewNow f s := rfl
theorem exec_bviewSet f s : exec (.bviewSet f) s = execBviewSet f s := rfl
theorem exec_bviewClr f s : exec (.bviewClr f) s = execBviewClr f s := rfl
theorem exec_bcheck f s : exec (.bcheck f) s = execBcheck f s := rfl
theorem exec_bcheckCls f s : exec (.bcheckCls f) s = execBcheckCls f s := rfl
theorem exec_vld f s : exec (.vld f) s = execVld f s := rfl
theorem exec_vlds f s : exec (.vlds f) s = execVlds f s := rfl
theorem exec_vldx f s : exec (.vldx f) s = execVldx f s := rfl
theorem exec_ldb f s : exec (.ldb f) s = execLdb f s := rfl
theorem exec_vst f s : exec (.vst f) s = execVst f s := rfl
theorem exec_vsts f s : exec (.vsts f) s = execVsts f s := rfl
theorem exec_vstx f s : exec (.vstx f) s = execVstx f s := rfl
theorem exec_lld f s : exec (.lld f) s = execLld f s := rfl
theorem exec_lst f s : exec (.lst f) s = execLst f s := rfl
theorem exec_vlld f s : exec (.vlld f) s = execVlld f s := rfl
theorem exec_vlst f s : exec (.vlst f) s = execVlst f s := rfl
theorem exec_lqput f s : exec (.lqput f) s = execLqput f s := rfl
theorem exec_sqget f s : exec (.sqget f) s = execSqget f s := rfl
theorem exec_tchk f s : exec (.tchk f) s = execTchk f s := rfl
theorem exec_rprobe f s : exec (.rprobe f) s = execRprobe f s := rfl
theorem exec_sqdrop f s : exec (.sqdrop f) s = execSqdrop f s := rfl
theorem exec_vadd f s : exec (.vadd f) s = execVadd f s := rfl
theorem exec_vsub f s : exec (.vsub f) s = execVsub f s := rfl
theorem exec_vmul f s : exec (.vmul f) s = execVmul f s := rfl
theorem exec_vdiv f s : exec (.vdiv f) s = execVdiv f s := rfl
theorem exec_vsqrt f s : exec (.vsqrt f) s = execVsqrt f s := rfl
theorem exec_vfma f s : exec (.vfma f) s = execVfma f s := rfl
theorem exec_vfms f s : exec (.vfms f) s = execVfms f s := rfl
theorem exec_vfnma f s : exec (.vfnma f) s = execVfnma f s := rfl
theorem exec_vfnms f s : exec (.vfnms f) s = execVfnms f s := rfl
theorem exec_vmin f s : exec (.vmin f) s = execVmin f s := rfl
theorem exec_vmax f s : exec (.vmax f) s = execVmax f s := rfl
theorem exec_vabs f s : exec (.vabs f) s = execVabs f s := rfl
theorem exec_vneg f s : exec (.vneg f) s = execVneg f s := rfl
theorem exec_vabd f s : exec (.vabd f) s = execVabd f s := rfl
theorem exec_vrcp f s : exec (.vrcp f) s = execVrcp f s := rfl
theorem exec_vrsq f s : exec (.vrsq f) s = execVrsq f s := rfl
theorem exec_vexp2 f s : exec (.vexp2 f) s = execVexp2 f s := rfl
theorem exec_vlog2 f s : exec (.vlog2 f) s = execVlog2 f s := rfl
theorem exec_vsin f s : exec (.vsin f) s = execVsin f s := rfl
theorem exec_vcos f s : exec (.vcos f) s = execVcos f s := rfl
theorem exec_vtanh f s : exec (.vtanh f) s = execVtanh f s := rfl
theorem exec_vsigm f s : exec (.vsigm f) s = execVsigm f s := rfl
theorem exec_vscale f s : exec (.vscale f) s = execVscale f s := rfl
theorem exec_vround f s : exec (.vround f) s = execVround f s := rfl
theorem exec_vclamp f s : exec (.vclamp f) s = execVclamp f s := rfl
theorem exec_vsgnj f s : exec (.vsgnj f) s = execVsgnj f s := rfl
theorem exec_vclass f s : exec (.vclass f) s = execVclass f s := rfl
theorem exec_vcvt f s : exec (.vcvt f) s = execVcvt f s := rfl
theorem exec_vdot f s : exec (.vdot f) s = execVdot f s := rfl
theorem exec_vcmp f s : exec (.vcmp f) s = execVcmp f s := rfl
theorem exec_vpadd f s : exec (.vpadd f) s = execVpadd f s := rfl
theorem exec_vpack f s : exec (.vpack f) s = execVpack f s := rfl
theorem exec_vunpack f s : exec (.vunpack f) s = execVunpack f s := rfl
theorem exec_vredsum f s : exec (.vredsum f) s = execVredsum f s := rfl
theorem exec_vredmax f s : exec (.vredmax f) s = execVredmax f s := rfl
theorem exec_vredmin f s : exec (.vredmin f) s = execVredmin f s := rfl
theorem exec_vredadd f s : exec (.vredadd f) s = execVredadd f s := rfl
theorem exec_vredand f s : exec (.vredand f) s = execVredand f s := rfl
theorem exec_vredor f s : exec (.vredor f) s = execVredor f s := rfl
theorem exec_vredxor f s : exec (.vredxor f) s = execVredxor f s := rfl
theorem exec_viadd f s : exec (.viadd f) s = execViadd f s := rfl
theorem exec_visub f s : exec (.visub f) s = execVisub f s := rfl
theorem exec_vimul f s : exec (.vimul f) s = execVimul f s := rfl
theorem exec_vimulh f s : exec (.vimulh f) s = execVimulh f s := rfl
theorem exec_vimac f s : exec (.vimac f) s = execVimac f s := rfl
theorem exec_vand f s : exec (.vand f) s = execVand f s := rfl
theorem exec_vor f s : exec (.vor f) s = execVor f s := rfl
theorem exec_vxor f s : exec (.vxor f) s = execVxor f s := rfl
theorem exec_vandn f s : exec (.vandn f) s = execVandn f s := rfl
theorem exec_vshl f s : exec (.vshl f) s = execVshl f s := rfl
theorem exec_vshr f s : exec (.vshr f) s = execVshr f s := rfl
theorem exec_vsra f s : exec (.vsra f) s = execVsra f s := rfl
theorem exec_vimin f s : exec (.vimin f) s = execVimin f s := rfl
theorem exec_vimax f s : exec (.vimax f) s = execVimax f s := rfl
theorem exec_viminn f s : exec (.viminn f) s = execViminn f s := rfl
theorem exec_vimaxn f s : exec (.vimaxn f) s = execVimaxn f s := rfl
theorem exec_vicmp f s : exec (.vicmp f) s = execVicmp f s := rfl
theorem exec_viabs f s : exec (.viabs f) s = execViabs f s := rfl
theorem exec_vineg f s : exec (.vineg f) s = execVineg f s := rfl
theorem exec_vpopc f s : exec (.vpopc f) s = execVpopc f s := rfl
theorem exec_vclz f s : exec (.vclz f) s = execVclz f s := rfl
theorem exec_vsel f s : exec (.vsel f) s = execVsel f s := rfl
theorem exec_vperm f s : exec (.vperm f) s = execVperm f s := rfl
theorem exec_vshuf f s : exec (.vshuf f) s = execVshuf f s := rfl
theorem exec_vbcast f s : exec (.vbcast f) s = execVbcast f s := rfl
theorem exec_vmov f s : exec (.vmov f) s = execVmov f s := rfl
theorem exec_vzip f s : exec (.vzip f) s = execVzip f s := rfl
theorem exec_vunzip f s : exec (.vunzip f) s = execVunzip f s := rfl
theorem exec_vcompress f s : exec (.vcompress f) s = execVcompress f s := rfl
theorem exec_vexpand f s : exec (.vexpand f) s = execVexpand f s := rfl
theorem exec_vidx f s : exec (.vidx f) s = execVidx f s := rfl
theorem exec_vpop f s : exec (.vpop f) s = execVpop f s := rfl
theorem exec_vpush f s : exec (.vpush f) s = execVpush f s := rfl
theorem exec_mand f s : exec (.mand f) s = execMand f s := rfl
theorem exec_mor f s : exec (.mor f) s = execMor f s := rfl
theorem exec_mxor f s : exec (.mxor f) s = execMxor f s := rfl
theorem exec_mandn f s : exec (.mandn f) s = execMandn f s := rfl
theorem exec_mnot f s : exec (.mnot f) s = execMnot f s := rfl
theorem exec_mmov f s : exec (.mmov f) s = execMmov f s := rfl
theorem exec_mset f s : exec (.mset f) s = execMset f s := rfl
theorem exec_mget f s : exec (.mget f) s = execMget f s := rfl
theorem exec_mcnt f s : exec (.mcnt f) s = execMcnt f s := rfl
theorem exec_ckacc f s : exec (.ckacc f) s = execCkacc f s := rfl
theorem exec_ckchk f s : exec (.ckchk f) s = execCkchk f s := rfl
theorem exec_ckclr f s : exec (.ckclr f) s = execCkclr f s := rfl
theorem exec_ckget f s : exec (.ckget f) s = execCkget f s := rfl
theorem exec_mfirst f s : exec (.mfirst f) s = execMfirst f s := rfl
theorem exec_viaddi f s : exec (.viaddi f) s = execViaddi f s := rfl
theorem exec_vshli f s : exec (.vshli f) s = execVshli f s := rfl
theorem exec_vshri f s : exec (.vshri f) s = execVshri f s := rfl
theorem exec_vsrai f s : exec (.vsrai f) s = execVsrai f s := rfl
theorem exec_vext f s : exec (.vext f) s = execVext f s := rfl
theorem exec_vins f s : exec (.vins f) s = execVins f s := rfl
theorem exec_vslide f s : exec (.vslide f) s = execVslide f s := rfl
theorem exec_vimm f s : exec (.vimm f) s = execVimm f s := rfl
theorem exec_vlimm f lit s : exec (.vlimm f lit) s = execVlimm f lit s := rfl
theorem exec_revoke f s : exec (.revoke f) s = execRevoke f s := rfl
theorem exec_grant f s : exec (.grant f) s = execGrant f s := rfl
theorem exec_tsweep f s : exec (.tsweep f) s = execTsweep f s := rfl
theorem exec_tcflush f s : exec (.tcflush f) s = execTcflush f s := rfl
theorem exec_pgclass f s : exec (.pgclass f) s = execPgclass f s := rfl
theorem exec_ckpt f s : exec (.ckpt f) s = execCkpt f s := rfl
theorem exec_ckroll f s : exec (.ckroll f) s = execCkroll f s := rfl
theorem exec_roleset f s : exec (.roleset f) s = execRoleset f s := rfl
theorem exec_csrr f s : exec (.csrr f) s = execCsrr f s := rfl
theorem exec_csrw f s : exec (.csrw f) s = execCsrw f s := rfl
theorem exec_syscall f s : exec (.syscall f) s = execSyscall f s := rfl
theorem exec_tret f s : exec (.tret f) s = execTret f s := rfl
theorem exec_halt f s : exec (.halt f) s = execHalt f s := rfl
theorem exec_ctxsaveKeep f s : exec (.ctxsaveKeep f) s = execCtxsaveKeep f s := rfl
theorem exec_ctxsaveDrop f s : exec (.ctxsaveDrop f) s = execCtxsaveDrop f s := rfl
theorem exec_ctxload f s : exec (.ctxload f) s = execCtxload f s := rfl
theorem exec_ctxloadEvict f s : exec (.ctxloadEvict f) s = execCtxloadEvict f s := rfl
theorem exec_stest f s : exec (.stest f) s = execStest f s := rfl
theorem exec_shelfput f s : exec (.shelfput f) s = execShelfput f s := rfl
theorem exec_lineFetch core str s : exec (.lineFetch core str) s = execLineFetch core str s := rfl
theorem exec_launchRecord die ctx src s : exec (.launchRecord die ctx src) s = execLaunchRecord die ctx src s := rfl
theorem exec_benchWaitEnd die s : exec (.benchWaitEnd die) s = execBenchWaitEnd die s := rfl
theorem exec_poolSlotWaitEnd die s : exec (.poolSlotWaitEnd die) s = execPoolSlotWaitEnd die s := rfl
theorem exec_feedAppend die ctx src s : exec (.feedAppend die ctx src) s = execFeedAppend die ctx src s := rfl
theorem exec_feedWake core s : exec (.feedWake core) s = execFeedWake core s := rfl
theorem exec_fabricLaunch die p s : exec (.fabricLaunch die p) s = execFabricLaunch die p s := rfl
theorem exec_residencyRequest die p s : exec (.residencyRequest die p) s = execResidencyRequest die p s := rfl
theorem exec_pickup core s : exec (.pickup core) s = execPickup core s := rfl
theorem exec_effectiveLevelRise die s : exec (.effectiveLevelRise die) s = execEffectiveLevelRise die s := rfl
theorem exec_spawnReady die slot s : exec (.spawnReady die slot) s = execSpawnReady die slot s := rfl
theorem exec_waiterWake die slot s : exec (.waiterWake die slot) s = execWaiterWake die slot s := rfl
theorem exec_remqUnblock die slot s : exec (.remqUnblock die slot) s = execRemqUnblock die slot s := rfl
theorem exec_phaseCountArrival dst src group value s : exec (.phaseCountArrival dst src group value) s = execPhaseCountArrival dst src group value s := rfl
theorem exec_barrierCountArrival dst src group value s : exec (.barrierCountArrival dst src group value) s = execBarrierCountArrival dst src group value s := rfl
theorem exec_jobDispatch core matrix s : exec (.jobDispatch core matrix) s = execJobDispatch core matrix s := rfl
theorem exec_shareGrant die s : exec (.shareGrant die) s = execShareGrant die s := rfl
theorem exec_shareWaitExpiry core slot s : exec (.shareWaitExpiry core slot) s = execShareWaitExpiry core slot s := rfl
theorem exec_jobCompletion core slot s : exec (.jobCompletion core slot) s = execJobCompletion core slot s := rfl
theorem exec_signalUpdateAck core slot s : exec (.signalUpdateAck core slot) s = execSignalUpdateAck core slot s := rfl
theorem exec_shadowLoad core s : exec (.shadowLoad core) s = execShadowLoad core s := rfl
theorem exec_planeSwap core s : exec (.planeSwap core) s = execPlaneSwap core s := rfl
theorem exec_matrixPass core s : exec (.matrixPass core) s = execMatrixPass core s := rfl
theorem exec_retirement core s : exec (.retirement core) s = execRetirement core s := rfl
theorem exec_copyLine core s : exec (.copyLine core) s = execCopyLine core s := rfl
theorem exec_copyLineComplete core s : exec (.copyLineComplete core) s = execCopyLineComplete core s := rfl
theorem exec_reduceContribution c s : exec (.reduceContribution c) s = execReduceContribution c s := rfl
theorem exec_mcastMemberWrite core m s : exec (.mcastMemberWrite core m) s = execMcastMemberWrite core m s := rfl
theorem exec_tableFreeze die slot lens s : exec (.tableFreeze die slot lens) s = execTableFreeze die slot lens s := rfl
theorem exec_requestPerform core str s : exec (.requestPerform core str) s = execRequestPerform core str s := rfl
theorem exec_xResultLanding core s : exec (.xResultLanding core) s = execXResultLanding core s := rfl
theorem exec_translationComplete core s : exec (.translationComplete core) s = execTranslationComplete core s := rfl
theorem exec_shootDown core ctx index s : exec (.shootDown core ctx index) s = execShootDown core ctx index s := rfl
theorem exec_drainComplete ctx index s : exec (.drainComplete ctx index) s = execDrainComplete ctx index s := rfl
theorem exec_pinRequest p s : exec (.pinRequest p) s = execPinRequest p s := rfl
theorem exec_unpinRequest p s : exec (.unpinRequest p) s = execUnpinRequest p s := rfl
theorem exec_tierMove frame size dest s : exec (.tierMove frame size dest) s = execTierMove frame size dest s := rfl
theorem exec_migrationLineCopy page size peer dest s : exec (.migrationLineCopy page size peer dest) s = execMigrationLineCopy page size peer dest s := rfl
theorem exec_migrationRetry p s : exec (.migrationRetry p) s = execMigrationRetry p s := rfl
theorem exec_rds core line s : exec (.rds core line) s = execRds core line s := rfl
theorem exec_rdx core line s : exec (.rdx core line) s = execRdx core line s := rfl
theorem exec_upg core line s : exec (.upg core line) s = execUpg core line s := rfl
theorem exec_wb core line s : exec (.wb core line) s = execWb core line s := rfl
theorem exec_drop core line s : exec (.drop core line) s = execDrop core line s := rfl
theorem exec_snoop core line inv s : exec (.snoop core line inv) s = execSnoop core line inv s := rfl
theorem exec_readPacket p s : exec (.readPacket p) s = execReadPacket p s := rfl
theorem exec_writePacket p s : exec (.writePacket p) s = execWritePacket p s := rfl
theorem exec_atomicPacket p s : exec (.atomicPacket p) s = execAtomicPacket p s := rfl
theorem exec_signalUpdatePacket p s : exec (.signalUpdatePacket p) s = execSignalUpdatePacket p s := rfl
theorem exec_replyPacket p s : exec (.replyPacket p) s = execReplyPacket p s := rfl
theorem exec_commitNotice name stamp s : exec (.commitNotice name stamp) s = execCommitNotice name stamp s := rfl
theorem exec_stampRequest peer name s : exec (.stampRequest peer name) s = execStampRequest peer name s := rfl
theorem exec_stampReceived name stamp s : exec (.stampReceived name stamp) s = execStampReceived name stamp s := rfl
theorem exec_bundleRecordRequest p s : exec (.bundleRecordRequest p) s = execBundleRecordRequest p s := rfl
theorem exec_recordFree index s : exec (.recordFree index) s = execRecordFree index s := rfl
theorem exec_managementPacket p s : exec (.managementPacket p) s = execManagementPacket p s := rfl
theorem exec_drainMarker die link rq s : exec (.drainMarker die link rq) s = execDrainMarker die link rq s := rfl
theorem exec_packetForward p s : exec (.packetForward p) s = execPacketForward p s := rfl
theorem exec_retransmission peer die id s : exec (.retransmission peer die id) s = execRetransmission peer die id s := rfl
theorem exec_requestUnresolved peer die id s : exec (.requestUnresolved peer die id) s = execRequestUnresolved peer die id s := rfl
theorem exec_dataFlit die link flit side s : exec (.dataFlit die link flit side) s = execDataFlit die link flit side s := rfl
theorem exec_replay die link seq s : exec (.replay die link seq) s = execReplay die link seq s := rfl
theorem exec_controlFlit die link flit s : exec (.controlFlit die link flit) s = execControlFlit die link flit s := rfl
theorem exec_freedRefresh peer rq s : exec (.freedRefresh peer rq) s = execFreedRefresh peer rq s := rfl
theorem exec_linkOutOfService die link s : exec (.linkOutOfService die link) s = execLinkOutOfService die link s := rfl
theorem exec_errorWindowEnd die link wave errs s : exec (.errorWindowEnd die link wave errs) s = execErrorWindowEnd die link wave errs s := rfl
theorem exec_flitBoundarySwitch die link wave s : exec (.flitBoundarySwitch die link wave) s = execFlitBoundarySwitch die link wave s := rfl
theorem exec_trainingSuccess die link wave far s : exec (.trainingSuccess die link wave far) s = execTrainingSuccess die link wave far s := rfl
theorem exec_trainingAttemptFail die link wave s : exec (.trainingAttemptFail die link wave) s = execTrainingAttemptFail die link wave s := rfl
theorem exec_reconfigureFabric c s : exec (.reconfigureFabric c) s = execReconfigureFabric c s := rfl
theorem exec_reconfigHold s : exec .reconfigHold s = execReconfigHold s := rfl
theorem exec_reconfigDrain s : exec .reconfigDrain s = execReconfigDrain s := rfl
theorem exec_reconfigDark s : exec .reconfigDark s = execReconfigDark s := rfl
theorem exec_reconfigRelock s : exec .reconfigRelock s = execReconfigRelock s := rfl
theorem exec_relockTimeout s : exec .relockTimeout s = execRelockTimeout s := rfl
theorem exec_reconfigRoutes plan s : exec (.reconfigRoutes plan) s = execReconfigRoutes plan s := rfl
theorem exec_reconfigRun s : exec .reconfigRun s = execReconfigRun s := rfl
theorem exec_trapDelivery core s : exec (.trapDelivery core) s = execTrapDelivery core s := rfl
theorem exec_preemption core pa release s : exec (.preemption core pa release) s = execPreemption core pa release s := rfl
theorem exec_selfTest kind index outcome s : exec (.selfTest kind index outcome) s = execSelfTest kind index outcome s := rfl
theorem exec_powerLimitChange sizes s : exec (.powerLimitChange sizes) s = execPowerLimitChange sizes s := rfl
theorem exec_bootStep number ok stamp s : exec (.bootStep number ok stamp) s = execBootStep number ok stamp s := rfl
theorem exec_heartbeat s : exec .heartbeat s = execHeartbeat s := rfl
theorem exec_createContext c s : exec (.createContext c) s = execCreateContext c s := rfl
theorem exec_destroyContext c s : exec (.destroyContext c) s = execDestroyContext c s := rfl
theorem exec_installKey c key s : exec (.installKey c key) s = execInstallKey c key s := rfl
theorem exec_removeKey c s : exec (.removeKey c) s = execRemoveKey c s := rfl
theorem exec_loadCompressionTable c s : exec (.loadCompressionTable c) s = execLoadCompressionTable c s := rfl
theorem exec_mapQueue c s : exec (.mapQueue c) s = execMapQueue c s := rfl
theorem exec_parkQueue c s : exec (.parkQueue c) s = execParkQueue c s := rfl
theorem exec_unmapQueue c s : exec (.unmapQueue c) s = execUnmapQueue c s := rfl
theorem exec_queueParkComplete queue s : exec (.queueParkComplete queue) s = execQueueParkComplete queue s := rfl
theorem exec_writeRouteEntry c s : exec (.writeRouteEntry c) s = execWriteRouteEntry c s := rfl
theorem exec_attestationReport c s : exec (.attestationReport c) s = execAttestationReport c s := rfl
theorem exec_resetRungQueue queue s : exec (.resetRungQueue queue) s = execResetRungQueue queue s := rfl
theorem exec_resetRungContext ctx s : exec (.resetRungContext ctx) s = execResetRungContext ctx s := rfl
theorem exec_resetRungDie die s : exec (.resetRungDie die) s = execResetRungDie die s := rfl
theorem exec_resetRungModule s : exec .resetRungModule s = execResetRungModule s := rfl
theorem exec_setContextRegister c s : exec (.setContextRegister c) s = execSetContextRegister c s := rfl
theorem exec_bindSignalWord c s : exec (.bindSignalWord c) s = execBindSignalWord c s := rfl
theorem exec_registerNoticeWord c s : exec (.registerNoticeWord c) s = execRegisterNoticeWord c s := rfl
theorem exec_wakeRegisterWrite queue s : exec (.wakeRegisterWrite queue) s = execWakeRegisterWrite queue s := rfl
theorem exec_threadWake queue s : exec (.threadWake queue) s = execThreadWake queue s := rfl
theorem exec_deviceRegisterWrite addr value s : exec (.deviceRegisterWrite addr value) s = execDeviceRegisterWrite addr value s := rfl
theorem exec_tdiConfigWrite tdi s : exec (.tdiConfigWrite tdi) s = execTdiConfigWrite tdi s := rfl
theorem exec_unassignedOpcode order s : exec (.unassignedOpcode order) s = execUnassignedOpcode order s := rfl
theorem exec_coreRelease core s : exec (.coreRelease core) s = execCoreRelease core s := rfl
theorem exec_tdispRequest tdi msg s : exec (.tdispRequest tdi msg) s = execTdispRequest tdi msg s := rfl
theorem exec_hostPortRequest r s : exec (.hostPortRequest r) s = execHostPortRequest r s := rfl
theorem exec_resamplingInterval die slot s : exec (.resamplingInterval die slot) s = execResamplingInterval die slot s := rfl

end Sys2Proof.Machine
end

