-- ==== Sys2Proof/Laws/Store.lean ====
section
/-! SUPPORT. Sparse tables and byte memories: reading what has been written, and the canonical form that every
memory operation keeps. -/

namespace Sys2Proof.Machine

/-! ### Tables -/

section Tables

variable {α : Type}

@[simp] theorem SMap.get_nil (d : α) (k : Nat) : SMap.get d [] k = d := rfl
@[simp] theorem SMap.find_nil (k : Nat) : SMap.find ([] : SMap α) k = none := rfl

theorem SMap.get_eq_find (d : α) (t : SMap α) (k : Nat) : SMap.get d t k = (SMap.find t k).getD d := by
  induction t with
  | nil => rfl
  | cons p t ih =>
    simp only [SMap.get, SMap.find]
    split <;> simp_all

theorem SMap.find_put (t : SMap α) (k j : Nat) (v : α) :
    SMap.find (SMap.put t k v) j = if j = k then some v else SMap.find t j := by
  induction t with
  | nil =>
    simp only [SMap.put, SMap.find]
    by_cases h : k = j
    · simp [h]
    · simp [h, Ne.symm h]
  | cons p t ih =>
    obtain ⟨q, w⟩ := p
    simp only [SMap.put]
    split
    · simp only [SMap.find]
      by_cases h : k = j
      · simp [h]
      · simp [h, Ne.symm h]
    · split
      · subst_vars
        simp only [SMap.find]
        by_cases h : q = j
        · simp [h]
        · simp [h, Ne.symm h]
      · simp only [SMap.find, ih]
        by_cases h : q = j
        · simp [h, show j ≠ k by omega]
        · simp [h]

@[simp] theorem SMap.find_put_self (t : SMap α) (k : Nat) (v : α) : SMap.find (SMap.put t k v) k = some v := by
  simp [SMap.find_put]

theorem SMap.find_put_other (t : SMap α) {k j : Nat} (v : α) (h : j ≠ k) :
    SMap.find (SMap.put t k v) j = SMap.find t j := by
  simp [SMap.find_put, h]

theorem SMap.get_put (d : α) (t : SMap α) (k j : Nat) (v : α) :
    SMap.get d (SMap.put t k v) j = if j = k then v else SMap.get d t j := by
  rw [SMap.get_eq_find, SMap.find_put]
  split <;> simp [SMap.get_eq_find]

@[simp] theorem SMap.get_put_self (d : α) (t : SMap α) (k : Nat) (v : α) : SMap.get d (SMap.put t k v) k = v := by
  simp [SMap.get_put]

theorem SMap.get_put_other (d : α) (t : SMap α) {k j : Nat} (v : α) (h : j ≠ k) :
    SMap.get d (SMap.put t k v) j = SMap.get d t j := by
  simp [SMap.get_put, h]

theorem SMap.find_erase (t : SMap α) (k j : Nat) :
    SMap.find (SMap.erase t k) j = if j = k then none else SMap.find t j := by
  induction t with
  | nil => simp [SMap.erase, SMap.find]
  | cons p t ih =>
    obtain ⟨q, w⟩ := p
    unfold SMap.erase at ih
    by_cases hq : q = k
    · subst hq
      simp only [SMap.erase, List.filter_cons, SMap.find]
      by_cases h : j = q
      · subst h
        simpa using ih
      · simp [h, Ne.symm h, ih]
    · simp only [SMap.erase, List.filter_cons, SMap.find]
      by_cases h : q = j
      · subst h
        simp [hq, SMap.find]
      · simp [hq, SMap.find, h, ih]

theorem SMap.get_erase (d : α) (t : SMap α) (k j : Nat) :
    SMap.get d (SMap.erase t k) j = if j = k then d else SMap.get d t j := by
  rw [SMap.get_eq_find, SMap.find_erase]
  split <;> simp [SMap.get_eq_find]

theorem SMap.get_set [DecidableEq α] (d : α) (t : SMap α) (k j : Nat) (v : α) :
    SMap.get d (SMap.set d t k v) j = if j = k then v else SMap.get d t j := by
  unfold SMap.set
  split
  · next h => rw [SMap.get_erase, h]
  · exact SMap.get_put d t k j v

@[simp] theorem SMap.get_set_self [DecidableEq α] (d : α) (t : SMap α) (k : Nat) (v : α) :
    SMap.get d (SMap.set d t k v) k = v := by
  simp [SMap.get_set]

theorem SMap.get_set_other [DecidableEq α] (d : α) (t : SMap α) {k j : Nat} (v : α) (h : j ≠ k) :
    SMap.get d (SMap.set d t k v) j = SMap.get d t j := by
  simp [SMap.get_set, h]

/-! Strictly ascending keys. -/

theorem SMap.sorted_iff (t : SMap α) : SMap.sorted t = true ↔ t.Pairwise fun p q => p.1 < q.1 := by
  simp [SMap.sorted]

theorem SMap.sorted_nil : SMap.sorted ([] : SMap α) = true := by simp [SMap.sorted]

theorem SMap.mem_put (t : SMap α) (k : Nat) (v : α) (p : Nat × α) (h : p ∈ SMap.put t k v) : p = (k, v) ∨ p ∈ t := by
  induction t with
  | nil => simpa [SMap.put] using h
  | cons q t ih =>
    obtain ⟨a, b⟩ := q
    simp only [SMap.put] at h
    split at h
    · simpa using h
    · split at h
      · rcases List.mem_cons.1 h with h | h
        · exact .inl h
        · exact .inr (List.mem_cons_of_mem _ h)
      · rcases List.mem_cons.1 h with h | h
        · exact .inr (h ▸ List.mem_cons_self)
        · rcases ih h with h | h
          · exact .inl h
          · exact .inr (List.mem_cons_of_mem _ h)

theorem SMap.sorted_put (t : SMap α) (k : Nat) (v : α) (h : SMap.sorted t = true) :
    SMap.sorted (SMap.put t k v) = true := by
  rw [SMap.sorted_iff] at *
  induction t with
  | nil => simp [SMap.put]
  | cons q t ih =>
    obtain ⟨a, b⟩ := q
    rw [List.pairwise_cons] at h
    simp only [SMap.put]
    split
    · next hk =>
      refine List.pairwise_cons.2 ⟨?_, List.pairwise_cons.2 h⟩
      intro p hp
      rcases List.mem_cons.1 hp with rfl | hp
      · exact hk
      · exact Nat.lt_trans hk (h.1 p hp)
    · split
      · next hk =>
        subst hk
        exact List.pairwise_cons.2 h
      · refine List.pairwise_cons.2 ⟨?_, ih h.2⟩
        intro p hp
        rcases SMap.mem_put t k v p hp with rfl | hp
        · simp only at *
          omega
        · exact h.1 p hp

theorem SMap.sorted_filter (t : SMap α) (f : Nat × α → Bool) (h : SMap.sorted t = true) :
    SMap.sorted (t.filter f) = true := by
  rw [SMap.sorted_iff] at *
  exact h.filter f

theorem SMap.sorted_erase (t : SMap α) (k : Nat) (h : SMap.sorted t = true) : SMap.sorted (SMap.erase t k) = true :=
  SMap.sorted_filter t _ h

theorem SMap.sorted_set [DecidableEq α] (d : α) (t : SMap α) (k : Nat) (v : α) (h : SMap.sorted t = true) :
    SMap.sorted (SMap.set d t k v) = true := by
  unfold SMap.set
  split
  · exact SMap.sorted_erase t k h
  · exact SMap.sorted_put t k v h

theorem SMap.sorted_mapValues (t : SMap α) {β : Type} (f : Nat × α → β) (h : SMap.sorted t = true) :
    SMap.sorted (t.map fun p => (p.1, f p)) = true := by
  rw [SMap.sorted_iff] at *
  rw [List.pairwise_map]
  exact h

end Tables

/-! ### Byte memories -/

theorem Memory.read_write (m : Memory) (a x : Nat) (b : Byte) :
    Memory.read (Memory.write m a b) x = if x = a then b else Memory.read m x :=
  SMap.get_set _ m a x b

@[simp] theorem Memory.read_write_self (m : Memory) (a : Nat) (b : Byte) :
    Memory.read (Memory.write m a b) a = b := by
  simp [Memory.read_write]

theorem Memory.read_write_other (m : Memory) {a x : Nat} (b : Byte) (h : x ≠ a) :
    Memory.read (Memory.write m a b) x = Memory.read m x := by
  simp [Memory.read_write, h]

theorem Memory.wf_iff (m : Memory) :
    Memory.wf m = true ↔ SMap.sorted m = true ∧ ∀ c ∈ m, c.2 ≠ Memory.unwritten := by
  simp [Memory.wf]

theorem Memory.wf_nil : Memory.wf [] = true := by decide

/-- A write of one byte keeps the canonical form. -/
theorem Memory.wf_write (m : Memory) (a : Nat) (b : Byte) (h : Memory.wf m = true) :
    Memory.wf (Memory.write m a b) = true := by
  rw [Memory.wf_iff] at *
  refine ⟨SMap.sorted_set _ m a b h.1, ?_⟩
  unfold Memory.write SMap.set
  split
  · intro c hc
    exact h.2 c (List.mem_filter.1 hc).1
  · next hb =>
    intro c hc
    rcases SMap.mem_put m a b c hc with rfl | hc
    · exact hb
    · exact h.2 c hc

/-- A write of a number keeps the canonical form. -/
theorem Memory.wf_writeNat (n a v : Nat) (m : Memory) (h : Memory.wf m = true) :
    Memory.wf (Memory.writeNat m a n v) = true := by
  induction n generalizing m a v with
  | zero => exact h
  | succ n ih => exact ih _ _ _ (Memory.wf_write _ _ _ h)

/-- A write of a list of bytes keeps the canonical form. -/
theorem Memory.wf_writeBytes (l : List Byte) (m : Memory) (a : Nat) (h : Memory.wf m = true) :
    Memory.wf (Memory.writeBytes m a l) = true := by
  induction l generalizing m a with
  | nil => exact h
  | cons b t ih => exact ih _ _ (Memory.wf_write _ _ _ h)

/-- Writes that a list drives, each of one byte or none, keep the canonical form. -/
theorem Memory.wf_foldl {β : Type} (l : List β) (f : Memory → β → Memory)
    (hf : ∀ m x, Memory.wf m = true → Memory.wf (f m x) = true) (m : Memory) (h : Memory.wf m = true) :
    Memory.wf (l.foldl f m) = true := by
  induction l generalizing m with
  | nil => exact h
  | cons b t ih => exact ih _ (hf _ _ h)

/-- Byte `i` of a number that is read from memory is the byte at that address (R5). -/
theorem Memory.readNat_digit (m : Memory) (n : Nat) : ∀ a i, i < n → Memory.readNat m a n / 2 ^ (8 * i) % 2 ^ (8 * 1) = (Memory.read m (a + i)).toNat := by
  induction n with
  | zero => intro a i h; omega
  | succ n ih =>
    intro a i h
    have hb := (Memory.read m a).isLt
    cases i with
    | zero => simp [Memory.readNat]; omega
    | succ i =>
      have e := ih (a + 1) i (by omega)
      have hp : 2 ^ (8 * (i + 1)) = 256 * 2 ^ (8 * i) := by rw [show 8 * (i + 1) = 8 + 8 * i by omega, Nat.pow_add]
      rw [Memory.readNat, hp, ← Nat.div_div_eq_div_mul, show a + (i + 1) = a + 1 + i by omega, ← e]
      congr 2
      omega

theorem Memory.readNat_lt (m : Memory) (n : Nat) : ∀ a, Memory.readNat m a n < 2 ^ (8 * n) := by
  induction n with
  | zero => intro a; simp [Memory.readNat]
  | succ n ih =>
    intro a
    have hb := (Memory.read m a).isLt
    have h := ih (a + 1)
    have hp : 2 ^ (8 * (n + 1)) = 256 * 2 ^ (8 * n) := by rw [show 8 * (n + 1) = 8 + 8 * n by omega, Nat.pow_add]
    rw [Memory.readNat, hp]
    omega

/-- Memories with equal bytes are equal data. -/
theorem Memory.ext_of_wf (m n : Memory) (hm : Memory.wf m = true) (hn : Memory.wf n = true)
    (h : ∀ a, Memory.read m a = Memory.read n a) : m = n := by
  rw [Memory.wf_iff, SMap.sorted_iff] at hm hn
  induction m generalizing n with
  | nil =>
    cases n with
    | nil => rfl
    | cons q n =>
      have := h q.1
      simp only [Memory.read, SMap.get, ↓reduceIte] at this
      exact absurd this.symm (hn.2 q (by simp))
  | cons p m ih =>
    have below : ∀ (l : Memory) (k : Nat), (∀ c ∈ l, k < c.1) → SMap.get Memory.unwritten l k = Memory.unwritten := by
      intro l k hl
      induction l with
      | nil => rfl
      | cons c l ihl =>
        have : c.1 ≠ k := Nat.ne_of_gt (hl c (by simp))
        simp only [SMap.get, this, ↓reduceIte]
        exact ihl fun x hx => hl x (by simp [hx])
    cases n with
    | nil =>
      have := h p.1
      simp only [Memory.read, SMap.get, ↓reduceIte] at this
      exact absurd this (hm.2 p (by simp))
    | cons q n =>
      have hp := List.pairwise_cons.1 hm.1
      have hq := List.pairwise_cons.1 hn.1
      have key : p.1 = q.1 := by
        rcases Nat.lt_trichotomy p.1 q.1 with hlt | heq | hgt
        · have e := h p.1
          simp only [Memory.read, SMap.get, ↓reduceIte, Nat.ne_of_gt hlt] at e
          rw [below n p.1 fun c hc => Nat.lt_trans hlt (hq.1 c hc)] at e
          exact absurd e (hm.2 p (by simp))
        · exact heq
        · have e := h q.1
          simp only [Memory.read, SMap.get, ↓reduceIte, Nat.ne_of_gt hgt] at e
          rw [below m q.1 fun c hc => Nat.lt_trans hgt (hp.1 c hc)] at e
          exact absurd e.symm (hn.2 q (by simp))
      have val : p.2 = q.2 := by
        have e := h p.1
        simpa [Memory.read, SMap.get, key] using e
      have tail : m = n := by
        refine ih n ⟨hp.2, fun c hc => hm.2 c (by simp [hc])⟩ ⟨hq.2, fun c hc => hn.2 c (by simp [hc])⟩ ?_
        intro a
        by_cases ha : p.1 = a
        · subst ha
          rw [Memory.read, Memory.read, below m p.1 fun c hc => hp.1 c hc, below n p.1 fun c hc => by
            rw [key]; exact hq.1 c hc]
        · have e := h a
          simpa [Memory.read, SMap.get, ha, key ▸ ha] using e
      rw [tail, Prod.ext key val]

end Sys2Proof.Machine
end

