-- ==== Sys2Proof/Laws/State.lean ====
section
/-! SUPPORT. What each update of a state, and of a core, leaves and changes: one lemma for each field. -/

namespace Sys2Proof.Machine

/-! ### Updates of the state -/

@[simp] theorem State.setCore_time (s : State) (n : Nat) (c : Core) : (s.setCore n c).time = s.time := rfl
@[simp] theorem State.setCore_evTurn (s : State) (n : Nat) (c : Core) : (s.setCore n c).evTurn = s.evTurn := rfl
@[simp] theorem State.setCore_events (s : State) (n : Nat) (c : Core) : (s.setCore n c).events = s.events := rfl
@[simp] theorem State.setCore_turn (s : State) (n : Nat) (c : Core) : (s.setCore n c).turn = s.turn := rfl
@[simp] theorem State.setCore_core (s : State) (n : Nat) (c : Core) : (s.setCore n c).core = s.core := rfl
@[simp] theorem State.setCore_str (s : State) (n : Nat) (c : Core) : (s.setCore n c).str = s.str := rfl
@[simp] theorem State.setCore_fresh (s : State) (n : Nat) (c : Core) : (s.setCore n c).fresh = s.fresh := rfl
@[simp] theorem State.setCore_mem (s : State) (n : Nat) (c : Core) : (s.setCore n c).mem = s.mem := rfl
@[simp] theorem State.setCore_hostMem (s : State) (n : Nat) (c : Core) : (s.setCore n c).hostMem = s.hostMem := rfl
@[simp] theorem State.setCore_poison (s : State) (n : Nat) (c : Core) : (s.setCore n c).poison = s.poison := rfl
@[simp] theorem State.setCore_dies (s : State) (n : Nat) (c : Core) : (s.setCore n c).dies = s.dies := rfl
@[simp] theorem State.setCore_ctxs (s : State) (n : Nat) (c : Core) : (s.setCore n c).ctxs = s.ctxs := rfl
@[simp] theorem State.setCore_homes (s : State) (n : Nat) (c : Core) : (s.setCore n c).homes = s.homes := rfl
@[simp] theorem State.setCore_fab (s : State) (n : Nat) (c : Core) : (s.setCore n c).fab = s.fab := rfl
@[simp] theorem State.setCore_mgmt (s : State) (n : Nat) (c : Core) : (s.setCore n c).mgmt = s.mgmt := rfl

@[simp] theorem State.modCore_time (s : State) (n : Nat) (f : Core → Core) : (s.modCore n f).time = s.time := rfl
@[simp] theorem State.modCore_evTurn (s : State) (n : Nat) (f : Core → Core) : (s.modCore n f).evTurn = s.evTurn := rfl
@[simp] theorem State.modCore_events (s : State) (n : Nat) (f : Core → Core) : (s.modCore n f).events = s.events := rfl
@[simp] theorem State.modCore_turn (s : State) (n : Nat) (f : Core → Core) : (s.modCore n f).turn = s.turn := rfl
@[simp] theorem State.modCore_core (s : State) (n : Nat) (f : Core → Core) : (s.modCore n f).core = s.core := rfl
@[simp] theorem State.modCore_str (s : State) (n : Nat) (f : Core → Core) : (s.modCore n f).str = s.str := rfl
@[simp] theorem State.modCore_fresh (s : State) (n : Nat) (f : Core → Core) : (s.modCore n f).fresh = s.fresh := rfl
@[simp] theorem State.modCore_mem (s : State) (n : Nat) (f : Core → Core) : (s.modCore n f).mem = s.mem := rfl
@[simp] theorem State.modCore_hostMem (s : State) (n : Nat) (f : Core → Core) : (s.modCore n f).hostMem = s.hostMem := rfl
@[simp] theorem State.modCore_poison (s : State) (n : Nat) (f : Core → Core) : (s.modCore n f).poison = s.poison := rfl
@[simp] theorem State.modCore_dies (s : State) (n : Nat) (f : Core → Core) : (s.modCore n f).dies = s.dies := rfl
@[simp] theorem State.modCore_ctxs (s : State) (n : Nat) (f : Core → Core) : (s.modCore n f).ctxs = s.ctxs := rfl
@[simp] theorem State.modCore_homes (s : State) (n : Nat) (f : Core → Core) : (s.modCore n f).homes = s.homes := rfl
@[simp] theorem State.modCore_fab (s : State) (n : Nat) (f : Core → Core) : (s.modCore n f).fab = s.fab := rfl
@[simp] theorem State.modCore_mgmt (s : State) (n : Nat) (f : Core → Core) : (s.modCore n f).mgmt = s.mgmt := rfl

@[simp] theorem State.modCur_time (s : State) (f : Core → Core) : (s.modCur f).time = s.time := rfl
@[simp] theorem State.modCur_evTurn (s : State) (f : Core → Core) : (s.modCur f).evTurn = s.evTurn := rfl
@[simp] theorem State.modCur_events (s : State) (f : Core → Core) : (s.modCur f).events = s.events := rfl
@[simp] theorem State.modCur_turn (s : State) (f : Core → Core) : (s.modCur f).turn = s.turn := rfl
@[simp] theorem State.modCur_core (s : State) (f : Core → Core) : (s.modCur f).core = s.core := rfl
@[simp] theorem State.modCur_str (s : State) (f : Core → Core) : (s.modCur f).str = s.str := rfl
@[simp] theorem State.modCur_fresh (s : State) (f : Core → Core) : (s.modCur f).fresh = s.fresh := rfl
@[simp] theorem State.modCur_mem (s : State) (f : Core → Core) : (s.modCur f).mem = s.mem := rfl
@[simp] theorem State.modCur_hostMem (s : State) (f : Core → Core) : (s.modCur f).hostMem = s.hostMem := rfl
@[simp] theorem State.modCur_poison (s : State) (f : Core → Core) : (s.modCur f).poison = s.poison := rfl
@[simp] theorem State.modCur_dies (s : State) (f : Core → Core) : (s.modCur f).dies = s.dies := rfl
@[simp] theorem State.modCur_ctxs (s : State) (f : Core → Core) : (s.modCur f).ctxs = s.ctxs := rfl
@[simp] theorem State.modCur_homes (s : State) (f : Core → Core) : (s.modCur f).homes = s.homes := rfl
@[simp] theorem State.modCur_fab (s : State) (f : Core → Core) : (s.modCur f).fab = s.fab := rfl
@[simp] theorem State.modCur_mgmt (s : State) (f : Core → Core) : (s.modCur f).mgmt = s.mgmt := rfl

@[simp] theorem State.modDie_time (s : State) (n : Nat) (f : Die → Die) : (s.modDie n f).time = s.time := rfl
@[simp] theorem State.modDie_evTurn (s : State) (n : Nat) (f : Die → Die) : (s.modDie n f).evTurn = s.evTurn := rfl
@[simp] theorem State.modDie_events (s : State) (n : Nat) (f : Die → Die) : (s.modDie n f).events = s.events := rfl
@[simp] theorem State.modDie_turn (s : State) (n : Nat) (f : Die → Die) : (s.modDie n f).turn = s.turn := rfl
@[simp] theorem State.modDie_core (s : State) (n : Nat) (f : Die → Die) : (s.modDie n f).core = s.core := rfl
@[simp] theorem State.modDie_str (s : State) (n : Nat) (f : Die → Die) : (s.modDie n f).str = s.str := rfl
@[simp] theorem State.modDie_fresh (s : State) (n : Nat) (f : Die → Die) : (s.modDie n f).fresh = s.fresh := rfl
@[simp] theorem State.modDie_mem (s : State) (n : Nat) (f : Die → Die) : (s.modDie n f).mem = s.mem := rfl
@[simp] theorem State.modDie_hostMem (s : State) (n : Nat) (f : Die → Die) : (s.modDie n f).hostMem = s.hostMem := rfl
@[simp] theorem State.modDie_poison (s : State) (n : Nat) (f : Die → Die) : (s.modDie n f).poison = s.poison := rfl
@[simp] theorem State.modDie_cores (s : State) (n : Nat) (f : Die → Die) : (s.modDie n f).cores = s.cores := rfl
@[simp] theorem State.modDie_ctxs (s : State) (n : Nat) (f : Die → Die) : (s.modDie n f).ctxs = s.ctxs := rfl
@[simp] theorem State.modDie_homes (s : State) (n : Nat) (f : Die → Die) : (s.modDie n f).homes = s.homes := rfl
@[simp] theorem State.modDie_fab (s : State) (n : Nat) (f : Die → Die) : (s.modDie n f).fab = s.fab := rfl
@[simp] theorem State.modDie_mgmt (s : State) (n : Nat) (f : Die → Die) : (s.modDie n f).mgmt = s.mgmt := rfl

@[simp] theorem State.modCtx_time (s : State) (n : Nat) (f : Ctx → Ctx) : (s.modCtx n f).time = s.time := rfl
@[simp] theorem State.modCtx_evTurn (s : State) (n : Nat) (f : Ctx → Ctx) : (s.modCtx n f).evTurn = s.evTurn := rfl
@[simp] theorem State.modCtx_events (s : State) (n : Nat) (f : Ctx → Ctx) : (s.modCtx n f).events = s.events := rfl
@[simp] theorem State.modCtx_turn (s : State) (n : Nat) (f : Ctx → Ctx) : (s.modCtx n f).turn = s.turn := rfl
@[simp] theorem State.modCtx_core (s : State) (n : Nat) (f : Ctx → Ctx) : (s.modCtx n f).core = s.core := rfl
@[simp] theorem State.modCtx_str (s : State) (n : Nat) (f : Ctx → Ctx) : (s.modCtx n f).str = s.str := rfl
@[simp] theorem State.modCtx_fresh (s : State) (n : Nat) (f : Ctx → Ctx) : (s.modCtx n f).fresh = s.fresh := rfl
@[simp] theorem State.modCtx_mem (s : State) (n : Nat) (f : Ctx → Ctx) : (s.modCtx n f).mem = s.mem := rfl
@[simp] theorem State.modCtx_hostMem (s : State) (n : Nat) (f : Ctx → Ctx) : (s.modCtx n f).hostMem = s.hostMem := rfl
@[simp] theorem State.modCtx_poison (s : State) (n : Nat) (f : Ctx → Ctx) : (s.modCtx n f).poison = s.poison := rfl
@[simp] theorem State.modCtx_cores (s : State) (n : Nat) (f : Ctx → Ctx) : (s.modCtx n f).cores = s.cores := rfl
@[simp] theorem State.modCtx_dies (s : State) (n : Nat) (f : Ctx → Ctx) : (s.modCtx n f).dies = s.dies := rfl
@[simp] theorem State.modCtx_homes (s : State) (n : Nat) (f : Ctx → Ctx) : (s.modCtx n f).homes = s.homes := rfl
@[simp] theorem State.modCtx_fab (s : State) (n : Nat) (f : Ctx → Ctx) : (s.modCtx n f).fab = s.fab := rfl
@[simp] theorem State.modCtx_mgmt (s : State) (n : Nat) (f : Ctx → Ctx) : (s.modCtx n f).mgmt = s.mgmt := rfl

@[simp] theorem State.modFab_time (s : State) (g : Fabric → Fabric) : (s.modFab g).time = s.time := rfl
@[simp] theorem State.modFab_evTurn (s : State) (g : Fabric → Fabric) : (s.modFab g).evTurn = s.evTurn := rfl
@[simp] theorem State.modFab_events (s : State) (g : Fabric → Fabric) : (s.modFab g).events = s.events := rfl
@[simp] theorem State.modFab_turn (s : State) (g : Fabric → Fabric) : (s.modFab g).turn = s.turn := rfl
@[simp] theorem State.modFab_core (s : State) (g : Fabric → Fabric) : (s.modFab g).core = s.core := rfl
@[simp] theorem State.modFab_str (s : State) (g : Fabric → Fabric) : (s.modFab g).str = s.str := rfl
@[simp] theorem State.modFab_fresh (s : State) (g : Fabric → Fabric) : (s.modFab g).fresh = s.fresh := rfl
@[simp] theorem State.modFab_mem (s : State) (g : Fabric → Fabric) : (s.modFab g).mem = s.mem := rfl
@[simp] theorem State.modFab_hostMem (s : State) (g : Fabric → Fabric) : (s.modFab g).hostMem = s.hostMem := rfl
@[simp] theorem State.modFab_poison (s : State) (g : Fabric → Fabric) : (s.modFab g).poison = s.poison := rfl
@[simp] theorem State.modFab_cores (s : State) (g : Fabric → Fabric) : (s.modFab g).cores = s.cores := rfl
@[simp] theorem State.modFab_dies (s : State) (g : Fabric → Fabric) : (s.modFab g).dies = s.dies := rfl
@[simp] theorem State.modFab_ctxs (s : State) (g : Fabric → Fabric) : (s.modFab g).ctxs = s.ctxs := rfl
@[simp] theorem State.modFab_homes (s : State) (g : Fabric → Fabric) : (s.modFab g).homes = s.homes := rfl
@[simp] theorem State.modFab_mgmt (s : State) (g : Fabric → Fabric) : (s.modFab g).mgmt = s.mgmt := rfl
@[simp] theorem State.modFab_fab (s : State) (g : Fabric → Fabric) : (s.modFab g).fab = g s.fab := rfl

@[simp] theorem State.post_time (s : State) (l : List Event) : (s.post l).time = s.time := rfl
@[simp] theorem State.post_evTurn (s : State) (l : List Event) : (s.post l).evTurn = s.evTurn := rfl
@[simp] theorem State.post_turn (s : State) (l : List Event) : (s.post l).turn = s.turn := rfl
@[simp] theorem State.post_core (s : State) (l : List Event) : (s.post l).core = s.core := rfl
@[simp] theorem State.post_str (s : State) (l : List Event) : (s.post l).str = s.str := rfl
@[simp] theorem State.post_fresh (s : State) (l : List Event) : (s.post l).fresh = s.fresh := rfl
@[simp] theorem State.post_mem (s : State) (l : List Event) : (s.post l).mem = s.mem := rfl
@[simp] theorem State.post_hostMem (s : State) (l : List Event) : (s.post l).hostMem = s.hostMem := rfl
@[simp] theorem State.post_poison (s : State) (l : List Event) : (s.post l).poison = s.poison := rfl
@[simp] theorem State.post_cores (s : State) (l : List Event) : (s.post l).cores = s.cores := rfl
@[simp] theorem State.post_dies (s : State) (l : List Event) : (s.post l).dies = s.dies := rfl
@[simp] theorem State.post_ctxs (s : State) (l : List Event) : (s.post l).ctxs = s.ctxs := rfl
@[simp] theorem State.post_homes (s : State) (l : List Event) : (s.post l).homes = s.homes := rfl
@[simp] theorem State.post_fab (s : State) (l : List Event) : (s.post l).fab = s.fab := rfl
@[simp] theorem State.post_mgmt (s : State) (l : List Event) : (s.post l).mgmt = s.mgmt := rfl

@[simp] theorem State.post_events (s : State) (l : List Event) : (s.post l).events = s.events ++ l := rfl

/-! ### Reading a table of the state back -/

@[simp] theorem State.coreAt_setCore (s : State) (n m : Nat) (c : Core) :
    (s.setCore n c).coreAt m = if m = n then c else s.coreAt m :=
  SMap.get_put _ _ n m c

theorem State.coreAt_modCore (s : State) (n m : Nat) (f : Core → Core) :
    (s.modCore n f).coreAt m = if m = n then f (s.coreAt n) else s.coreAt m :=
  SMap.get_put _ _ n m _

@[simp] theorem State.coreAt_modCore_self (s : State) (n : Nat) (f : Core → Core) :
    (s.modCore n f).coreAt n = f (s.coreAt n) := by
  simp [State.coreAt_modCore]

theorem State.coreAt_modCore_other (s : State) {n m : Nat} (f : Core → Core) (h : m ≠ n) :
    (s.modCore n f).coreAt m = s.coreAt m := by
  simp [State.coreAt_modCore, h]

@[simp] theorem State.cur_modCur (s : State) (f : Core → Core) : (s.modCur f).cur = f s.cur :=
  State.coreAt_modCore_self s s.core f

theorem State.coreAt_modCur_other (s : State) {m : Nat} (f : Core → Core) (h : m ≠ s.core) :
    (s.modCur f).coreAt m = s.coreAt m :=
  State.coreAt_modCore_other s f h

theorem State.modCur_modCur (s : State) (f g : Core → Core) : (s.modCur f).modCur g = s.modCur fun c => g (f c) := by
  have h : ∀ (t : SMap Core) k v w, SMap.put (SMap.put t k v) k w = SMap.put t k w := by
    intro t k v w
    induction t with
    | nil => simp [SMap.put]
    | cons p t ih =>
      obtain ⟨q, u⟩ := p
      simp only [SMap.put]
      by_cases h1 : k < q
      · simp [h1, SMap.put]
      · by_cases h2 : k = q
        · simp [h2, SMap.put]
        · simp [h1, h2, SMap.put, ih]
  simp [State.modCur, State.modCore, State.setCore, State.coreAt, h]

@[simp] theorem State.dieAt_modDie_self (s : State) (d : Nat) (f : Die → Die) :
    (s.modDie d f).dieAt d = f (s.dieAt d) :=
  SMap.get_put_self _ _ d _

theorem State.dieAt_modDie (s : State) (d e : Nat) (f : Die → Die) :
    (s.modDie d f).dieAt e = if e = d then f (s.dieAt d) else s.dieAt e :=
  SMap.get_put _ _ d e _

@[simp] theorem State.ctxAt_modCtx_self (s : State) (c : Nat) (f : Ctx → Ctx) :
    (s.modCtx c f).ctxAt c = f (s.ctxAt c) :=
  SMap.get_put_self _ _ c _

theorem State.ctxAt_modCtx (s : State) (c e : Nat) (f : Ctx → Ctx) :
    (s.modCtx c f).ctxAt e = if e = c then f (s.ctxAt c) else s.ctxAt e :=
  SMap.get_put _ _ c e _

@[simp] theorem State.dieAt_modCore (s : State) (n d : Nat) (f : Core → Core) :
    (s.modCore n f).dieAt d = s.dieAt d := rfl
@[simp] theorem State.ctxAt_modCore (s : State) (n c : Nat) (f : Core → Core) :
    (s.modCore n f).ctxAt c = s.ctxAt c := rfl
@[simp] theorem State.dieAt_modCur (s : State) (d : Nat) (f : Core → Core) : (s.modCur f).dieAt d = s.dieAt d := rfl
@[simp] theorem State.ctxAt_modCur (s : State) (c : Nat) (f : Core → Core) : (s.modCur f).ctxAt c = s.ctxAt c := rfl
@[simp] theorem State.coreAt_modDie (s : State) (n d : Nat) (f : Die → Die) : (s.modDie d f).coreAt n = s.coreAt n := rfl
@[simp] theorem State.coreAt_modCtx (s : State) (n c : Nat) (f : Ctx → Ctx) : (s.modCtx c f).coreAt n = s.coreAt n := rfl
@[simp] theorem State.coreAt_post (s : State) (n : Nat) (l : List Event) : (s.post l).coreAt n = s.coreAt n := rfl

/-! ### Updates of a core -/

@[simp] theorem Core.stream_setStream (c : Core) (st : Stream) (v : StreamState) :
    (c.setStream st v).stream st = v := by cases st <;> rfl
theorem Core.stream_setStream_other (c : Core) {st u : Stream} (v : StreamState) (h : u ≠ st) :
    (c.setStream st v).stream u = c.stream u := by
  cases st <;> cases u <;> first | rfl | exact absurd rfl h
@[simp] theorem Core.stream_modStream (c : Core) (st : Stream) (f : StreamState → StreamState) :
    (c.modStream st f).stream st = f (c.stream st) := Core.stream_setStream _ _ _

@[simp] theorem Core.setStream_mode (c : Core) (st : Stream) (v : StreamState) : (c.setStream st v).mode = c.mode := by cases st <;> rfl
@[simp] theorem Core.modStream_mode (c : Core) (st : Stream) (g : StreamState → StreamState) : (c.modStream st g).mode = c.mode := Core.setStream_mode _ _ _
@[simp] theorem Core.setStream_recDie (c : Core) (st : Stream) (v : StreamState) : (c.setStream st v).recDie = c.recDie := by cases st <;> rfl
@[simp] theorem Core.modStream_recDie (c : Core) (st : Stream) (g : StreamState → StreamState) : (c.modStream st g).recDie = c.recDie := Core.setStream_recDie _ _ _
@[simp] theorem Core.setStream_recSlot (c : Core) (st : Stream) (v : StreamState) : (c.setStream st v).recSlot = c.recSlot := by cases st <;> rfl
@[simp] theorem Core.modStream_recSlot (c : Core) (st : Stream) (g : StreamState → StreamState) : (c.modStream st g).recSlot = c.recSlot := Core.setStream_recSlot _ _ _
@[simp] theorem Core.setStream_ctx (c : Core) (st : Stream) (v : StreamState) : (c.setStream st v).ctx = c.ctx := by cases st <;> rfl
@[simp] theorem Core.modStream_ctx (c : Core) (st : Stream) (g : StreamState → StreamState) : (c.modStream st g).ctx = c.ctx := Core.setStream_ctx _ _ _
@[simp] theorem Core.setStream_launchDie (c : Core) (st : Stream) (v : StreamState) : (c.setStream st v).launchDie = c.launchDie := by cases st <;> rfl
@[simp] theorem Core.modStream_launchDie (c : Core) (st : Stream) (g : StreamState → StreamState) : (c.modStream st g).launchDie = c.launchDie := Core.setStream_launchDie _ _ _
@[simp] theorem Core.setStream_launch (c : Core) (st : Stream) (v : StreamState) : (c.setStream st v).launch = c.launch := by cases st <;> rfl
@[simp] theorem Core.modStream_launch (c : Core) (st : Stream) (g : StreamState → StreamState) : (c.modStream st g).launch = c.launch := Core.setStream_launch _ _ _
@[simp] theorem Core.setStream_group (c : Core) (st : Stream) (v : StreamState) : (c.setStream st v).group = c.group := by cases st <;> rfl
@[simp] theorem Core.modStream_group (c : Core) (st : Stream) (g : StreamState → StreamState) : (c.modStream st g).group = c.group := Core.setStream_group _ _ _
@[simp] theorem Core.setStream_x (c : Core) (st : Stream) (v : StreamState) : (c.setStream st v).x = c.x := by cases st <;> rfl
@[simp] theorem Core.modStream_x (c : Core) (st : Stream) (g : StreamState → StreamState) : (c.modStream st g).x = c.x := Core.setStream_x _ _ _
@[simp] theorem Core.setStream_a (c : Core) (st : Stream) (v : StreamState) : (c.setStream st v).a = c.a := by cases st <;> rfl
@[simp] theorem Core.modStream_a (c : Core) (st : Stream) (g : StreamState → StreamState) : (c.modStream st g).a = c.a := Core.setStream_a _ _ _
@[simp] theorem Core.setStream_e (c : Core) (st : Stream) (v : StreamState) : (c.setStream st v).e = c.e := by cases st <;> rfl
@[simp] theorem Core.modStream_e (c : Core) (st : Stream) (g : StreamState → StreamState) : (c.modStream st g).e = c.e := Core.setStream_e _ _ _
@[simp] theorem Core.setStream_k (c : Core) (st : Stream) (v : StreamState) : (c.setStream st v).k = c.k := by cases st <;> rfl
@[simp] theorem Core.modStream_k (c : Core) (st : Stream) (g : StreamState → StreamState) : (c.modStream st g).k = c.k := Core.setStream_k _ _ _
@[simp] theorem Core.setStream_v (c : Core) (st : Stream) (v : StreamState) : (c.setStream st v).v = c.v := by cases st <;> rfl
@[simp] theorem Core.modStream_v (c : Core) (st : Stream) (g : StreamState → StreamState) : (c.modStream st g).v = c.v := Core.setStream_v _ _ _
@[simp] theorem Core.setStream_m (c : Core) (st : Stream) (v : StreamState) : (c.setStream st v).m = c.m := by cases st <;> rfl
@[simp] theorem Core.modStream_m (c : Core) (st : Stream) (g : StreamState → StreamState) : (c.modStream st g).m = c.m := Core.setStream_m _ _ _
@[simp] theorem Core.setStream_ck (c : Core) (st : Stream) (v : StreamState) : (c.setStream st v).ck = c.ck := by cases st <;> rfl
@[simp] theorem Core.modStream_ck (c : Core) (st : Stream) (g : StreamState → StreamState) : (c.modStream st g).ck = c.ck := Core.setStream_ck _ _ _
@[simp] theorem Core.setStream_lq (c : Core) (st : Stream) (v : StreamState) : (c.setStream st v).lq = c.lq := by cases st <;> rfl
@[simp] theorem Core.modStream_lq (c : Core) (st : Stream) (g : StreamState → StreamState) : (c.modStream st g).lq = c.lq := Core.setStream_lq _ _ _
@[simp] theorem Core.setStream_sq (c : Core) (st : Stream) (v : StreamState) : (c.setStream st v).sq = c.sq := by cases st <;> rfl
@[simp] theorem Core.modStream_sq (c : Core) (st : Stream) (g : StreamState → StreamState) : (c.modStream st g).sq = c.sq := Core.setStream_sq _ _ _
@[simp] theorem Core.setStream_reqs (c : Core) (st : Stream) (v : StreamState) : (c.setStream st v).reqs = c.reqs := by cases st <;> rfl
@[simp] theorem Core.modStream_reqs (c : Core) (st : Stream) (g : StreamState → StreamState) : (c.modStream st g).reqs = c.reqs := Core.setStream_reqs _ _ _
@[simp] theorem Core.setStream_cwait (c : Core) (st : Stream) (v : StreamState) : (c.setStream st v).cwait = c.cwait := by cases st <;> rfl
@[simp] theorem Core.modStream_cwait (c : Core) (st : Stream) (g : StreamState → StreamState) : (c.modStream st g).cwait = c.cwait := Core.setStream_cwait _ _ _
@[simp] theorem Core.setStream_inflight (c : Core) (st : Stream) (v : StreamState) : (c.setStream st v).inflight = c.inflight := by cases st <;> rfl
@[simp] theorem Core.modStream_inflight (c : Core) (st : Stream) (g : StreamState → StreamState) : (c.modStream st g).inflight = c.inflight := Core.setStream_inflight _ _ _
@[simp] theorem Core.setStream_cont (c : Core) (st : Stream) (v : StreamState) : (c.setStream st v).cont = c.cont := by cases st <;> rfl
@[simp] theorem Core.modStream_cont (c : Core) (st : Stream) (g : StreamState → StreamState) : (c.modStream st g).cont = c.cont := Core.setStream_cont _ _ _
@[simp] theorem Core.setStream_pendC (c : Core) (st : Stream) (v : StreamState) : (c.setStream st v).pendC = c.pendC := by cases st <;> rfl
@[simp] theorem Core.modStream_pendC (c : Core) (st : Stream) (g : StreamState → StreamState) : (c.modStream st g).pendC = c.pendC := Core.setStream_pendC _ _ _
@[simp] theorem Core.setStream_pendA (c : Core) (st : Stream) (v : StreamState) : (c.setStream st v).pendA = c.pendA := by cases st <;> rfl
@[simp] theorem Core.modStream_pendA (c : Core) (st : Stream) (g : StreamState → StreamState) : (c.modStream st g).pendA = c.pendA := Core.setStream_pendA _ _ _
@[simp] theorem Core.setStream_pendX (c : Core) (st : Stream) (v : StreamState) : (c.setStream st v).pendX = c.pendX := by cases st <;> rfl
@[simp] theorem Core.modStream_pendX (c : Core) (st : Stream) (g : StreamState → StreamState) : (c.modStream st g).pendX = c.pendX := Core.setStream_pendX _ _ _
@[simp] theorem Core.setStream_binds (c : Core) (st : Stream) (v : StreamState) : (c.setStream st v).binds = c.binds := by cases st <;> rfl
@[simp] theorem Core.modStream_binds (c : Core) (st : Stream) (g : StreamState → StreamState) : (c.modStream st g).binds = c.binds := Core.setStream_binds _ _ _
@[simp] theorem Core.setStream_aview (c : Core) (st : Stream) (v : StreamState) : (c.setStream st v).aview = c.aview := by cases st <;> rfl
@[simp] theorem Core.modStream_aview (c : Core) (st : Stream) (g : StreamState → StreamState) : (c.modStream st g).aview = c.aview := Core.setStream_aview _ _ _
@[simp] theorem Core.setStream_bankrole0 (c : Core) (st : Stream) (v : StreamState) : (c.setStream st v).bankrole0 = c.bankrole0 := by cases st <;> rfl
@[simp] theorem Core.modStream_bankrole0 (c : Core) (st : Stream) (g : StreamState → StreamState) : (c.modStream st g).bankrole0 = c.bankrole0 := Core.setStream_bankrole0 _ _ _
@[simp] theorem Core.setStream_bankrole1 (c : Core) (st : Stream) (v : StreamState) : (c.setStream st v).bankrole1 = c.bankrole1 := by cases st <;> rfl
@[simp] theorem Core.modStream_bankrole1 (c : Core) (st : Stream) (g : StreamState → StreamState) : (c.modStream st g).bankrole1 = c.bankrole1 := Core.setStream_bankrole1 _ _ _
@[simp] theorem Core.setStream_localMem (c : Core) (st : Stream) (v : StreamState) : (c.setStream st v).localMem = c.localMem := by cases st <;> rfl
@[simp] theorem Core.modStream_localMem (c : Core) (st : Stream) (g : StreamState → StreamState) : (c.modStream st g).localMem = c.localMem := Core.setStream_localMem _ _ _
@[simp] theorem Core.setStream_localPoison (c : Core) (st : Stream) (v : StreamState) : (c.setStream st v).localPoison = c.localPoison := by cases st <;> rfl
@[simp] theorem Core.modStream_localPoison (c : Core) (st : Stream) (g : StreamState → StreamState) : (c.modStream st g).localPoison = c.localPoison := Core.setStream_localPoison _ _ _
@[simp] theorem Core.setStream_regPoison (c : Core) (st : Stream) (v : StreamState) : (c.setStream st v).regPoison = c.regPoison := by cases st <;> rfl
@[simp] theorem Core.modStream_regPoison (c : Core) (st : Stream) (g : StreamState → StreamState) : (c.modStream st g).regPoison = c.regPoison := Core.setStream_regPoison _ _ _
@[simp] theorem Core.setStream_resident (c : Core) (st : Stream) (v : StreamState) : (c.setStream st v).resident = c.resident := by cases st <;> rfl
@[simp] theorem Core.modStream_resident (c : Core) (st : Stream) (g : StreamState → StreamState) : (c.modStream st g).resident = c.resident := Core.setStream_resident _ _ _
@[simp] theorem Core.setStream_lines (c : Core) (st : Stream) (v : StreamState) : (c.setStream st v).lines = c.lines := by cases st <;> rfl
@[simp] theorem Core.modStream_lines (c : Core) (st : Stream) (g : StreamState → StreamState) : (c.modStream st g).lines = c.lines := Core.setStream_lines _ _ _
@[simp] theorem Core.setStream_tcache (c : Core) (st : Stream) (v : StreamState) : (c.setStream st v).tcache = c.tcache := by cases st <;> rfl
@[simp] theorem Core.modStream_tcache (c : Core) (st : Stream) (g : StreamState → StreamState) : (c.modStream st g).tcache = c.tcache := Core.setStream_tcache _ _ _
@[simp] theorem Core.setStream_abufTags (c : Core) (st : Stream) (v : StreamState) : (c.setStream st v).abufTags = c.abufTags := by cases st <;> rfl
@[simp] theorem Core.modStream_abufTags (c : Core) (st : Stream) (g : StreamState → StreamState) : (c.modStream st g).abufTags = c.abufTags := Core.setStream_abufTags _ _ _
@[simp] theorem Core.setStream_jobs (c : Core) (st : Stream) (v : StreamState) : (c.setStream st v).jobs = c.jobs := by cases st <;> rfl
@[simp] theorem Core.modStream_jobs (c : Core) (st : Stream) (g : StreamState → StreamState) : (c.modStream st g).jobs = c.jobs := Core.setStream_jobs _ _ _
@[simp] theorem Core.setStream_jobOrder (c : Core) (st : Stream) (v : StreamState) : (c.setStream st v).jobOrder = c.jobOrder := by cases st <;> rfl
@[simp] theorem Core.modStream_jobOrder (c : Core) (st : Stream) (g : StreamState → StreamState) : (c.modStream st g).jobOrder = c.jobOrder := Core.setStream_jobOrder _ _ _
@[simp] theorem Core.setStream_matrix (c : Core) (st : Stream) (v : StreamState) : (c.setStream st v).matrix = c.matrix := by cases st <;> rfl
@[simp] theorem Core.modStream_matrix (c : Core) (st : Stream) (g : StreamState → StreamState) : (c.modStream st g).matrix = c.matrix := Core.setStream_matrix _ _ _
@[simp] theorem Core.setStream_piece (c : Core) (st : Stream) (v : StreamState) : (c.setStream st v).piece = c.piece := by cases st <;> rfl
@[simp] theorem Core.modStream_piece (c : Core) (st : Stream) (g : StreamState → StreamState) : (c.modStream st g).piece = c.piece := Core.setStream_piece _ _ _
@[simp] theorem Core.setStream_unresolved (c : Core) (st : Stream) (v : StreamState) : (c.setStream st v).unresolved = c.unresolved := by cases st <;> rfl
@[simp] theorem Core.modStream_unresolved (c : Core) (st : Stream) (g : StreamState → StreamState) : (c.modStream st g).unresolved = c.unresolved := Core.setStream_unresolved _ _ _
@[simp] theorem Core.setStream_saving (c : Core) (st : Stream) (v : StreamState) : (c.setStream st v).saving = c.saving := by cases st <;> rfl
@[simp] theorem Core.modStream_saving (c : Core) (st : Stream) (g : StreamState → StreamState) : (c.modStream st g).saving = c.saving := Core.setStream_saving _ _ _
@[simp] theorem Core.setStream_stopping (c : Core) (st : Stream) (v : StreamState) : (c.setStream st v).stopping = c.stopping := by cases st <;> rfl
@[simp] theorem Core.setStream_testing (c : Core) (st : Stream) (v : StreamState) : (c.setStream st v).testing = c.testing := by cases st <;> rfl
@[simp] theorem Core.modStream_stopping (c : Core) (st : Stream) (g : StreamState → StreamState) : (c.modStream st g).stopping = c.stopping := Core.setStream_stopping _ _ _
@[simp] theorem Core.modStream_testing (c : Core) (st : Stream) (g : StreamState → StreamState) : (c.modStream st g).testing = c.testing := Core.setStream_testing _ _ _
@[simp] theorem Core.setStream_phases (c : Core) (st : Stream) (v : StreamState) : (c.setStream st v).phases = c.phases := by cases st <;> rfl
@[simp] theorem Core.modStream_phases (c : Core) (st : Stream) (g : StreamState → StreamState) : (c.modStream st g).phases = c.phases := Core.setStream_phases _ _ _
@[simp] theorem Core.setStream_bars (c : Core) (st : Stream) (v : StreamState) : (c.setStream st v).bars = c.bars := by cases st <;> rfl
@[simp] theorem Core.modStream_bars (c : Core) (st : Stream) (g : StreamState → StreamState) : (c.modStream st g).bars = c.bars := Core.setStream_bars _ _ _
@[simp] theorem Core.setStream_heardPhases (c : Core) (st : Stream) (v : StreamState) : (c.setStream st v).heardPhases = c.heardPhases := by cases st <;> rfl
@[simp] theorem Core.modStream_heardPhases (c : Core) (st : Stream) (g : StreamState → StreamState) : (c.modStream st g).heardPhases = c.heardPhases := Core.setStream_heardPhases _ _ _
@[simp] theorem Core.setStream_heardBars (c : Core) (st : Stream) (v : StreamState) : (c.setStream st v).heardBars = c.heardBars := by cases st <;> rfl
@[simp] theorem Core.modStream_heardBars (c : Core) (st : Stream) (g : StreamState → StreamState) : (c.modStream st g).heardBars = c.heardBars := Core.setStream_heardBars _ _ _
@[simp] theorem Core.setStream_arrived (c : Core) (st : Stream) (v : StreamState) : (c.setStream st v).arrived = c.arrived := by cases st <;> rfl
@[simp] theorem Core.modStream_arrived (c : Core) (st : Stream) (g : StreamState → StreamState) : (c.modStream st g).arrived = c.arrived := Core.setStream_arrived _ _ _
@[simp] theorem Core.setStream_outer (c : Core) (st : Stream) (v : StreamState) : (c.setStream st v).outer = c.outer := by cases st <;> rfl
@[simp] theorem Core.modStream_outer (c : Core) (st : Stream) (g : StreamState → StreamState) : (c.modStream st g).outer = c.outer := Core.setStream_outer _ _ _
@[simp] theorem Core.setStream_frozen (c : Core) (st : Stream) (v : StreamState) : (c.setStream st v).frozen = c.frozen := by cases st <;> rfl
@[simp] theorem Core.modStream_frozen (c : Core) (st : Stream) (g : StreamState → StreamState) : (c.modStream st g).frozen = c.frozen := Core.setStream_frozen _ _ _
@[simp] theorem Core.setStream_inside (c : Core) (st : Stream) (v : StreamState) : (c.setStream st v).inside = c.inside := by cases st <;> rfl
@[simp] theorem Core.modStream_inside (c : Core) (st : Stream) (g : StreamState → StreamState) : (c.modStream st g).inside = c.inside := Core.setStream_inside _ _ _

@[simp] theorem Core.setScalar_mode (c : Core) (st : Stream) (n : Nat) (v : W64) : (c.setScalar st n v).mode = c.mode := by
  unfold Core.setScalar; split <;> (try cases st) <;> rfl
@[simp] theorem Core.setScalar_recDie (c : Core) (st : Stream) (n : Nat) (v : W64) : (c.setScalar st n v).recDie = c.recDie := by
  unfold Core.setScalar; split <;> (try cases st) <;> rfl
@[simp] theorem Core.setScalar_recSlot (c : Core) (st : Stream) (n : Nat) (v : W64) : (c.setScalar st n v).recSlot = c.recSlot := by
  unfold Core.setScalar; split <;> (try cases st) <;> rfl
@[simp] theorem Core.setScalar_ctx (c : Core) (st : Stream) (n : Nat) (v : W64) : (c.setScalar st n v).ctx = c.ctx := by
  unfold Core.setScalar; split <;> (try cases st) <;> rfl
@[simp] theorem Core.setScalar_launchDie (c : Core) (st : Stream) (n : Nat) (v : W64) : (c.setScalar st n v).launchDie = c.launchDie := by
  unfold Core.setScalar; split <;> (try cases st) <;> rfl
@[simp] theorem Core.setScalar_launch (c : Core) (st : Stream) (n : Nat) (v : W64) : (c.setScalar st n v).launch = c.launch := by
  unfold Core.setScalar; split <;> (try cases st) <;> rfl
@[simp] theorem Core.setScalar_group (c : Core) (st : Stream) (n : Nat) (v : W64) : (c.setScalar st n v).group = c.group := by
  unfold Core.setScalar; split <;> (try cases st) <;> rfl
@[simp] theorem Core.setScalar_k (c : Core) (st : Stream) (n : Nat) (v : W64) : (c.setScalar st n v).k = c.k := by
  unfold Core.setScalar; split <;> (try cases st) <;> rfl
@[simp] theorem Core.setScalar_v (c : Core) (st : Stream) (n : Nat) (v : W64) : (c.setScalar st n v).v = c.v := by
  unfold Core.setScalar; split <;> (try cases st) <;> rfl
@[simp] theorem Core.setScalar_m (c : Core) (st : Stream) (n : Nat) (v : W64) : (c.setScalar st n v).m = c.m := by
  unfold Core.setScalar; split <;> (try cases st) <;> rfl
@[simp] theorem Core.setScalar_ck (c : Core) (st : Stream) (n : Nat) (v : W64) : (c.setScalar st n v).ck = c.ck := by
  unfold Core.setScalar; split <;> (try cases st) <;> rfl
@[simp] theorem Core.setScalar_sc (c : Core) (st : Stream) (n : Nat) (v : W64) : (c.setScalar st n v).sc = c.sc := by
  unfold Core.setScalar; split <;> (try cases st) <;> rfl
@[simp] theorem Core.setScalar_sa (c : Core) (st : Stream) (n : Nat) (v : W64) : (c.setScalar st n v).sa = c.sa := by
  unfold Core.setScalar; split <;> (try cases st) <;> rfl
@[simp] theorem Core.setScalar_sx (c : Core) (st : Stream) (n : Nat) (v : W64) : (c.setScalar st n v).sx = c.sx := by
  unfold Core.setScalar; split <;> (try cases st) <;> rfl
@[simp] theorem Core.setScalar_lq (c : Core) (st : Stream) (n : Nat) (v : W64) : (c.setScalar st n v).lq = c.lq := by
  unfold Core.setScalar; split <;> (try cases st) <;> rfl
@[simp] theorem Core.setScalar_sq (c : Core) (st : Stream) (n : Nat) (v : W64) : (c.setScalar st n v).sq = c.sq := by
  unfold Core.setScalar; split <;> (try cases st) <;> rfl
@[simp] theorem Core.setScalar_reqs (c : Core) (st : Stream) (n : Nat) (v : W64) : (c.setScalar st n v).reqs = c.reqs := by
  unfold Core.setScalar; split <;> (try cases st) <;> rfl
@[simp] theorem Core.setScalar_cwait (c : Core) (st : Stream) (n : Nat) (v : W64) : (c.setScalar st n v).cwait = c.cwait := by
  unfold Core.setScalar; split <;> (try cases st) <;> rfl
@[simp] theorem Core.setScalar_inflight (c : Core) (st : Stream) (n : Nat) (v : W64) : (c.setScalar st n v).inflight = c.inflight := by
  unfold Core.setScalar; split <;> (try cases st) <;> rfl
@[simp] theorem Core.setScalar_cont (c : Core) (st : Stream) (n : Nat) (v : W64) : (c.setScalar st n v).cont = c.cont := by
  unfold Core.setScalar; split <;> (try cases st) <;> rfl
@[simp] theorem Core.setScalar_pendC (c : Core) (st : Stream) (n : Nat) (v : W64) : (c.setScalar st n v).pendC = c.pendC := by
  unfold Core.setScalar; split <;> (try cases st) <;> rfl
@[simp] theorem Core.setScalar_pendA (c : Core) (st : Stream) (n : Nat) (v : W64) : (c.setScalar st n v).pendA = c.pendA := by
  unfold Core.setScalar; split <;> (try cases st) <;> rfl
@[simp] theorem Core.setScalar_pendX (c : Core) (st : Stream) (n : Nat) (v : W64) : (c.setScalar st n v).pendX = c.pendX := by
  unfold Core.setScalar; split <;> (try cases st) <;> rfl
@[simp] theorem Core.setScalar_binds (c : Core) (st : Stream) (n : Nat) (v : W64) : (c.setScalar st n v).binds = c.binds := by
  unfold Core.setScalar; split <;> (try cases st) <;> rfl
@[simp] theorem Core.setScalar_aview (c : Core) (st : Stream) (n : Nat) (v : W64) : (c.setScalar st n v).aview = c.aview := by
  unfold Core.setScalar; split <;> (try cases st) <;> rfl
@[simp] theorem Core.setScalar_bankrole0 (c : Core) (st : Stream) (n : Nat) (v : W64) : (c.setScalar st n v).bankrole0 = c.bankrole0 := by
  unfold Core.setScalar; split <;> (try cases st) <;> rfl
@[simp] theorem Core.setScalar_bankrole1 (c : Core) (st : Stream) (n : Nat) (v : W64) : (c.setScalar st n v).bankrole1 = c.bankrole1 := by
  unfold Core.setScalar; split <;> (try cases st) <;> rfl
@[simp] theorem Core.setScalar_localMem (c : Core) (st : Stream) (n : Nat) (v : W64) : (c.setScalar st n v).localMem = c.localMem := by
  unfold Core.setScalar; split <;> (try cases st) <;> rfl
@[simp] theorem Core.setScalar_localPoison (c : Core) (st : Stream) (n : Nat) (v : W64) : (c.setScalar st n v).localPoison = c.localPoison := by
  unfold Core.setScalar; split <;> (try cases st) <;> rfl
@[simp] theorem Core.setScalar_resident (c : Core) (st : Stream) (n : Nat) (v : W64) : (c.setScalar st n v).resident = c.resident := by
  unfold Core.setScalar; split <;> (try cases st) <;> rfl
@[simp] theorem Core.setScalar_lines (c : Core) (st : Stream) (n : Nat) (v : W64) : (c.setScalar st n v).lines = c.lines := by
  unfold Core.setScalar; split <;> (try cases st) <;> rfl
@[simp] theorem Core.setScalar_tcache (c : Core) (st : Stream) (n : Nat) (v : W64) : (c.setScalar st n v).tcache = c.tcache := by
  unfold Core.setScalar; split <;> (try cases st) <;> rfl
@[simp] theorem Core.setScalar_abufTags (c : Core) (st : Stream) (n : Nat) (v : W64) : (c.setScalar st n v).abufTags = c.abufTags := by
  unfold Core.setScalar; split <;> (try cases st) <;> rfl
@[simp] theorem Core.setScalar_jobs (c : Core) (st : Stream) (n : Nat) (v : W64) : (c.setScalar st n v).jobs = c.jobs := by
  unfold Core.setScalar; split <;> (try cases st) <;> rfl
@[simp] theorem Core.setScalar_jobOrder (c : Core) (st : Stream) (n : Nat) (v : W64) : (c.setScalar st n v).jobOrder = c.jobOrder := by
  unfold Core.setScalar; split <;> (try cases st) <;> rfl
@[simp] theorem Core.setScalar_matrix (c : Core) (st : Stream) (n : Nat) (v : W64) : (c.setScalar st n v).matrix = c.matrix := by
  unfold Core.setScalar; split <;> (try cases st) <;> rfl
@[simp] theorem Core.setScalar_piece (c : Core) (st : Stream) (n : Nat) (v : W64) : (c.setScalar st n v).piece = c.piece := by
  unfold Core.setScalar; split <;> (try cases st) <;> rfl
@[simp] theorem Core.setScalar_unresolved (c : Core) (st : Stream) (n : Nat) (v : W64) : (c.setScalar st n v).unresolved = c.unresolved := by
  unfold Core.setScalar; split <;> (try cases st) <;> rfl
@[simp] theorem Core.setScalar_saving (c : Core) (st : Stream) (n : Nat) (v : W64) : (c.setScalar st n v).saving = c.saving := by
  unfold Core.setScalar; split <;> (try cases st) <;> rfl
@[simp] theorem Core.setScalar_stopping (c : Core) (st : Stream) (n : Nat) (v : W64) : (c.setScalar st n v).stopping = c.stopping := by
  unfold Core.setScalar; split <;> (try cases st) <;> rfl
@[simp] theorem Core.setScalar_testing (c : Core) (st : Stream) (n : Nat) (v : W64) : (c.setScalar st n v).testing = c.testing := by
  unfold Core.setScalar; split <;> (try cases st) <;> rfl
@[simp] theorem Core.setScalar_phases (c : Core) (st : Stream) (n : Nat) (v : W64) : (c.setScalar st n v).phases = c.phases := by
  unfold Core.setScalar; split <;> (try cases st) <;> rfl
@[simp] theorem Core.setScalar_bars (c : Core) (st : Stream) (n : Nat) (v : W64) : (c.setScalar st n v).bars = c.bars := by
  unfold Core.setScalar; split <;> (try cases st) <;> rfl
@[simp] theorem Core.setScalar_heardPhases (c : Core) (st : Stream) (n : Nat) (v : W64) : (c.setScalar st n v).heardPhases = c.heardPhases := by
  unfold Core.setScalar; split <;> (try cases st) <;> rfl
@[simp] theorem Core.setScalar_heardBars (c : Core) (st : Stream) (n : Nat) (v : W64) : (c.setScalar st n v).heardBars = c.heardBars := by
  unfold Core.setScalar; split <;> (try cases st) <;> rfl
@[simp] theorem Core.setScalar_arrived (c : Core) (st : Stream) (n : Nat) (v : W64) : (c.setScalar st n v).arrived = c.arrived := by
  unfold Core.setScalar; split <;> (try cases st) <;> rfl
@[simp] theorem Core.setScalar_outer (c : Core) (st : Stream) (n : Nat) (v : W64) : (c.setScalar st n v).outer = c.outer := by
  unfold Core.setScalar; split <;> (try cases st) <;> rfl
@[simp] theorem Core.setScalar_frozen (c : Core) (st : Stream) (n : Nat) (v : W64) : (c.setScalar st n v).frozen = c.frozen := by
  unfold Core.setScalar; split <;> (try cases st) <;> rfl
@[simp] theorem Core.setScalar_inside (c : Core) (st : Stream) (n : Nat) (v : W64) : (c.setScalar st n v).inside = c.inside := by
  unfold Core.setScalar; split <;> (try cases st) <;> rfl

@[simp] theorem Core.scalar_zero (c : Core) (st : Stream) : c.scalar st 0 = 0 := rfl

/-- A scalar register after a write of one: register 0 reads as zero (R121). -/
theorem Core.scalar_setScalar (c : Core) (st : Stream) (d n : Nat) (v : W64) :
    (c.setScalar st d v).scalar st n = if n = d ∧ d ≠ 0 then v else c.scalar st n := by
  by_cases hd : d = 0
  · simp [Core.setScalar, hd]
  · by_cases hn : n = 0
    · subst hn
      simp [Core.scalar, Ne.symm hd]
    · cases st <;> simp [Core.setScalar, Core.scalar, Core.file, hd, hn, SMap.get_set]

/-- The files of the other streams keep their registers. -/
theorem Core.scalar_setScalar_other (c : Core) {st u : Stream} (d n : Nat) (v : W64) (h : u ≠ st) :
    (c.setScalar st d v).scalar u n = c.scalar u n := by
  by_cases hd : d = 0
  · simp [Core.setScalar, hd]
  · cases st <;> cases u <;> first | exact absurd rfl h | simp [Core.setScalar, Core.scalar, Core.file, hd]

@[simp] theorem Core.scalar_modStream (c : Core) (st u : Stream) (f : StreamState → StreamState) (n : Nat) :
    (c.modStream st f).scalar u n = c.scalar u n := by
  cases st <;> cases u <;> rfl

@[simp] theorem Core.stream_setScalar (c : Core) (st u : Stream) (n : Nat) (v : W64) :
    (c.setScalar st n v).stream u = c.stream u := by
  cases u <;> simp [Core.stream]

@[simp] theorem Core.tok_setTok (c : Core) (n m : Nat) (v : W64) :
    (c.setTok n v).tok m = if m = n then v else c.tok m := SMap.get_set 0 c.k n m v

theorem Core.maskReg_setMask (c : Core) (n m : Nat) (v : W64) :
    (c.setMask n v).maskReg m = if m = n ∧ n ≠ 0 then v else c.maskReg m := by
  by_cases hn : n = 0
  · simp [Core.setMask, hn]
  · by_cases hm : m = 0
    · subst hm
      simp [Core.maskReg, Ne.symm hn]
    · simp [Core.setMask, Core.maskReg, hn, hm, SMap.get_set]

@[simp] theorem Core.chk_setChk (c : Core) (n m : Nat) (v : BitVec 128) :
    (c.setChk n v).chk m = if m = n then v else c.chk m := SMap.get_set 0 c.ck n m v

end Sys2Proof.Machine
end

