-- ==== Sys2Proof/Laws/Ops.lean ====
section
/-! SUPPORT. What the shared operations do, once for each: advancing, the guard, the end of a meaning, scalar and
in-flight results, the raising of a trap, and the stalls in which C
freezes. -/

namespace Sys2Proof

open Machine
open Host (Outcome)

/-! ### Moving on -/

theorem advance_eq (s : State) (lit : Bool) :
    s.advance lit = s.modCur fun c =>
      if s.str = .x then
        { c.modStream s.str fun v => v.advance lit with inflight := tick c.inflight }
      else c.modStream s.str fun v => v.advance lit := by
  unfold State.advance State.tickIf
  by_cases h : s.str = .x
  · simp only [h, State.modCur_str, ↓reduceIte, State.modCur_modCur, Core.modStream_inflight]
  · simp only [h, State.modCur_str, ↓reduceIte]

theorem advance_of_not_x (s : State) (lit : Bool) (h : s.str ≠ .x) :
    s.advance lit = s.modCur fun c => c.modStream s.str fun v => v.advance lit := by
  simp only [advance_eq, h, ↓reduceIte]

theorem advance_of_x (s : State) (lit : Bool) (h : s.str = .x) :
    s.advance lit = s.modCur fun c => { c with sx := c.sx.advance lit, inflight := tick c.inflight } := by
  simp only [advance_eq, h, ↓reduceIte]
  rfl

/-! ### The form of a meaning -/

/-- A user form whose guard is satisfied runs its body. -/
theorem issue_run (g : Guard) (lit : Bool) (body : Act Flow) (s : State) (h : s.guardHolds g = true) :
    issue g false lit body s = finish lit s (body s) := by
  simp [issue, h]

/-- A supervisor form at supervisor level whose guard is satisfied runs its body. -/
theorem issue_run_sup (g : Guard) (lit : Bool) (body : Act Flow) (s : State) (hs : s.curCtx.sup = true)
    (h : s.guardHolds g = true) : issue g true lit body s = finish lit s (body s) := by
  simp [issue, h, hs]

/-- An instruction whose guard is not satisfied steps over its slots (R117). -/
theorem issue_skip (g : Guard) (sup lit : Bool) (body : Act Flow) (s : State)
    (hs : sup = true → s.curCtx.sup = true) (h : s.guardHolds g = false) :
    issue g sup lit body s = .next (s.advance lit) := by
  cases sup <;> simp_all [issue]

/-- A supervisor form at user level raises PRIV whatever its guard (R118). -/
theorem issue_priv (g : Guard) (lit : Bool) (body : Act Flow) (s : State) (hs : s.curCtx.sup = false) :
    issue g true lit body s = .next (s.raise { code := cPriv }) := by
  simp [issue, hs]

theorem issueSet_run (g : Guard) (f : State → State) (s : State) (h : s.guardHolds g = true) :
    issueSet g f s = .next ((f s).advance false) := by
  simp [issueSet, issue, h, finish]

/-- What follows a body is a next state or a fault. -/
theorem finish_not_refused (lit : Bool) (s : State) (r : Except Stop (Flow × State)) (e : Refusal) :
    finish lit s r ≠ .refused e := by
  rcases r with (_ | _ | _) | ⟨(_ | _ | _ | _), t⟩ <;> simp [finish]

theorem issue_not_refused (g : Guard) (sup lit : Bool) (body : Act Flow) (s : State) (e : Refusal) :
    issue g sup lit body s ≠ .refused e := by
  unfold issue
  split
  · simp
  · split
    · simp
    · exact finish_not_refused lit s _ e

theorem issueSet_not_refused (g : Guard) (f : State → State) (s : State) (e : Refusal) :
    issueSet g f s ≠ .refused e := issue_not_refused g false false _ s e

theorem outcomeOf_not_refused (r : Except Fault State) (e : Refusal) : outcomeOf r ≠ .refused e := by
  cases r <;> simp [outcomeOf]

/-! ### Frames -/

theorem onlyCore_modCur (s : State) (f : Core → Core) : onlyCore s (s.modCur f) :=
  ⟨rfl, fun _ h => State.coreAt_modCur_other s f h⟩

theorem memorySame_modCur (s : State) (f : Core → Core) (h : (f s.cur).localMem = s.cur.localMem) :
    memorySame s (s.modCur f) := by
  refine ⟨fun _ => rfl, fun n a => ?_⟩
  by_cases hn : n = s.core
  · subst hn
    have : (s.modCur f).coreAt s.core = f s.cur := State.cur_modCur s f
    rw [this, h]
    rfl
  · rw [State.coreAt_modCur_other s f hn]

/-! ### Scalar results -/

/-- A scalar result of C or A is in its register when the stream goes on (R133). -/
theorem writesScalar_wr (s : State) (lit : Bool) (d : Nat) (v : W64) (h : s.str ≠ .x) :
    writesScalar (.next ((s.modCur fun c => c.setScalar s.str d v).advance lit)) s lit d v := by
  have e : (s.modCur fun c => c.setScalar s.str d v).advance lit =
      s.modCur fun c => (c.setScalar s.str d v).modStream s.str fun w => w.advance lit := by
    rw [advance_of_not_x _ _ (by simpa using h), State.modCur_modCur]
    rfl
  refine ⟨_, rfl, ?_⟩
  rw [e]
  refine ⟨onlyCore_modCur _ _, ?_, ⟨?_, ?_⟩, ⟨?_, ?_⟩, memorySame_modCur _ _ ?_⟩
  · rw [State.cur_modCur]
    unfold onlyScalars Core.setScalar
    by_cases hd : d = 0
    · cases s.str <;> simp [hd, Core.modStream, Core.setStream]
    · cases s.str <;> simp [hd, Core.modStream, Core.setStream]
  · intro r
    rw [State.cur_modCur]
    simp [Core.scalar_setScalar]
  · intro u hu r
    rw [State.cur_modCur]
    simp [Core.scalar_setScalar_other _ _ _ _ hu]
  · rw [State.cur_modCur]
    simp
  · intro u hu
    rw [State.cur_modCur]
    simp [Core.modStream, Core.stream_setStream_other _ _ hu]
  · simp

theorem writeScalar_of_not_x (s : State) (lat d : Nat) (v : W64) (h : s.str ≠ .x) :
    s.writeScalar lat d v = s.modCur fun c => c.setScalar s.str d v := by
  simp [State.writeScalar, h]

theorem writeScalar_of_x (s : State) (lat d : Nat) (v : W64) (h : s.str = .x) :
    s.writeScalar lat d v = s.launchX (flightOf s (.e d) allBits (v.setWidth 2048) lat 0) := by
  simp [State.writeScalar, h, flightOf]

/-- An in-flight result: one entry more, and the cycle of the issue has passed (R218). -/
theorem entersFlight_launchX (s : State) (lit : Bool) (f : InFlight) (h : s.str = .x) :
    entersFlight (.next ((s.launchX f).advance lit)) s lit f := by
  have e : (s.launchX f).advance lit = s.modCur fun c =>
      { c with inflight := tick (c.inflight ++ [f]), sx := c.sx.advance lit } := by
    unfold State.launchX
    rw [advance_of_x _ _ (by simpa using h), State.modCur_modCur]
  refine ⟨_, rfl, ?_⟩
  rw [e]
  refine ⟨onlyCore_modCur _ _, ?_, ?_, ⟨?_, ?_⟩, memorySame_modCur _ _ ?_⟩
  · rw [State.cur_modCur]
  · rw [State.cur_modCur]
  · rw [State.cur_modCur, h]
    rfl
  · intro u hu
    rw [State.cur_modCur]
    rw [h] at hu
    cases u <;> first | rfl | exact absurd rfl hu
  · simp

/-! ### Stalls in which C freezes (R373) -/

/-- A C that does not stall freezes as it stands. -/
theorem Core.freezeC_of_none (c : Core) (h : c.cwait = .none) : c.freezeC = c := by
  cases c; simp_all [Core.freezeC]

/-- A C that stalls leaves its stall behind, and waits for nothing in the handler. -/
theorem Core.freezeC_of_stall (c : Core) (h : c.cwait ≠ .none) :
    c.freezeC = { c with cwait := .none, frozen := ⟨c.sc, c.cwait, c.waitsAt, true⟩ :: c.frozen } := by
  simp [Core.freezeC, h]

/-- A C that has left no stall returns to none. -/
theorem Core.thaw_of_none (c : Core) (h : c.frozen = []) : c.thaw = c := by
  cases c; simp_all [Core.thaw]

theorem Core.comeOut_of_none (c : Core) (h : c.inside = none) : c.comeOut = c := by
  simp [Core.comeOut, h]

/-- Where no stall is left, an answer acts on C where it stands. -/
theorem State.atWait_of_none (s : State) (n : Nat) (p : CWait → Bool) (f : State → State)
    (h : (s.coreAt n).frozen = []) : s.atWait n p f = f s := by
  simp [State.atWait, h]

theorem State.atReq_of_none (s : State) (n num : Nat) (f : State → State)
    (h : (s.coreAt n).frozen = []) : s.atReq n num f = f s := by
  simp [State.atReq, Core.frozenAt, h]

theorem State.tryAtReq_of_none (s : State) (n num : Nat) (f : State → Except Fault State)
    (h : (s.coreAt n).frozen = []) : s.tryAtReq n num f = f s := by
  simp [State.tryAtReq, Core.frozenAt, h]

/-! ### Bytes at their homes -/

/-- A byte of a line of memory. -/
theorem State.memLine_byte (s : State) (l o : Nat) (h : o < 128) :
    lineBytes (s.memLine l) o 1 = (Memory.read s.mem (128 * l + o)).toNat := by
  have hb := Memory.readNat_lt s.mem 128 (l * 128)
  rw [show 8 * 128 = 1024 from rfl] at hb
  have hl : (s.memLine l).toNat = Memory.readNat s.mem (l * 128) 128 := BitVec.toNat_ofNat .. |>.trans (Nat.mod_eq_of_lt hb)
  rw [lineBytes, hl, Memory.readNat_digit _ _ _ _ h, Nat.mul_comm]

/-- The byte that its home serves is the byte of the line that its home serves. -/
theorem homeByte_eq (s : State) (a : Nat) : (s.homeByte a).toNat = byteAt s a := by
  have hd : 128 * lineNo a + a % 128 = a := by simp only [lineNo]; omega
  unfold State.homeByte byteAt State.homeLine
  split
  · simp [lineBytes]
  · rw [State.memLine_byte _ _ _ (Nat.mod_lt _ (by decide)), hd]

/-- A byte whose line no core owns is the byte of the home's memory. -/
theorem homeByte_of_unowned (s : State) (a : Nat) (h : s.lineOwner (lineNo a) = none) :
    s.homeByte a = Memory.read s.mem a := by
  simp [State.homeByte, h]

/-- The bytes from an address, when no core owns a line of them. -/
theorem physBytes_of_unowned (s : State) (a n : Nat) (h : ∀ l, s.lineOwner l = none) :
    s.physBytes a n = (List.range n).map fun i => Memory.read s.mem (a + i) :=
  List.map_congr_left fun i _ => homeByte_of_unowned s (a + i) (h _)

end Sys2Proof
end

