-- ==== Sys2Proof/Laws/PerInstr.lean ====
section
/-! SUPPORT. What is true of each instruction as syntax, one lemma for each constructor: its fields come back
from the word that the encoder writes (R115, R123 to R131). -/

namespace Sys2Proof.Laws

/-- The word of a well-formed instruction reads back as the instruction, its fields and its literal. -/
def RoundTrip.Statement (i : Instr) : Prop :=
  i.wf = true → decodeFields (encode i) (encodeLiteral i) = some i

theorem decodeFields_row (w lit : W64) (n : Nat) (h : opcodeOf w = n) (r : Option Instr)
    (hr : (match n / 16 with
      | 0 => decodeRow0 w (n % 16)
      | 1 => decodeRow1 w (n % 16)
      | 2 => decodeRow2 w lit (n % 16)
      | 3 => decodeRow3 w (n % 16)
      | 4 => decodeRow4 w (n % 16)
      | 5 => decodeRow5 w (n % 16)
      | 6 => decodeRow6 w (n % 16)
      | 7 => decodeRow7 w (n % 16)
      | 8 => decodeRow8 w (n % 16)
      | 9 => decodeRow9 w (n % 16)
      | 10 => decodeRowA w (n % 16)
      | 11 => decodeRowB w (n % 16)
      | 12 => decodeRowC w lit (n % 16)
      | 13 => decodeRowD w (n % 16)
      | 14 => decodeRowE w (n % 16)
      | _ => none) = r) : decodeFields w lit = r := by
  subst h
  exact hr

theorem RoundTrip.add (f : F3) : RoundTrip.Statement (.add f) := by
  intro _
  refine decodeFields_row _ _ 0x01 (F3.opcode_pack _ f) _ ?_
  exact congrArg (fun g => some (Instr.add g)) (F3.unpack_pack _ f)

theorem RoundTrip.sub (f : F3) : RoundTrip.Statement (.sub f) := by
  intro _
  refine decodeFields_row _ _ 0x02 (F3.opcode_pack _ f) _ ?_
  exact congrArg (fun g => some (Instr.sub g)) (F3.unpack_pack _ f)

theorem RoundTrip.mul (f : F3) : RoundTrip.Statement (.mul f) := by
  intro _
  refine decodeFields_row _ _ 0x03 (F3.opcode_pack _ f) _ ?_
  exact congrArg (fun g => some (Instr.mul g)) (F3.unpack_pack _ f)

theorem RoundTrip.mulh (f : F3) : RoundTrip.Statement (.mulh f) := by
  intro _
  refine decodeFields_row _ _ 0x04 (F3.opcode_pack _ f) _ ?_
  exact congrArg (fun g => some (Instr.mulh g)) (F3.unpack_pack _ f)

theorem RoundTrip.mulhn (f : F3) : RoundTrip.Statement (.mulhn f) := by
  intro _
  refine decodeFields_row _ _ 0x05 (F3.opcode_pack _ f) _ ?_
  exact congrArg (fun g => some (Instr.mulhn g)) (F3.unpack_pack _ f)

theorem RoundTrip.div (f : F3) : RoundTrip.Statement (.div f) := by
  intro _
  refine decodeFields_row _ _ 0x06 (F3.opcode_pack _ f) _ ?_
  exact congrArg (fun g => some (Instr.div g)) (F3.unpack_pack _ f)

theorem RoundTrip.divn (f : F3) : RoundTrip.Statement (.divn f) := by
  intro _
  refine decodeFields_row _ _ 0x07 (F3.opcode_pack _ f) _ ?_
  exact congrArg (fun g => some (Instr.divn g)) (F3.unpack_pack _ f)

theorem RoundTrip.rem (f : F3) : RoundTrip.Statement (.rem f) := by
  intro _
  refine decodeFields_row _ _ 0x08 (F3.opcode_pack _ f) _ ?_
  exact congrArg (fun g => some (Instr.rem g)) (F3.unpack_pack _ f)

theorem RoundTrip.remn (f : F3) : RoundTrip.Statement (.remn f) := by
  intro _
  refine decodeFields_row _ _ 0x09 (F3.opcode_pack _ f) _ ?_
  exact congrArg (fun g => some (Instr.remn g)) (F3.unpack_pack _ f)

theorem RoundTrip.and (f : F3) : RoundTrip.Statement (.and f) := by
  intro _
  refine decodeFields_row _ _ 0x0A (F3.opcode_pack _ f) _ ?_
  exact congrArg (fun g => some (Instr.and g)) (F3.unpack_pack _ f)

theorem RoundTrip.or (f : F3) : RoundTrip.Statement (.or f) := by
  intro _
  refine decodeFields_row _ _ 0x0B (F3.opcode_pack _ f) _ ?_
  exact congrArg (fun g => some (Instr.or g)) (F3.unpack_pack _ f)

theorem RoundTrip.xor (f : F3) : RoundTrip.Statement (.xor f) := by
  intro _
  refine decodeFields_row _ _ 0x0C (F3.opcode_pack _ f) _ ?_
  exact congrArg (fun g => some (Instr.xor g)) (F3.unpack_pack _ f)

theorem RoundTrip.andn (f : F3) : RoundTrip.Statement (.andn f) := by
  intro _
  refine decodeFields_row _ _ 0x0D (F3.opcode_pack _ f) _ ?_
  exact congrArg (fun g => some (Instr.andn g)) (F3.unpack_pack _ f)

theorem RoundTrip.shl (f : F3) : RoundTrip.Statement (.shl f) := by
  intro _
  refine decodeFields_row _ _ 0x0E (F3.opcode_pack _ f) _ ?_
  exact congrArg (fun g => some (Instr.shl g)) (F3.unpack_pack _ f)

theorem RoundTrip.shr (f : F3) : RoundTrip.Statement (.shr f) := by
  intro _
  refine decodeFields_row _ _ 0x0F (F3.opcode_pack _ f) _ ?_
  exact congrArg (fun g => some (Instr.shr g)) (F3.unpack_pack _ f)

theorem RoundTrip.sra (f : F3) : RoundTrip.Statement (.sra f) := by
  intro _
  refine decodeFields_row _ _ 0x10 (F3.opcode_pack _ f) _ ?_
  exact congrArg (fun g => some (Instr.sra g)) (F3.unpack_pack _ f)

theorem RoundTrip.rol (f : F3) : RoundTrip.Statement (.rol f) := by
  intro _
  refine decodeFields_row _ _ 0x11 (F3.opcode_pack _ f) _ ?_
  exact congrArg (fun g => some (Instr.rol g)) (F3.unpack_pack _ f)

theorem RoundTrip.ror (f : F3) : RoundTrip.Statement (.ror f) := by
  intro _
  refine decodeFields_row _ _ 0x12 (F3.opcode_pack _ f) _ ?_
  exact congrArg (fun g => some (Instr.ror g)) (F3.unpack_pack _ f)

theorem RoundTrip.min (f : F3) : RoundTrip.Statement (.min f) := by
  intro _
  refine decodeFields_row _ _ 0x13 (F3.opcode_pack _ f) _ ?_
  exact congrArg (fun g => some (Instr.min g)) (F3.unpack_pack _ f)

theorem RoundTrip.max (f : F3) : RoundTrip.Statement (.max f) := by
  intro _
  refine decodeFields_row _ _ 0x14 (F3.opcode_pack _ f) _ ?_
  exact congrArg (fun g => some (Instr.max g)) (F3.unpack_pack _ f)

theorem RoundTrip.minn (f : F3) : RoundTrip.Statement (.minn f) := by
  intro _
  refine decodeFields_row _ _ 0x15 (F3.opcode_pack _ f) _ ?_
  exact congrArg (fun g => some (Instr.minn g)) (F3.unpack_pack _ f)

theorem RoundTrip.maxn (f : F3) : RoundTrip.Statement (.maxn f) := by
  intro _
  refine decodeFields_row _ _ 0x16 (F3.opcode_pack _ f) _ ?_
  exact congrArg (fun g => some (Instr.maxn g)) (F3.unpack_pack _ f)

theorem RoundTrip.cmpeq (f : F3) : RoundTrip.Statement (.cmpeq f) := by
  intro _
  refine decodeFields_row _ _ 0x17 (F3.opcode_pack _ f) _ ?_
  exact congrArg (fun g => some (Instr.cmpeq g)) (F3.unpack_pack _ f)

theorem RoundTrip.cmpne (f : F3) : RoundTrip.Statement (.cmpne f) := by
  intro _
  refine decodeFields_row _ _ 0x18 (F3.opcode_pack _ f) _ ?_
  exact congrArg (fun g => some (Instr.cmpne g)) (F3.unpack_pack _ f)

theorem RoundTrip.cmplt (f : F3) : RoundTrip.Statement (.cmplt f) := by
  intro _
  refine decodeFields_row _ _ 0x19 (F3.opcode_pack _ f) _ ?_
  exact congrArg (fun g => some (Instr.cmplt g)) (F3.unpack_pack _ f)

theorem RoundTrip.cmpltn (f : F3) : RoundTrip.Statement (.cmpltn f) := by
  intro _
  refine decodeFields_row _ _ 0x1A (F3.opcode_pack _ f) _ ?_
  exact congrArg (fun g => some (Instr.cmpltn g)) (F3.unpack_pack _ f)

theorem RoundTrip.cmple (f : F3) : RoundTrip.Statement (.cmple f) := by
  intro _
  refine decodeFields_row _ _ 0x1B (F3.opcode_pack _ f) _ ?_
  exact congrArg (fun g => some (Instr.cmple g)) (F3.unpack_pack _ f)

theorem RoundTrip.cmplen (f : F3) : RoundTrip.Statement (.cmplen f) := by
  intro _
  refine decodeFields_row _ _ 0x1C (F3.opcode_pack _ f) _ ?_
  exact congrArg (fun g => some (Instr.cmplen g)) (F3.unpack_pack _ f)

theorem RoundTrip.clz (f : F3) : RoundTrip.Statement (.clz f) := by
  intro _
  refine decodeFields_row _ _ 0x1D (F3.opcode_pack _ f) _ ?_
  exact congrArg (fun g => some (Instr.clz g)) (F3.unpack_pack _ f)

theorem RoundTrip.ctz (f : F3) : RoundTrip.Statement (.ctz f) := by
  intro _
  refine decodeFields_row _ _ 0x1E (F3.opcode_pack _ f) _ ?_
  exact congrArg (fun g => some (Instr.ctz g)) (F3.unpack_pack _ f)

theorem RoundTrip.popc (f : F3) : RoundTrip.Statement (.popc f) := by
  intro _
  refine decodeFields_row _ _ 0x1F (F3.opcode_pack _ f) _ ?_
  exact congrArg (fun g => some (Instr.popc g)) (F3.unpack_pack _ f)

theorem RoundTrip.addi (f : FI) : RoundTrip.Statement (.addi f) := by
  intro _
  refine decodeFields_row _ _ 0x20 (FI.opcode_pack _ f) _ ?_
  exact congrArg (fun g => some (Instr.addi g)) (FI.unpack_pack _ f)

theorem RoundTrip.muli (f : FI) : RoundTrip.Statement (.muli f) := by
  intro _
  refine decodeFields_row _ _ 0x21 (FI.opcode_pack _ f) _ ?_
  exact congrArg (fun g => some (Instr.muli g)) (FI.unpack_pack _ f)

theorem RoundTrip.andi (f : FI) : RoundTrip.Statement (.andi f) := by
  intro _
  refine decodeFields_row _ _ 0x22 (FI.opcode_pack _ f) _ ?_
  exact congrArg (fun g => some (Instr.andi g)) (FI.unpack_pack _ f)

theorem RoundTrip.ori (f : FI) : RoundTrip.Statement (.ori f) := by
  intro _
  refine decodeFields_row _ _ 0x23 (FI.opcode_pack _ f) _ ?_
  exact congrArg (fun g => some (Instr.ori g)) (FI.unpack_pack _ f)

theorem RoundTrip.xori (f : FI) : RoundTrip.Statement (.xori f) := by
  intro _
  refine decodeFields_row _ _ 0x24 (FI.opcode_pack _ f) _ ?_
  exact congrArg (fun g => some (Instr.xori g)) (FI.unpack_pack _ f)

theorem RoundTrip.shli (f : FI) : RoundTrip.Statement (.shli f) := by
  intro _
  refine decodeFields_row _ _ 0x25 (FI.opcode_pack _ f) _ ?_
  exact congrArg (fun g => some (Instr.shli g)) (FI.unpack_pack _ f)

theorem RoundTrip.shri (f : FI) : RoundTrip.Statement (.shri f) := by
  intro _
  refine decodeFields_row _ _ 0x26 (FI.opcode_pack _ f) _ ?_
  exact congrArg (fun g => some (Instr.shri g)) (FI.unpack_pack _ f)

theorem RoundTrip.srai (f : FI) : RoundTrip.Statement (.srai f) := by
  intro _
  refine decodeFields_row _ _ 0x27 (FI.opcode_pack _ f) _ ?_
  exact congrArg (fun g => some (Instr.srai g)) (FI.unpack_pack _ f)

theorem RoundTrip.cmpeqi (f : FI) : RoundTrip.Statement (.cmpeqi f) := by
  intro _
  refine decodeFields_row _ _ 0x28 (FI.opcode_pack _ f) _ ?_
  exact congrArg (fun g => some (Instr.cmpeqi g)) (FI.unpack_pack _ f)

theorem RoundTrip.cmpnei (f : FI) : RoundTrip.Statement (.cmpnei f) := by
  intro _
  refine decodeFields_row _ _ 0x29 (FI.opcode_pack _ f) _ ?_
  exact congrArg (fun g => some (Instr.cmpnei g)) (FI.unpack_pack _ f)

theorem RoundTrip.cmplti (f : FI) : RoundTrip.Statement (.cmplti f) := by
  intro _
  refine decodeFields_row _ _ 0x2A (FI.opcode_pack _ f) _ ?_
  exact congrArg (fun g => some (Instr.cmplti g)) (FI.unpack_pack _ f)

theorem RoundTrip.cmpltni (f : FI) : RoundTrip.Statement (.cmpltni f) := by
  intro _
  refine decodeFields_row _ _ 0x2B (FI.opcode_pack _ f) _ ?_
  exact congrArg (fun g => some (Instr.cmpltni g)) (FI.unpack_pack _ f)

theorem RoundTrip.extr (f : FI) : RoundTrip.Statement (.extr f) := by
  intro _
  refine decodeFields_row _ _ 0x2C (FI.opcode_pack _ f) _ ?_
  exact congrArg (fun g => some (Instr.extr g)) (FI.unpack_pack _ f)

theorem RoundTrip.extrs (f : FI) : RoundTrip.Statement (.extrs f) := by
  intro _
  refine decodeFields_row _ _ 0x2D (FI.opcode_pack _ f) _ ?_
  exact congrArg (fun g => some (Instr.extrs g)) (FI.unpack_pack _ f)

theorem RoundTrip.limm (f : FL) (lit : W64) : RoundTrip.Statement (.limm f lit) := by
  intro _
  refine decodeFields_row _ _ 0x2E (FL.opcode_pack _ f) _ ?_
  exact congrArg (fun g => some (Instr.limm g lit)) (FL.unpack_pack _ f)

theorem RoundTrip.uld (f : FI) : RoundTrip.Statement (.uld f) := by
  intro _
  refine decodeFields_row _ _ 0x2F (FI.opcode_pack _ f) _ ?_
  exact congrArg (fun g => some (Instr.uld g)) (FI.unpack_pack _ f)

theorem RoundTrip.br (f : FB) : RoundTrip.Statement (.br f) := by
  intro _
  refine decodeFields_row _ _ 0x30 (FB.opcode_pack _ f) _ ?_
  exact congrArg (fun g => some (Instr.br g)) (FB.unpack_pack _ f)

theorem RoundTrip.call (f : FB) : RoundTrip.Statement (.call f) := by
  intro _
  refine decodeFields_row _ _ 0x31 (FB.opcode_pack _ f) _ ?_
  exact congrArg (fun g => some (Instr.call g)) (FB.unpack_pack _ f)

theorem RoundTrip.ret (f : FB) : RoundTrip.Statement (.ret f) := by
  intro _
  refine decodeFields_row _ _ 0x32 (FB.opcode_pack _ f) _ ?_
  exact congrArg (fun g => some (Instr.ret g)) (FB.unpack_pack _ f)

theorem RoundTrip.loop (f : FB) : RoundTrip.Statement (.loop f) := by
  intro _
  refine decodeFields_row _ _ 0x33 (FB.opcode_pack _ f) _ ?_
  exact congrArg (fun g => some (Instr.loop g)) (FB.unpack_pack _ f)

theorem RoundTrip.start (f : FB) : RoundTrip.Statement (.start f) := by
  intro _
  refine decodeFields_row _ _ 0x34 (FB.opcode_pack _ f) _ ?_
  exact congrArg (fun g => some (Instr.start g)) (FB.unpack_pack _ f)

theorem RoundTrip.spawn (f : FB) : RoundTrip.Statement (.spawn f) := by
  intro _
  refine decodeFields_row _ _ 0x35 (FB.opcode_pack _ f) _ ?_
  exact congrArg (fun g => some (Instr.spawn g)) (FB.unpack_pack _ f)

theorem RoundTrip.yield (f : FI) : RoundTrip.Statement (.yield f) := by
  intro _
  refine decodeFields_row _ _ 0x36 (FI.opcode_pack _ f) _ ?_
  exact congrArg (fun g => some (Instr.yield g)) (FI.unpack_pack _ f)

theorem RoundTrip.await (f : FM) : RoundTrip.Statement (.await f) := by
  intro _
  refine decodeFields_row _ _ 0x37 (FM.opcode_pack _ f) _ ?_
  exact congrArg (fun g => some (Instr.await g)) (FM.unpack_pack _ f)

theorem RoundTrip.exit (f : FI) : RoundTrip.Statement (.exit f) := by
  intro _
  refine decodeFields_row _ _ 0x38 (FI.opcode_pack _ f) _ ?_
  exact congrArg (fun g => some (Instr.exit g)) (FI.unpack_pack _ f)

theorem RoundTrip.feed (f : FM) : RoundTrip.Statement (.feed f) := by
  intro _
  refine decodeFields_row _ _ 0x39 (FM.opcode_pack _ f) _ ?_
  exact congrArg (fun g => some (Instr.feed g)) (FM.unpack_pack _ f)

theorem RoundTrip.jpost (f : FJ) : RoundTrip.Statement (.jpost f) := by
  intro _
  refine decodeFields_row _ _ 0x3A (FJ.opcode_pack _ f) _ ?_
  exact congrArg (fun g => some (Instr.jpost g)) (FJ.unpack_pack _ f)

theorem RoundTrip.remq (f : FJ) : RoundTrip.Statement (.remq f) := by
  intro _
  refine decodeFields_row _ _ 0x3B (FJ.opcode_pack _ f) _ ?_
  exact congrArg (fun g => some (Instr.remq g)) (FJ.unpack_pack _ f)

theorem RoundTrip.wait (f : FL) : RoundTrip.Statement (.wait f) := by
  intro _
  refine decodeFields_row _ _ 0x3C (FL.opcode_pack _ f) _ ?_
  exact congrArg (fun g => some (Instr.wait g)) (FL.unpack_pack _ f)

theorem RoundTrip.sigwait (f : FM) : RoundTrip.Statement (.sigwait f) := by
  intro _
  refine decodeFields_row _ _ 0x3D (FM.opcode_pack _ f) _ ?_
  exact congrArg (fun g => some (Instr.sigwait g)) (FM.unpack_pack _ f)

theorem RoundTrip.gbar (f : FI) : RoundTrip.Statement (.gbar f) := by
  intro _
  refine decodeFields_row _ _ 0x3E (FI.opcode_pack _ f) _ ?_
  exact congrArg (fun g => some (Instr.gbar g)) (FI.unpack_pack _ f)

theorem RoundTrip.phase (f : FI) : RoundTrip.Statement (.phase f) := by
  intro _
  refine decodeFields_row _ _ 0x3F (FI.opcode_pack _ f) _ ?_
  exact congrArg (fun g => some (Instr.phase g)) (FI.unpack_pack _ f)

theorem RoundTrip.xlat (f : F3) : RoundTrip.Statement (.xlat f) := by
  intro _
  refine decodeFields_row _ _ 0x40 (F3.opcode_pack _ f) _ ?_
  exact congrArg (fun g => some (Instr.xlat g)) (F3.unpack_pack _ f)

theorem RoundTrip.refresh (f : F3) : RoundTrip.Statement (.refresh f) := by
  intro _
  refine decodeFields_row _ _ 0x41 (F3.opcode_pack _ f) _ ?_
  exact congrArg (fun g => some (Instr.refresh g)) (F3.unpack_pack _ f)

theorem RoundTrip.tdrop (f : F3) : RoundTrip.Statement (.tdrop f) := by
  intro _
  refine decodeFields_row _ _ 0x42 (F3.opcode_pack _ f) _ ?_
  exact congrArg (fun g => some (Instr.tdrop g)) (F3.unpack_pack _ f)

theorem RoundTrip.tqueryCtl (f : F3) : RoundTrip.Statement (.tqueryCtl f) := by
  intro h
  simp [Instr.wf] at h
  refine decodeFields_row _ _ 0x43 (F3.opcode_pack _ f) _ ?_
  have e : (encode (.tqueryCtl f)).extractLsb' 7 4 = f.fn := F3.fn_pack _ f
  have u : F3.unpack (encode (.tqueryCtl f)) = f := F3.unpack_pack _ f
  simp only [decodeRow4, e, u]
  simp [h]

theorem RoundTrip.tqueryVbase (f : F3) : RoundTrip.Statement (.tqueryVbase f) := by
  intro h
  simp [Instr.wf] at h
  refine decodeFields_row _ _ 0x43 (F3.opcode_pack _ f) _ ?_
  have e : (encode (.tqueryVbase f)).extractLsb' 7 4 = f.fn := F3.fn_pack _ f
  have u : F3.unpack (encode (.tqueryVbase f)) = f := F3.unpack_pack _ f
  simp only [decodeRow4, e, u]
  simp [h]

theorem RoundTrip.tqueryLen (f : F3) : RoundTrip.Statement (.tqueryLen f) := by
  intro h
  simp [Instr.wf] at h
  refine decodeFields_row _ _ 0x43 (F3.opcode_pack _ f) _ ?_
  have e : (encode (.tqueryLen f)).extractLsb' 7 4 = f.fn := F3.fn_pack _ f
  have u : F3.unpack (encode (.tqueryLen f)) = f := F3.unpack_pack _ f
  simp only [decodeRow4, e, u]
  simp [h]

theorem RoundTrip.tqueryCur (f : F3) : RoundTrip.Statement (.tqueryCur f) := by
  intro h
  simp [Instr.wf] at h
  refine decodeFields_row _ _ 0x43 (F3.opcode_pack _ f) _ ?_
  have e : (encode (.tqueryCur f)).extractLsb' 7 4 = f.fn := F3.fn_pack _ f
  have u : F3.unpack (encode (.tqueryCur f)) = f := F3.unpack_pack _ f
  simp only [decodeRow4, e, u]
  simp [h]

theorem RoundTrip.tqueryGet (f : F3) : RoundTrip.Statement (.tqueryGet f) := by
  intro h
  simp [Instr.wf] at h
  refine decodeFields_row _ _ 0x43 (F3.opcode_pack _ f) _ ?_
  have e : (encode (.tqueryGet f)).extractLsb' 7 4 = f.fn := F3.fn_pack _ f
  have u : F3.unpack (encode (.tqueryGet f)) = f := F3.unpack_pack _ f
  simp only [decodeRow4, e, u]
  simp [h]

theorem RoundTrip.tquerySet (f : F3) : RoundTrip.Statement (.tquerySet f) := by
  intro h
  simp [Instr.wf] at h
  refine decodeFields_row _ _ 0x43 (F3.opcode_pack _ f) _ ?_
  have e : (encode (.tquerySet f)).extractLsb' 7 4 = f.fn := F3.fn_pack _ f
  have u : F3.unpack (encode (.tquerySet f)) = f := F3.unpack_pack _ f
  simp only [decodeRow4, e, u]
  simp [h]

theorem RoundTrip.reqpg (f : FM) : RoundTrip.Statement (.reqpg f) := by
  intro _
  refine decodeFields_row _ _ 0x44 (FM.opcode_pack _ f) _ ?_
  exact congrArg (fun g => some (Instr.reqpg g)) (FM.unpack_pack _ f)

theorem RoundTrip.fence (f : FI) : RoundTrip.Statement (.fence f) := by
  intro _
  refine decodeFields_row _ _ 0x45 (FI.opcode_pack _ f) _ ?_
  exact congrArg (fun g => some (Instr.fence g)) (FI.unpack_pack _ f)

theorem RoundTrip.sigadd (f : FM) : RoundTrip.Statement (.sigadd f) := by
  intro _
  refine decodeFields_row _ _ 0x46 (FM.opcode_pack _ f) _ ?_
  exact congrArg (fun g => some (Instr.sigadd g)) (FM.unpack_pack _ f)

theorem RoundTrip.sigset (f : FM) : RoundTrip.Statement (.sigset f) := by
  intro _
  refine decodeFields_row _ _ 0x47 (FM.opcode_pack _ f) _ ?_
  exact congrArg (fun g => some (Instr.sigset g)) (FM.unpack_pack _ f)

theorem RoundTrip.lds (f : FM) : RoundTrip.Statement (.lds f) := by
  intro _
  refine decodeFields_row _ _ 0x48 (FM.opcode_pack _ f) _ ?_
  exact congrArg (fun g => some (Instr.lds g)) (FM.unpack_pack _ f)

theorem RoundTrip.sts (f : FM) : RoundTrip.Statement (.sts f) := by
  intro _
  refine decodeFields_row _ _ 0x49 (FM.opcode_pack _ f) _ ?_
  exact congrArg (fun g => some (Instr.sts g)) (FM.unpack_pack _ f)

theorem RoundTrip.ldacq (f : FM) : RoundTrip.Statement (.ldacq f) := by
  intro _
  refine decodeFields_row _ _ 0x4A (FM.opcode_pack _ f) _ ?_
  exact congrArg (fun g => some (Instr.ldacq g)) (FM.unpack_pack _ f)

theorem RoundTrip.strel (f : FM) : RoundTrip.Statement (.strel f) := by
  intro _
  refine decodeFields_row _ _ 0x4B (FM.opcode_pack _ f) _ ?_
  exact congrArg (fun g => some (Instr.strel g)) (FM.unpack_pack _ f)

theorem RoundTrip.wback (f : FM) : RoundTrip.Statement (.wback f) := by
  intro _
  refine decodeFields_row _ _ 0x4C (FM.opcode_pack _ f) _ ?_
  exact congrArg (fun g => some (Instr.wback g)) (FM.unpack_pack _ f)

theorem RoundTrip.inval (f : FM) : RoundTrip.Statement (.inval f) := by
  intro _
  refine decodeFields_row _ _ 0x4D (FM.opcode_pack _ f) _ ?_
  exact congrArg (fun g => some (Instr.inval g)) (FM.unpack_pack _ f)

theorem RoundTrip.discard (f : FM) : RoundTrip.Statement (.discard f) := by
  intro _
  refine decodeFields_row _ _ 0x4E (FM.opcode_pack _ f) _ ?_
  exact congrArg (fun g => some (Instr.discard g)) (FM.unpack_pack _ f)

theorem RoundTrip.pref (f : FM) : RoundTrip.Statement (.pref f) := by
  intro _
  refine decodeFields_row _ _ 0x4F (FM.opcode_pack _ f) _ ?_
  exact congrArg (fun g => some (Instr.pref g)) (FM.unpack_pack _ f)

theorem RoundTrip.aadd (f : FX) : RoundTrip.Statement (.aadd f) := by
  intro _
  refine decodeFields_row _ _ 0x50 (FX.opcode_pack _ f) _ ?_
  exact congrArg (fun g => some (Instr.aadd g)) (FX.unpack_pack _ f)

theorem RoundTrip.amin (f : FX) : RoundTrip.Statement (.amin f) := by
  intro _
  refine decodeFields_row _ _ 0x51 (FX.opcode_pack _ f) _ ?_
  exact congrArg (fun g => some (Instr.amin g)) (FX.unpack_pack _ f)

theorem RoundTrip.amax (f : FX) : RoundTrip.Statement (.amax f) := by
  intro _
  refine decodeFields_row _ _ 0x52 (FX.opcode_pack _ f) _ ?_
  exact congrArg (fun g => some (Instr.amax g)) (FX.unpack_pack _ f)

theorem RoundTrip.aminn (f : FX) : RoundTrip.Statement (.aminn f) := by
  intro _
  refine decodeFields_row _ _ 0x53 (FX.opcode_pack _ f) _ ?_
  exact congrArg (fun g => some (Instr.aminn g)) (FX.unpack_pack _ f)

theorem RoundTrip.amaxn (f : FX) : RoundTrip.Statement (.amaxn f) := by
  intro _
  refine decodeFields_row _ _ 0x54 (FX.opcode_pack _ f) _ ?_
  exact congrArg (fun g => some (Instr.amaxn g)) (FX.unpack_pack _ f)

theorem RoundTrip.aand (f : FX) : RoundTrip.Statement (.aand f) := by
  intro _
  refine decodeFields_row _ _ 0x55 (FX.opcode_pack _ f) _ ?_
  exact congrArg (fun g => some (Instr.aand g)) (FX.unpack_pack _ f)

theorem RoundTrip.aor (f : FX) : RoundTrip.Statement (.aor f) := by
  intro _
  refine decodeFields_row _ _ 0x56 (FX.opcode_pack _ f) _ ?_
  exact congrArg (fun g => some (Instr.aor g)) (FX.unpack_pack _ f)

theorem RoundTrip.axor (f : FX) : RoundTrip.Statement (.axor f) := by
  intro _
  refine decodeFields_row _ _ 0x57 (FX.opcode_pack _ f) _ ?_
  exact congrArg (fun g => some (Instr.axor g)) (FX.unpack_pack _ f)

theorem RoundTrip.aswap (f : FX) : RoundTrip.Statement (.aswap f) := by
  intro _
  refine decodeFields_row _ _ 0x58 (FX.opcode_pack _ f) _ ?_
  exact congrArg (fun g => some (Instr.aswap g)) (FX.unpack_pack _ f)

theorem RoundTrip.acas (f : FX) : RoundTrip.Statement (.acas f) := by
  intro _
  refine decodeFields_row _ _ 0x59 (FX.opcode_pack _ f) _ ?_
  exact congrArg (fun g => some (Instr.acas g)) (FX.unpack_pack _ f)

theorem RoundTrip.bnew (f : FI) : RoundTrip.Statement (.bnew f) := by
  intro _
  refine decodeFields_row _ _ 0x5A (FI.opcode_pack _ f) _ ?_
  exact congrArg (fun g => some (Instr.bnew g)) (FI.unpack_pack _ f)

theorem RoundTrip.bjoin (f : FM) : RoundTrip.Statement (.bjoin f) := by
  intro _
  refine decodeFields_row _ _ 0x5B (FM.opcode_pack _ f) _ ?_
  exact congrArg (fun g => some (Instr.bjoin g)) (FM.unpack_pack _ f)

theorem RoundTrip.bseal (f : FI) : RoundTrip.Statement (.bseal f) := by
  intro _
  refine decodeFields_row _ _ 0x5C (FI.opcode_pack _ f) _ ?_
  exact congrArg (fun g => some (Instr.bseal g)) (FI.unpack_pack _ f)

theorem RoundTrip.babort (f : FI) : RoundTrip.Statement (.babort f) := by
  intro _
  refine decodeFields_row _ _ 0x5D (FI.opcode_pack _ f) _ ?_
  exact congrArg (fun g => some (Instr.babort g)) (FI.unpack_pack _ f)

theorem RoundTrip.bviewNow (f : FI) : RoundTrip.Statement (.bviewNow f) := by
  intro h
  simp [Instr.wf] at h
  refine decodeFields_row _ _ 0x5E (FI.opcode_pack _ f) _ ?_
  have e : (encode (.bviewNow f)).extractLsb' 0 30 = f.imm := FI.imm_pack _ f
  have u : FI.unpack (encode (.bviewNow f)) = f := FI.unpack_pack _ f
  simp only [decodeRow5, e, u]
  simp [h]

theorem RoundTrip.bviewSet (f : FI) : RoundTrip.Statement (.bviewSet f) := by
  intro h
  simp [Instr.wf] at h
  refine decodeFields_row _ _ 0x5E (FI.opcode_pack _ f) _ ?_
  have e : (encode (.bviewSet f)).extractLsb' 0 30 = f.imm := FI.imm_pack _ f
  have u : FI.unpack (encode (.bviewSet f)) = f := FI.unpack_pack _ f
  simp only [decodeRow5, e, u]
  simp [h]

theorem RoundTrip.bviewClr (f : FI) : RoundTrip.Statement (.bviewClr f) := by
  intro h
  simp [Instr.wf] at h
  refine decodeFields_row _ _ 0x5E (FI.opcode_pack _ f) _ ?_
  have e : (encode (.bviewClr f)).extractLsb' 0 30 = f.imm := FI.imm_pack _ f
  have u : FI.unpack (encode (.bviewClr f)) = f := FI.unpack_pack _ f
  simp only [decodeRow5, e, u]
  simp [h]

theorem RoundTrip.bcheck (f : FI) : RoundTrip.Statement (.bcheck f) := by
  intro h
  simp [Instr.wf] at h
  refine decodeFields_row _ _ 0x5F (FI.opcode_pack _ f) _ ?_
  have e : (encode (.bcheck f)).extractLsb' 0 30 = f.imm := FI.imm_pack _ f
  have u : FI.unpack (encode (.bcheck f)) = f := FI.unpack_pack _ f
  simp only [decodeRow5, e, u]
  simp [h]

theorem RoundTrip.bcheckCls (f : FI) : RoundTrip.Statement (.bcheckCls f) := by
  intro h
  simp [Instr.wf] at h
  refine decodeFields_row _ _ 0x5F (FI.opcode_pack _ f) _ ?_
  have e : (encode (.bcheckCls f)).extractLsb' 0 30 = f.imm := FI.imm_pack _ f
  have u : FI.unpack (encode (.bcheckCls f)) = f := FI.unpack_pack _ f
  have z : f.imm ≠ 0 := by
    intro z
    simp [z] at h
  simp only [decodeRow5, e, u]
  exact if_neg z

theorem RoundTrip.vld (f : FM) : RoundTrip.Statement (.vld f) := by
  intro _
  refine decodeFields_row _ _ 0x60 (FM.opcode_pack _ f) _ ?_
  exact congrArg (fun g => some (Instr.vld g)) (FM.unpack_pack _ f)

theorem RoundTrip.vlds (f : FX) : RoundTrip.Statement (.vlds f) := by
  intro _
  refine decodeFields_row _ _ 0x61 (FX.opcode_pack _ f) _ ?_
  exact congrArg (fun g => some (Instr.vlds g)) (FX.unpack_pack _ f)

theorem RoundTrip.vldx (f : FX) : RoundTrip.Statement (.vldx f) := by
  intro _
  refine decodeFields_row _ _ 0x62 (FX.opcode_pack _ f) _ ?_
  exact congrArg (fun g => some (Instr.vldx g)) (FX.unpack_pack _ f)

theorem RoundTrip.ldb (f : FM) : RoundTrip.Statement (.ldb f) := by
  intro _
  refine decodeFields_row _ _ 0x63 (FM.opcode_pack _ f) _ ?_
  exact congrArg (fun g => some (Instr.ldb g)) (FM.unpack_pack _ f)

theorem RoundTrip.vst (f : FM) : RoundTrip.Statement (.vst f) := by
  intro _
  refine decodeFields_row _ _ 0x64 (FM.opcode_pack _ f) _ ?_
  exact congrArg (fun g => some (Instr.vst g)) (FM.unpack_pack _ f)

theorem RoundTrip.vsts (f : FX) : RoundTrip.Statement (.vsts f) := by
  intro _
  refine decodeFields_row _ _ 0x65 (FX.opcode_pack _ f) _ ?_
  exact congrArg (fun g => some (Instr.vsts g)) (FX.unpack_pack _ f)

theorem RoundTrip.vstx (f : FX) : RoundTrip.Statement (.vstx f) := by
  intro _
  refine decodeFields_row _ _ 0x66 (FX.opcode_pack _ f) _ ?_
  exact congrArg (fun g => some (Instr.vstx g)) (FX.unpack_pack _ f)

theorem RoundTrip.lld (f : FM) : RoundTrip.Statement (.lld f) := by
  intro _
  refine decodeFields_row _ _ 0x67 (FM.opcode_pack _ f) _ ?_
  exact congrArg (fun g => some (Instr.lld g)) (FM.unpack_pack _ f)

theorem RoundTrip.lst (f : FM) : RoundTrip.Statement (.lst f) := by
  intro _
  refine decodeFields_row _ _ 0x68 (FM.opcode_pack _ f) _ ?_
  exact congrArg (fun g => some (Instr.lst g)) (FM.unpack_pack _ f)

theorem RoundTrip.vlld (f : FM) : RoundTrip.Statement (.vlld f) := by
  intro _
  refine decodeFields_row _ _ 0x69 (FM.opcode_pack _ f) _ ?_
  exact congrArg (fun g => some (Instr.vlld g)) (FM.unpack_pack _ f)

theorem RoundTrip.vlst (f : FM) : RoundTrip.Statement (.vlst f) := by
  intro _
  refine decodeFields_row _ _ 0x6A (FM.opcode_pack _ f) _ ?_
  exact congrArg (fun g => some (Instr.vlst g)) (FM.unpack_pack _ f)

theorem RoundTrip.lqput (f : F3) : RoundTrip.Statement (.lqput f) := by
  intro _
  refine decodeFields_row _ _ 0x6B (F3.opcode_pack _ f) _ ?_
  exact congrArg (fun g => some (Instr.lqput g)) (F3.unpack_pack _ f)

theorem RoundTrip.sqget (f : F3) : RoundTrip.Statement (.sqget f) := by
  intro _
  refine decodeFields_row _ _ 0x6C (F3.opcode_pack _ f) _ ?_
  exact congrArg (fun g => some (Instr.sqget g)) (F3.unpack_pack _ f)

theorem RoundTrip.tchk (f : F3) : RoundTrip.Statement (.tchk f) := by
  intro _
  refine decodeFields_row _ _ 0x6D (F3.opcode_pack _ f) _ ?_
  exact congrArg (fun g => some (Instr.tchk g)) (F3.unpack_pack _ f)

theorem RoundTrip.rprobe (f : FM) : RoundTrip.Statement (.rprobe f) := by
  intro _
  refine decodeFields_row _ _ 0x6E (FM.opcode_pack _ f) _ ?_
  exact congrArg (fun g => some (Instr.rprobe g)) (FM.unpack_pack _ f)

theorem RoundTrip.sqdrop (f : F3) : RoundTrip.Statement (.sqdrop f) := by
  intro _
  refine decodeFields_row _ _ 0x6F (F3.opcode_pack _ f) _ ?_
  exact congrArg (fun g => some (Instr.sqdrop g)) (F3.unpack_pack _ f)

theorem RoundTrip.vadd (f : F3) : RoundTrip.Statement (.vadd f) := by
  intro _
  refine decodeFields_row _ _ 0x70 (F3.opcode_pack _ f) _ ?_
  exact congrArg (fun g => some (Instr.vadd g)) (F3.unpack_pack _ f)

theorem RoundTrip.vsub (f : F3) : RoundTrip.Statement (.vsub f) := by
  intro _
  refine decodeFields_row _ _ 0x71 (F3.opcode_pack _ f) _ ?_
  exact congrArg (fun g => some (Instr.vsub g)) (F3.unpack_pack _ f)

theorem RoundTrip.vmul (f : F3) : RoundTrip.Statement (.vmul f) := by
  intro _
  refine decodeFields_row _ _ 0x72 (F3.opcode_pack _ f) _ ?_
  exact congrArg (fun g => some (Instr.vmul g)) (F3.unpack_pack _ f)

theorem RoundTrip.vdiv (f : F3) : RoundTrip.Statement (.vdiv f) := by
  intro _
  refine decodeFields_row _ _ 0x73 (F3.opcode_pack _ f) _ ?_
  exact congrArg (fun g => some (Instr.vdiv g)) (F3.unpack_pack _ f)

theorem RoundTrip.vsqrt (f : F3) : RoundTrip.Statement (.vsqrt f) := by
  intro _
  refine decodeFields_row _ _ 0x74 (F3.opcode_pack _ f) _ ?_
  exact congrArg (fun g => some (Instr.vsqrt g)) (F3.unpack_pack _ f)

theorem RoundTrip.vfma (f : F3) : RoundTrip.Statement (.vfma f) := by
  intro _
  refine decodeFields_row _ _ 0x75 (F3.opcode_pack _ f) _ ?_
  exact congrArg (fun g => some (Instr.vfma g)) (F3.unpack_pack _ f)

theorem RoundTrip.vfms (f : F3) : RoundTrip.Statement (.vfms f) := by
  intro _
  refine decodeFields_row _ _ 0x76 (F3.opcode_pack _ f) _ ?_
  exact congrArg (fun g => some (Instr.vfms g)) (F3.unpack_pack _ f)

theorem RoundTrip.vfnma (f : F3) : RoundTrip.Statement (.vfnma f) := by
  intro _
  refine decodeFields_row _ _ 0x77 (F3.opcode_pack _ f) _ ?_
  exact congrArg (fun g => some (Instr.vfnma g)) (F3.unpack_pack _ f)

theorem RoundTrip.vfnms (f : F3) : RoundTrip.Statement (.vfnms f) := by
  intro _
  refine decodeFields_row _ _ 0x78 (F3.opcode_pack _ f) _ ?_
  exact congrArg (fun g => some (Instr.vfnms g)) (F3.unpack_pack _ f)

theorem RoundTrip.vmin (f : F3) : RoundTrip.Statement (.vmin f) := by
  intro _
  refine decodeFields_row _ _ 0x79 (F3.opcode_pack _ f) _ ?_
  exact congrArg (fun g => some (Instr.vmin g)) (F3.unpack_pack _ f)

theorem RoundTrip.vmax (f : F3) : RoundTrip.Statement (.vmax f) := by
  intro _
  refine decodeFields_row _ _ 0x7A (F3.opcode_pack _ f) _ ?_
  exact congrArg (fun g => some (Instr.vmax g)) (F3.unpack_pack _ f)

theorem RoundTrip.vabs (f : F3) : RoundTrip.Statement (.vabs f) := by
  intro _
  refine decodeFields_row _ _ 0x7B (F3.opcode_pack _ f) _ ?_
  exact congrArg (fun g => some (Instr.vabs g)) (F3.unpack_pack _ f)

theorem RoundTrip.vneg (f : F3) : RoundTrip.Statement (.vneg f) := by
  intro _
  refine decodeFields_row _ _ 0x7C (F3.opcode_pack _ f) _ ?_
  exact congrArg (fun g => some (Instr.vneg g)) (F3.unpack_pack _ f)

theorem RoundTrip.vabd (f : F3) : RoundTrip.Statement (.vabd f) := by
  intro _
  refine decodeFields_row _ _ 0x7D (F3.opcode_pack _ f) _ ?_
  exact congrArg (fun g => some (Instr.vabd g)) (F3.unpack_pack _ f)

theorem RoundTrip.vrcp (f : F3) : RoundTrip.Statement (.vrcp f) := by
  intro _
  refine decodeFields_row _ _ 0x7E (F3.opcode_pack _ f) _ ?_
  exact congrArg (fun g => some (Instr.vrcp g)) (F3.unpack_pack _ f)

theorem RoundTrip.vrsq (f : F3) : RoundTrip.Statement (.vrsq f) := by
  intro _
  refine decodeFields_row _ _ 0x7F (F3.opcode_pack _ f) _ ?_
  exact congrArg (fun g => some (Instr.vrsq g)) (F3.unpack_pack _ f)

theorem RoundTrip.vexp2 (f : F3) : RoundTrip.Statement (.vexp2 f) := by
  intro _
  refine decodeFields_row _ _ 0x80 (F3.opcode_pack _ f) _ ?_
  exact congrArg (fun g => some (Instr.vexp2 g)) (F3.unpack_pack _ f)

theorem RoundTrip.vlog2 (f : F3) : RoundTrip.Statement (.vlog2 f) := by
  intro _
  refine decodeFields_row _ _ 0x81 (F3.opcode_pack _ f) _ ?_
  exact congrArg (fun g => some (Instr.vlog2 g)) (F3.unpack_pack _ f)

theorem RoundTrip.vsin (f : F3) : RoundTrip.Statement (.vsin f) := by
  intro _
  refine decodeFields_row _ _ 0x82 (F3.opcode_pack _ f) _ ?_
  exact congrArg (fun g => some (Instr.vsin g)) (F3.unpack_pack _ f)

theorem RoundTrip.vcos (f : F3) : RoundTrip.Statement (.vcos f) := by
  intro _
  refine decodeFields_row _ _ 0x83 (F3.opcode_pack _ f) _ ?_
  exact congrArg (fun g => some (Instr.vcos g)) (F3.unpack_pack _ f)

theorem RoundTrip.vtanh (f : F3) : RoundTrip.Statement (.vtanh f) := by
  intro _
  refine decodeFields_row _ _ 0x84 (F3.opcode_pack _ f) _ ?_
  exact congrArg (fun g => some (Instr.vtanh g)) (F3.unpack_pack _ f)

theorem RoundTrip.vsigm (f : F3) : RoundTrip.Statement (.vsigm f) := by
  intro _
  refine decodeFields_row _ _ 0x85 (F3.opcode_pack _ f) _ ?_
  exact congrArg (fun g => some (Instr.vsigm g)) (F3.unpack_pack _ f)

theorem RoundTrip.vscale (f : F3) : RoundTrip.Statement (.vscale f) := by
  intro _
  refine decodeFields_row _ _ 0x86 (F3.opcode_pack _ f) _ ?_
  exact congrArg (fun g => some (Instr.vscale g)) (F3.unpack_pack _ f)

theorem RoundTrip.vround (f : F3) : RoundTrip.Statement (.vround f) := by
  intro _
  refine decodeFields_row _ _ 0x87 (F3.opcode_pack _ f) _ ?_
  exact congrArg (fun g => some (Instr.vround g)) (F3.unpack_pack _ f)

theorem RoundTrip.vclamp (f : F3) : RoundTrip.Statement (.vclamp f) := by
  intro _
  refine decodeFields_row _ _ 0x88 (F3.opcode_pack _ f) _ ?_
  exact congrArg (fun g => some (Instr.vclamp g)) (F3.unpack_pack _ f)

theorem RoundTrip.vsgnj (f : F3) : RoundTrip.Statement (.vsgnj f) := by
  intro _
  refine decodeFields_row _ _ 0x89 (F3.opcode_pack _ f) _ ?_
  exact congrArg (fun g => some (Instr.vsgnj g)) (F3.unpack_pack _ f)

theorem RoundTrip.vclass (f : F3) : RoundTrip.Statement (.vclass f) := by
  intro _
  refine decodeFields_row _ _ 0x8A (F3.opcode_pack _ f) _ ?_
  exact congrArg (fun g => some (Instr.vclass g)) (F3.unpack_pack _ f)

theorem RoundTrip.vcvt (f : F3) : RoundTrip.Statement (.vcvt f) := by
  intro _
  refine decodeFields_row _ _ 0x8B (F3.opcode_pack _ f) _ ?_
  exact congrArg (fun g => some (Instr.vcvt g)) (F3.unpack_pack _ f)

theorem RoundTrip.vdot (f : F3) : RoundTrip.Statement (.vdot f) := by
  intro _
  refine decodeFields_row _ _ 0x8C (F3.opcode_pack _ f) _ ?_
  exact congrArg (fun g => some (Instr.vdot g)) (F3.unpack_pack _ f)

theorem RoundTrip.vcmp (f : F3) : RoundTrip.Statement (.vcmp f) := by
  intro _
  refine decodeFields_row _ _ 0x8D (F3.opcode_pack _ f) _ ?_
  exact congrArg (fun g => some (Instr.vcmp g)) (F3.unpack_pack _ f)

theorem RoundTrip.vpadd (f : F3) : RoundTrip.Statement (.vpadd f) := by
  intro _
  refine decodeFields_row _ _ 0x8E (F3.opcode_pack _ f) _ ?_
  exact congrArg (fun g => some (Instr.vpadd g)) (F3.unpack_pack _ f)

theorem RoundTrip.vpack (f : F3) : RoundTrip.Statement (.vpack f) := by
  intro _
  refine decodeFields_row _ _ 0x8F (F3.opcode_pack _ f) _ ?_
  exact congrArg (fun g => some (Instr.vpack g)) (F3.unpack_pack _ f)

theorem RoundTrip.vunpack (f : F3) : RoundTrip.Statement (.vunpack f) := by
  intro _
  refine decodeFields_row _ _ 0x90 (F3.opcode_pack _ f) _ ?_
  exact congrArg (fun g => some (Instr.vunpack g)) (F3.unpack_pack _ f)

theorem RoundTrip.vredsum (f : F3) : RoundTrip.Statement (.vredsum f) := by
  intro _
  refine decodeFields_row _ _ 0x91 (F3.opcode_pack _ f) _ ?_
  exact congrArg (fun g => some (Instr.vredsum g)) (F3.unpack_pack _ f)

theorem RoundTrip.vredmax (f : F3) : RoundTrip.Statement (.vredmax f) := by
  intro _
  refine decodeFields_row _ _ 0x92 (F3.opcode_pack _ f) _ ?_
  exact congrArg (fun g => some (Instr.vredmax g)) (F3.unpack_pack _ f)

theorem RoundTrip.vredmin (f : F3) : RoundTrip.Statement (.vredmin f) := by
  intro _
  refine decodeFields_row _ _ 0x93 (F3.opcode_pack _ f) _ ?_
  exact congrArg (fun g => some (Instr.vredmin g)) (F3.unpack_pack _ f)

theorem RoundTrip.vredadd (f : F3) : RoundTrip.Statement (.vredadd f) := by
  intro _
  refine decodeFields_row _ _ 0x94 (F3.opcode_pack _ f) _ ?_
  exact congrArg (fun g => some (Instr.vredadd g)) (F3.unpack_pack _ f)

theorem RoundTrip.vredand (f : F3) : RoundTrip.Statement (.vredand f) := by
  intro _
  refine decodeFields_row _ _ 0x95 (F3.opcode_pack _ f) _ ?_
  exact congrArg (fun g => some (Instr.vredand g)) (F3.unpack_pack _ f)

theorem RoundTrip.vredor (f : F3) : RoundTrip.Statement (.vredor f) := by
  intro _
  refine decodeFields_row _ _ 0x96 (F3.opcode_pack _ f) _ ?_
  exact congrArg (fun g => some (Instr.vredor g)) (F3.unpack_pack _ f)

theorem RoundTrip.vredxor (f : F3) : RoundTrip.Statement (.vredxor f) := by
  intro _
  refine decodeFields_row _ _ 0x97 (F3.opcode_pack _ f) _ ?_
  exact congrArg (fun g => some (Instr.vredxor g)) (F3.unpack_pack _ f)

theorem RoundTrip.viadd (f : F3) : RoundTrip.Statement (.viadd f) := by
  intro _
  refine decodeFields_row _ _ 0x98 (F3.opcode_pack _ f) _ ?_
  exact congrArg (fun g => some (Instr.viadd g)) (F3.unpack_pack _ f)

theorem RoundTrip.visub (f : F3) : RoundTrip.Statement (.visub f) := by
  intro _
  refine decodeFields_row _ _ 0x99 (F3.opcode_pack _ f) _ ?_
  exact congrArg (fun g => some (Instr.visub g)) (F3.unpack_pack _ f)

theorem RoundTrip.vimul (f : F3) : RoundTrip.Statement (.vimul f) := by
  intro _
  refine decodeFields_row _ _ 0x9A (F3.opcode_pack _ f) _ ?_
  exact congrArg (fun g => some (Instr.vimul g)) (F3.unpack_pack _ f)

theorem RoundTrip.vimulh (f : F3) : RoundTrip.Statement (.vimulh f) := by
  intro _
  refine decodeFields_row _ _ 0x9B (F3.opcode_pack _ f) _ ?_
  exact congrArg (fun g => some (Instr.vimulh g)) (F3.unpack_pack _ f)

theorem RoundTrip.vimac (f : F3) : RoundTrip.Statement (.vimac f) := by
  intro _
  refine decodeFields_row _ _ 0x9C (F3.opcode_pack _ f) _ ?_
  exact congrArg (fun g => some (Instr.vimac g)) (F3.unpack_pack _ f)

theorem RoundTrip.vand (f : F3) : RoundTrip.Statement (.vand f) := by
  intro _
  refine decodeFields_row _ _ 0x9D (F3.opcode_pack _ f) _ ?_
  exact congrArg (fun g => some (Instr.vand g)) (F3.unpack_pack _ f)

theorem RoundTrip.vor (f : F3) : RoundTrip.Statement (.vor f) := by
  intro _
  refine decodeFields_row _ _ 0x9E (F3.opcode_pack _ f) _ ?_
  exact congrArg (fun g => some (Instr.vor g)) (F3.unpack_pack _ f)

theorem RoundTrip.vxor (f : F3) : RoundTrip.Statement (.vxor f) := by
  intro _
  refine decodeFields_row _ _ 0x9F (F3.opcode_pack _ f) _ ?_
  exact congrArg (fun g => some (Instr.vxor g)) (F3.unpack_pack _ f)

theorem RoundTrip.vandn (f : F3) : RoundTrip.Statement (.vandn f) := by
  intro _
  refine decodeFields_row _ _ 0xA0 (F3.opcode_pack _ f) _ ?_
  exact congrArg (fun g => some (Instr.vandn g)) (F3.unpack_pack _ f)

theorem RoundTrip.vshl (f : F3) : RoundTrip.Statement (.vshl f) := by
  intro _
  refine decodeFields_row _ _ 0xA1 (F3.opcode_pack _ f) _ ?_
  exact congrArg (fun g => some (Instr.vshl g)) (F3.unpack_pack _ f)

theorem RoundTrip.vshr (f : F3) : RoundTrip.Statement (.vshr f) := by
  intro _
  refine decodeFields_row _ _ 0xA2 (F3.opcode_pack _ f) _ ?_
  exact congrArg (fun g => some (Instr.vshr g)) (F3.unpack_pack _ f)

theorem RoundTrip.vsra (f : F3) : RoundTrip.Statement (.vsra f) := by
  intro _
  refine decodeFields_row _ _ 0xA3 (F3.opcode_pack _ f) _ ?_
  exact congrArg (fun g => some (Instr.vsra g)) (F3.unpack_pack _ f)

theorem RoundTrip.vimin (f : F3) : RoundTrip.Statement (.vimin f) := by
  intro _
  refine decodeFields_row _ _ 0xA4 (F3.opcode_pack _ f) _ ?_
  exact congrArg (fun g => some (Instr.vimin g)) (F3.unpack_pack _ f)

theorem RoundTrip.vimax (f : F3) : RoundTrip.Statement (.vimax f) := by
  intro _
  refine decodeFields_row _ _ 0xA5 (F3.opcode_pack _ f) _ ?_
  exact congrArg (fun g => some (Instr.vimax g)) (F3.unpack_pack _ f)

theorem RoundTrip.viminn (f : F3) : RoundTrip.Statement (.viminn f) := by
  intro _
  refine decodeFields_row _ _ 0xA6 (F3.opcode_pack _ f) _ ?_
  exact congrArg (fun g => some (Instr.viminn g)) (F3.unpack_pack _ f)

theorem RoundTrip.vimaxn (f : F3) : RoundTrip.Statement (.vimaxn f) := by
  intro _
  refine decodeFields_row _ _ 0xA7 (F3.opcode_pack _ f) _ ?_
  exact congrArg (fun g => some (Instr.vimaxn g)) (F3.unpack_pack _ f)

theorem RoundTrip.vicmp (f : F3) : RoundTrip.Statement (.vicmp f) := by
  intro _
  refine decodeFields_row _ _ 0xA8 (F3.opcode_pack _ f) _ ?_
  exact congrArg (fun g => some (Instr.vicmp g)) (F3.unpack_pack _ f)

theorem RoundTrip.viabs (f : F3) : RoundTrip.Statement (.viabs f) := by
  intro _
  refine decodeFields_row _ _ 0xA9 (F3.opcode_pack _ f) _ ?_
  exact congrArg (fun g => some (Instr.viabs g)) (F3.unpack_pack _ f)

theorem RoundTrip.vineg (f : F3) : RoundTrip.Statement (.vineg f) := by
  intro _
  refine decodeFields_row _ _ 0xAA (F3.opcode_pack _ f) _ ?_
  exact congrArg (fun g => some (Instr.vineg g)) (F3.unpack_pack _ f)

theorem RoundTrip.vpopc (f : F3) : RoundTrip.Statement (.vpopc f) := by
  intro _
  refine decodeFields_row _ _ 0xAB (F3.opcode_pack _ f) _ ?_
  exact congrArg (fun g => some (Instr.vpopc g)) (F3.unpack_pack _ f)

theorem RoundTrip.vclz (f : F3) : RoundTrip.Statement (.vclz f) := by
  intro _
  refine decodeFields_row _ _ 0xAC (F3.opcode_pack _ f) _ ?_
  exact congrArg (fun g => some (Instr.vclz g)) (F3.unpack_pack _ f)

theorem RoundTrip.vsel (f : F3) : RoundTrip.Statement (.vsel f) := by
  intro _
  refine decodeFields_row _ _ 0xAD (F3.opcode_pack _ f) _ ?_
  exact congrArg (fun g => some (Instr.vsel g)) (F3.unpack_pack _ f)

theorem RoundTrip.vperm (f : F3) : RoundTrip.Statement (.vperm f) := by
  intro _
  refine decodeFields_row _ _ 0xAE (F3.opcode_pack _ f) _ ?_
  exact congrArg (fun g => some (Instr.vperm g)) (F3.unpack_pack _ f)

theorem RoundTrip.vshuf (f : F3) : RoundTrip.Statement (.vshuf f) := by
  intro _
  refine decodeFields_row _ _ 0xAF (F3.opcode_pack _ f) _ ?_
  exact congrArg (fun g => some (Instr.vshuf g)) (F3.unpack_pack _ f)

theorem RoundTrip.vbcast (f : F3) : RoundTrip.Statement (.vbcast f) := by
  intro _
  refine decodeFields_row _ _ 0xB0 (F3.opcode_pack _ f) _ ?_
  exact congrArg (fun g => some (Instr.vbcast g)) (F3.unpack_pack _ f)

theorem RoundTrip.vmov (f : F3) : RoundTrip.Statement (.vmov f) := by
  intro _
  refine decodeFields_row _ _ 0xB1 (F3.opcode_pack _ f) _ ?_
  exact congrArg (fun g => some (Instr.vmov g)) (F3.unpack_pack _ f)

theorem RoundTrip.vzip (f : F3) : RoundTrip.Statement (.vzip f) := by
  intro _
  refine decodeFields_row _ _ 0xB2 (F3.opcode_pack _ f) _ ?_
  exact congrArg (fun g => some (Instr.vzip g)) (F3.unpack_pack _ f)

theorem RoundTrip.vunzip (f : F3) : RoundTrip.Statement (.vunzip f) := by
  intro _
  refine decodeFields_row _ _ 0xB3 (F3.opcode_pack _ f) _ ?_
  exact congrArg (fun g => some (Instr.vunzip g)) (F3.unpack_pack _ f)

theorem RoundTrip.vcompress (f : F3) : RoundTrip.Statement (.vcompress f) := by
  intro _
  refine decodeFields_row _ _ 0xB4 (F3.opcode_pack _ f) _ ?_
  exact congrArg (fun g => some (Instr.vcompress g)) (F3.unpack_pack _ f)

theorem RoundTrip.vexpand (f : F3) : RoundTrip.Statement (.vexpand f) := by
  intro _
  refine decodeFields_row _ _ 0xB5 (F3.opcode_pack _ f) _ ?_
  exact congrArg (fun g => some (Instr.vexpand g)) (F3.unpack_pack _ f)

theorem RoundTrip.vidx (f : F3) : RoundTrip.Statement (.vidx f) := by
  intro _
  refine decodeFields_row _ _ 0xB6 (F3.opcode_pack _ f) _ ?_
  exact congrArg (fun g => some (Instr.vidx g)) (F3.unpack_pack _ f)

theorem RoundTrip.vpop (f : F3) : RoundTrip.Statement (.vpop f) := by
  intro _
  refine decodeFields_row _ _ 0xB7 (F3.opcode_pack _ f) _ ?_
  exact congrArg (fun g => some (Instr.vpop g)) (F3.unpack_pack _ f)

theorem RoundTrip.vpush (f : F3) : RoundTrip.Statement (.vpush f) := by
  intro _
  refine decodeFields_row _ _ 0xB8 (F3.opcode_pack _ f) _ ?_
  exact congrArg (fun g => some (Instr.vpush g)) (F3.unpack_pack _ f)

theorem RoundTrip.mand (f : F3) : RoundTrip.Statement (.mand f) := by
  intro _
  refine decodeFields_row _ _ 0xB9 (F3.opcode_pack _ f) _ ?_
  exact congrArg (fun g => some (Instr.mand g)) (F3.unpack_pack _ f)

theorem RoundTrip.mor (f : F3) : RoundTrip.Statement (.mor f) := by
  intro _
  refine decodeFields_row _ _ 0xBA (F3.opcode_pack _ f) _ ?_
  exact congrArg (fun g => some (Instr.mor g)) (F3.unpack_pack _ f)

theorem RoundTrip.mxor (f : F3) : RoundTrip.Statement (.mxor f) := by
  intro _
  refine decodeFields_row _ _ 0xBB (F3.opcode_pack _ f) _ ?_
  exact congrArg (fun g => some (Instr.mxor g)) (F3.unpack_pack _ f)

theorem RoundTrip.mandn (f : F3) : RoundTrip.Statement (.mandn f) := by
  intro _
  refine decodeFields_row _ _ 0xBC (F3.opcode_pack _ f) _ ?_
  exact congrArg (fun g => some (Instr.mandn g)) (F3.unpack_pack _ f)

theorem RoundTrip.mnot (f : F3) : RoundTrip.Statement (.mnot f) := by
  intro _
  refine decodeFields_row _ _ 0xBD (F3.opcode_pack _ f) _ ?_
  exact congrArg (fun g => some (Instr.mnot g)) (F3.unpack_pack _ f)

theorem RoundTrip.mmov (f : F3) : RoundTrip.Statement (.mmov f) := by
  intro _
  refine decodeFields_row _ _ 0xBE (F3.opcode_pack _ f) _ ?_
  exact congrArg (fun g => some (Instr.mmov g)) (F3.unpack_pack _ f)

theorem RoundTrip.mset (f : F3) : RoundTrip.Statement (.mset f) := by
  intro _
  refine decodeFields_row _ _ 0xBF (F3.opcode_pack _ f) _ ?_
  exact congrArg (fun g => some (Instr.mset g)) (F3.unpack_pack _ f)

theorem RoundTrip.mget (f : F3) : RoundTrip.Statement (.mget f) := by
  intro _
  refine decodeFields_row _ _ 0xC0 (F3.opcode_pack _ f) _ ?_
  exact congrArg (fun g => some (Instr.mget g)) (F3.unpack_pack _ f)

theorem RoundTrip.mcnt (f : F3) : RoundTrip.Statement (.mcnt f) := by
  intro _
  refine decodeFields_row _ _ 0xC1 (F3.opcode_pack _ f) _ ?_
  exact congrArg (fun g => some (Instr.mcnt g)) (F3.unpack_pack _ f)

theorem RoundTrip.ckacc (f : F3) : RoundTrip.Statement (.ckacc f) := by
  intro _
  refine decodeFields_row _ _ 0xC2 (F3.opcode_pack _ f) _ ?_
  exact congrArg (fun g => some (Instr.ckacc g)) (F3.unpack_pack _ f)

theorem RoundTrip.ckchk (f : F3) : RoundTrip.Statement (.ckchk f) := by
  intro _
  refine decodeFields_row _ _ 0xC3 (F3.opcode_pack _ f) _ ?_
  exact congrArg (fun g => some (Instr.ckchk g)) (F3.unpack_pack _ f)

theorem RoundTrip.ckclr (f : F3) : RoundTrip.Statement (.ckclr f) := by
  intro _
  refine decodeFields_row _ _ 0xC4 (F3.opcode_pack _ f) _ ?_
  exact congrArg (fun g => some (Instr.ckclr g)) (F3.unpack_pack _ f)

theorem RoundTrip.ckget (f : F3) : RoundTrip.Statement (.ckget f) := by
  intro _
  refine decodeFields_row _ _ 0xC5 (F3.opcode_pack _ f) _ ?_
  exact congrArg (fun g => some (Instr.ckget g)) (F3.unpack_pack _ f)

theorem RoundTrip.mfirst (f : F3) : RoundTrip.Statement (.mfirst f) := by
  intro _
  refine decodeFields_row _ _ 0xC6 (F3.opcode_pack _ f) _ ?_
  exact congrArg (fun g => some (Instr.mfirst g)) (F3.unpack_pack _ f)

theorem RoundTrip.viaddi (f : FI) : RoundTrip.Statement (.viaddi f) := by
  intro _
  refine decodeFields_row _ _ 0xC7 (FI.opcode_pack _ f) _ ?_
  exact congrArg (fun g => some (Instr.viaddi g)) (FI.unpack_pack _ f)

theorem RoundTrip.vshli (f : FI) : RoundTrip.Statement (.vshli f) := by
  intro _
  refine decodeFields_row _ _ 0xC8 (FI.opcode_pack _ f) _ ?_
  exact congrArg (fun g => some (Instr.vshli g)) (FI.unpack_pack _ f)

theorem RoundTrip.vshri (f : FI) : RoundTrip.Statement (.vshri f) := by
  intro _
  refine decodeFields_row _ _ 0xC9 (FI.opcode_pack _ f) _ ?_
  exact congrArg (fun g => some (Instr.vshri g)) (FI.unpack_pack _ f)

theorem RoundTrip.vsrai (f : FI) : RoundTrip.Statement (.vsrai f) := by
  intro _
  refine decodeFields_row _ _ 0xCA (FI.opcode_pack _ f) _ ?_
  exact congrArg (fun g => some (Instr.vsrai g)) (FI.unpack_pack _ f)

theorem RoundTrip.vext (f : FI) : RoundTrip.Statement (.vext f) := by
  intro _
  refine decodeFields_row _ _ 0xCB (FI.opcode_pack _ f) _ ?_
  exact congrArg (fun g => some (Instr.vext g)) (FI.unpack_pack _ f)

theorem RoundTrip.vins (f : FI) : RoundTrip.Statement (.vins f) := by
  intro _
  refine decodeFields_row _ _ 0xCC (FI.opcode_pack _ f) _ ?_
  exact congrArg (fun g => some (Instr.vins g)) (FI.unpack_pack _ f)

theorem RoundTrip.vslide (f : FI) : RoundTrip.Statement (.vslide f) := by
  intro _
  refine decodeFields_row _ _ 0xCD (FI.opcode_pack _ f) _ ?_
  exact congrArg (fun g => some (Instr.vslide g)) (FI.unpack_pack _ f)

theorem RoundTrip.vimm (f : FI) : RoundTrip.Statement (.vimm f) := by
  intro _
  refine decodeFields_row _ _ 0xCE (FI.opcode_pack _ f) _ ?_
  exact congrArg (fun g => some (Instr.vimm g)) (FI.unpack_pack _ f)

theorem RoundTrip.vlimm (f : FL) (lit : W64) : RoundTrip.Statement (.vlimm f lit) := by
  intro _
  refine decodeFields_row _ _ 0xCF (FL.opcode_pack _ f) _ ?_
  exact congrArg (fun g => some (Instr.vlimm g lit)) (FL.unpack_pack _ f)

theorem RoundTrip.revoke (f : F3) : RoundTrip.Statement (.revoke f) := by
  intro _
  refine decodeFields_row _ _ 0xD0 (F3.opcode_pack _ f) _ ?_
  exact congrArg (fun g => some (Instr.revoke g)) (F3.unpack_pack _ f)

theorem RoundTrip.grant (f : F3) : RoundTrip.Statement (.grant f) := by
  intro _
  refine decodeFields_row _ _ 0xD1 (F3.opcode_pack _ f) _ ?_
  exact congrArg (fun g => some (Instr.grant g)) (F3.unpack_pack _ f)

theorem RoundTrip.tsweep (f : F3) : RoundTrip.Statement (.tsweep f) := by
  intro _
  refine decodeFields_row _ _ 0xD2 (F3.opcode_pack _ f) _ ?_
  exact congrArg (fun g => some (Instr.tsweep g)) (F3.unpack_pack _ f)

theorem RoundTrip.tcflush (f : F3) : RoundTrip.Statement (.tcflush f) := by
  intro _
  refine decodeFields_row _ _ 0xD3 (F3.opcode_pack _ f) _ ?_
  exact congrArg (fun g => some (Instr.tcflush g)) (F3.unpack_pack _ f)

theorem RoundTrip.pgclass (f : F3) : RoundTrip.Statement (.pgclass f) := by
  intro _
  refine decodeFields_row _ _ 0xD4 (F3.opcode_pack _ f) _ ?_
  exact congrArg (fun g => some (Instr.pgclass g)) (F3.unpack_pack _ f)

theorem RoundTrip.ckpt (f : FI) : RoundTrip.Statement (.ckpt f) := by
  intro _
  refine decodeFields_row _ _ 0xD5 (FI.opcode_pack _ f) _ ?_
  exact congrArg (fun g => some (Instr.ckpt g)) (FI.unpack_pack _ f)

theorem RoundTrip.ckroll (f : FI) : RoundTrip.Statement (.ckroll f) := by
  intro _
  refine decodeFields_row _ _ 0xD6 (FI.opcode_pack _ f) _ ?_
  exact congrArg (fun g => some (Instr.ckroll g)) (FI.unpack_pack _ f)

theorem RoundTrip.roleset (f : FI) : RoundTrip.Statement (.roleset f) := by
  intro _
  refine decodeFields_row _ _ 0xD7 (FI.opcode_pack _ f) _ ?_
  exact congrArg (fun g => some (Instr.roleset g)) (FI.unpack_pack _ f)

theorem RoundTrip.csrr (f : FL) : RoundTrip.Statement (.csrr f) := by
  intro _
  refine decodeFields_row _ _ 0xD8 (FL.opcode_pack _ f) _ ?_
  exact congrArg (fun g => some (Instr.csrr g)) (FL.unpack_pack _ f)

theorem RoundTrip.csrw (f : FL) : RoundTrip.Statement (.csrw f) := by
  intro _
  refine decodeFields_row _ _ 0xD9 (FL.opcode_pack _ f) _ ?_
  exact congrArg (fun g => some (Instr.csrw g)) (FL.unpack_pack _ f)

theorem RoundTrip.syscall (f : FI) : RoundTrip.Statement (.syscall f) := by
  intro _
  refine decodeFields_row _ _ 0xDA (FI.opcode_pack _ f) _ ?_
  exact congrArg (fun g => some (Instr.syscall g)) (FI.unpack_pack _ f)

theorem RoundTrip.tret (f : FI) : RoundTrip.Statement (.tret f) := by
  intro _
  refine decodeFields_row _ _ 0xDB (FI.opcode_pack _ f) _ ?_
  exact congrArg (fun g => some (Instr.tret g)) (FI.unpack_pack _ f)

theorem RoundTrip.halt (f : FI) : RoundTrip.Statement (.halt f) := by
  intro _
  refine decodeFields_row _ _ 0xDC (FI.opcode_pack _ f) _ ?_
  exact congrArg (fun g => some (Instr.halt g)) (FI.unpack_pack _ f)

theorem RoundTrip.ctxsaveKeep (f : F3) : RoundTrip.Statement (.ctxsaveKeep f) := by
  intro h
  simp [Instr.wf] at h
  refine decodeFields_row _ _ 0xDD (F3.opcode_pack _ f) _ ?_
  have e : (encode (.ctxsaveKeep f)).extractLsb' 7 4 = f.fn := F3.fn_pack _ f
  have u : F3.unpack (encode (.ctxsaveKeep f)) = f := F3.unpack_pack _ f
  simp only [decodeRowD, e, u]
  simp [h]

theorem RoundTrip.ctxsaveDrop (f : F3) : RoundTrip.Statement (.ctxsaveDrop f) := by
  intro h
  simp [Instr.wf] at h
  refine decodeFields_row _ _ 0xDD (F3.opcode_pack _ f) _ ?_
  have e : (encode (.ctxsaveDrop f)).extractLsb' 7 4 = f.fn := F3.fn_pack _ f
  have u : F3.unpack (encode (.ctxsaveDrop f)) = f := F3.unpack_pack _ f
  simp only [decodeRowD, e, u]
  simp [h]

theorem RoundTrip.ctxload (f : F3) : RoundTrip.Statement (.ctxload f) := by
  intro h
  simp [Instr.wf] at h
  refine decodeFields_row _ _ 0xDE (F3.opcode_pack _ f) _ ?_
  have e : (encode (.ctxload f)).extractLsb' 7 4 = f.fn := F3.fn_pack _ f
  have u : F3.unpack (encode (.ctxload f)) = f := F3.unpack_pack _ f
  simp only [decodeRowD, e, u]
  simp [h]

theorem RoundTrip.ctxloadEvict (f : F3) : RoundTrip.Statement (.ctxloadEvict f) := by
  intro h
  simp [Instr.wf] at h
  refine decodeFields_row _ _ 0xDE (F3.opcode_pack _ f) _ ?_
  have e : (encode (.ctxloadEvict f)).extractLsb' 7 4 = f.fn := F3.fn_pack _ f
  have u : F3.unpack (encode (.ctxloadEvict f)) = f := F3.unpack_pack _ f
  simp only [decodeRowD, e, u]
  simp [h]

theorem RoundTrip.stest (f : FI) : RoundTrip.Statement (.stest f) := by
  intro _
  refine decodeFields_row _ _ 0xDF (FI.opcode_pack _ f) _ ?_
  exact congrArg (fun g => some (Instr.stest g)) (FI.unpack_pack _ f)

theorem RoundTrip.shelfput (f : F3) : RoundTrip.Statement (.shelfput f) := by
  intro _
  refine decodeFields_row _ _ 0xE0 (F3.opcode_pack _ f) _ ?_
  exact congrArg (fun g => some (Instr.shelfput g)) (F3.unpack_pack _ f)

theorem RoundTrip.lineFetch (core : Nat) (str : Stream) : RoundTrip.Statement (.lineFetch core str) :=
  fun h => nomatch h

theorem RoundTrip.launchRecord (die : Nat) (ctx : Nat) (src : QAddr) : RoundTrip.Statement (.launchRecord die ctx src) :=
  fun h => nomatch h

theorem RoundTrip.benchWaitEnd (die : Nat) : RoundTrip.Statement (.benchWaitEnd die) :=
  fun h => nomatch h

theorem RoundTrip.poolSlotWaitEnd (die : Nat) : RoundTrip.Statement (.poolSlotWaitEnd die) :=
  fun h => nomatch h

theorem RoundTrip.feedAppend (die : Nat) (ctx : Nat) (src : QAddr) : RoundTrip.Statement (.feedAppend die ctx src) :=
  fun h => nomatch h

theorem RoundTrip.feedWake (core : Nat) : RoundTrip.Statement (.feedWake core) :=
  fun h => nomatch h

theorem RoundTrip.fabricLaunch (die : Nat) (p : Packet) : RoundTrip.Statement (.fabricLaunch die p) :=
  fun h => nomatch h

theorem RoundTrip.residencyRequest (die : Nat) (p : Packet) : RoundTrip.Statement (.residencyRequest die p) :=
  fun h => nomatch h

theorem RoundTrip.pickup (core : Nat) : RoundTrip.Statement (.pickup core) :=
  fun h => nomatch h

theorem RoundTrip.effectiveLevelRise (die : Nat) : RoundTrip.Statement (.effectiveLevelRise die) :=
  fun h => nomatch h

theorem RoundTrip.spawnReady (die : Nat) (slot : Nat) : RoundTrip.Statement (.spawnReady die slot) :=
  fun h => nomatch h

theorem RoundTrip.waiterWake (die : Nat) (slot : Nat) : RoundTrip.Statement (.waiterWake die slot) :=
  fun h => nomatch h

theorem RoundTrip.remqUnblock (die : Nat) (slot : Nat) : RoundTrip.Statement (.remqUnblock die slot) :=
  fun h => nomatch h

theorem RoundTrip.phaseCountArrival (dst : Nat) (src : Nat) (group : GroupKey) (value : BitVec 32) : RoundTrip.Statement (.phaseCountArrival dst src group value) :=
  fun h => nomatch h

theorem RoundTrip.barrierCountArrival (dst : Nat) (src : Nat) (group : GroupKey) (value : BitVec 32) : RoundTrip.Statement (.barrierCountArrival dst src group value) :=
  fun h => nomatch h

theorem RoundTrip.jobDispatch (core : Nat) (matrix : Bool) : RoundTrip.Statement (.jobDispatch core matrix) :=
  fun h => nomatch h

theorem RoundTrip.shareGrant (die : Nat) : RoundTrip.Statement (.shareGrant die) :=
  fun h => nomatch h

theorem RoundTrip.shareWaitExpiry (core : Nat) (slot : Nat) : RoundTrip.Statement (.shareWaitExpiry core slot) :=
  fun h => nomatch h

theorem RoundTrip.jobCompletion (core : Nat) (slot : Nat) : RoundTrip.Statement (.jobCompletion core slot) :=
  fun h => nomatch h

theorem RoundTrip.signalUpdateAck (core : Nat) (slot : Nat) : RoundTrip.Statement (.signalUpdateAck core slot) :=
  fun h => nomatch h

theorem RoundTrip.shadowLoad (core : Nat) : RoundTrip.Statement (.shadowLoad core) :=
  fun h => nomatch h

theorem RoundTrip.planeSwap (core : Nat) : RoundTrip.Statement (.planeSwap core) :=
  fun h => nomatch h

theorem RoundTrip.matrixPass (core : Nat) : RoundTrip.Statement (.matrixPass core) :=
  fun h => nomatch h

theorem RoundTrip.retirement (core : Nat) : RoundTrip.Statement (.retirement core) :=
  fun h => nomatch h

theorem RoundTrip.copyLine (core : Nat) : RoundTrip.Statement (.copyLine core) :=
  fun h => nomatch h

theorem RoundTrip.copyLineComplete (core : Nat) : RoundTrip.Statement (.copyLineComplete core) :=
  fun h => nomatch h

theorem RoundTrip.reduceContribution (c : Contribution) : RoundTrip.Statement (.reduceContribution c) :=
  fun h => nomatch h

theorem RoundTrip.mcastMemberWrite (core : Nat) (m : McastWrite) : RoundTrip.Statement (.mcastMemberWrite core m) :=
  fun h => nomatch h

theorem RoundTrip.tableFreeze (die : Nat) (slot : Nat) (lens : List Nat) : RoundTrip.Statement (.tableFreeze die slot lens) :=
  fun h => nomatch h

theorem RoundTrip.requestPerform (core : Nat) (str : Stream) : RoundTrip.Statement (.requestPerform core str) :=
  fun h => nomatch h

theorem RoundTrip.xResultLanding (core : Nat) : RoundTrip.Statement (.xResultLanding core) :=
  fun h => nomatch h

theorem RoundTrip.translationComplete (core : Nat) : RoundTrip.Statement (.translationComplete core) :=
  fun h => nomatch h

theorem RoundTrip.shootDown (core : Nat) (ctx : Nat) (index : Nat) : RoundTrip.Statement (.shootDown core ctx index) :=
  fun h => nomatch h

theorem RoundTrip.drainComplete (ctx : Nat) (index : Nat) : RoundTrip.Statement (.drainComplete ctx index) :=
  fun h => nomatch h

theorem RoundTrip.pinRequest (p : Packet) : RoundTrip.Statement (.pinRequest p) :=
  fun h => nomatch h

theorem RoundTrip.unpinRequest (p : Packet) : RoundTrip.Statement (.unpinRequest p) :=
  fun h => nomatch h

theorem RoundTrip.tierMove (frame : Nat) (size : Nat) (dest : Nat) : RoundTrip.Statement (.tierMove frame size dest) :=
  fun h => nomatch h

theorem RoundTrip.migrationLineCopy (page : Nat) (size : Nat) (peer : Nat) (dest : Nat) : RoundTrip.Statement (.migrationLineCopy page size peer dest) :=
  fun h => nomatch h

theorem RoundTrip.migrationRetry (p : Packet) : RoundTrip.Statement (.migrationRetry p) :=
  fun h => nomatch h

theorem RoundTrip.rds (core : Nat) (line : Nat) : RoundTrip.Statement (.rds core line) :=
  fun h => nomatch h

theorem RoundTrip.rdx (core : Nat) (line : Nat) : RoundTrip.Statement (.rdx core line) :=
  fun h => nomatch h

theorem RoundTrip.upg (core : Nat) (line : Nat) : RoundTrip.Statement (.upg core line) :=
  fun h => nomatch h

theorem RoundTrip.wb (core : Nat) (line : Nat) : RoundTrip.Statement (.wb core line) :=
  fun h => nomatch h

theorem RoundTrip.drop (core : Nat) (line : Nat) : RoundTrip.Statement (.drop core line) :=
  fun h => nomatch h

theorem RoundTrip.snoop (core : Nat) (line : Nat) (inv : Bool) : RoundTrip.Statement (.snoop core line inv) :=
  fun h => nomatch h

theorem RoundTrip.readPacket (p : Packet) : RoundTrip.Statement (.readPacket p) :=
  fun h => nomatch h

theorem RoundTrip.writePacket (p : Packet) : RoundTrip.Statement (.writePacket p) :=
  fun h => nomatch h

theorem RoundTrip.atomicPacket (p : Packet) : RoundTrip.Statement (.atomicPacket p) :=
  fun h => nomatch h

theorem RoundTrip.signalUpdatePacket (p : Packet) : RoundTrip.Statement (.signalUpdatePacket p) :=
  fun h => nomatch h

theorem RoundTrip.replyPacket (p : Packet) : RoundTrip.Statement (.replyPacket p) :=
  fun h => nomatch h

theorem RoundTrip.commitNotice (name : BitVec 32) (stamp : Nat) : RoundTrip.Statement (.commitNotice name stamp) :=
  fun h => nomatch h

theorem RoundTrip.stampRequest (peer : Nat) (name : BitVec 32) : RoundTrip.Statement (.stampRequest peer name) :=
  fun h => nomatch h

theorem RoundTrip.stampReceived (name : BitVec 32) (stamp : Nat) : RoundTrip.Statement (.stampReceived name stamp) :=
  fun h => nomatch h

theorem RoundTrip.bundleRecordRequest (p : Packet) : RoundTrip.Statement (.bundleRecordRequest p) :=
  fun h => nomatch h

theorem RoundTrip.recordFree (index : Nat) : RoundTrip.Statement (.recordFree index) :=
  fun h => nomatch h

theorem RoundTrip.managementPacket (p : Packet) : RoundTrip.Statement (.managementPacket p) :=
  fun h => nomatch h

theorem RoundTrip.drainMarker (die : Nat) (link : Nat) (rq : Nat) : RoundTrip.Statement (.drainMarker die link rq) :=
  fun h => nomatch h

theorem RoundTrip.packetForward (p : Packet) : RoundTrip.Statement (.packetForward p) :=
  fun h => nomatch h

theorem RoundTrip.retransmission (peer : Nat) (die : Nat) (id : Nat) : RoundTrip.Statement (.retransmission peer die id) :=
  fun h => nomatch h

theorem RoundTrip.requestUnresolved (peer : Nat) (die : Nat) (id : Nat) : RoundTrip.Statement (.requestUnresolved peer die id) :=
  fun h => nomatch h

theorem RoundTrip.dataFlit (die : Nat) (link : Nat) (flit : BitVec 512) (side : List W64) : RoundTrip.Statement (.dataFlit die link flit side) :=
  fun h => nomatch h

theorem RoundTrip.replay (die : Nat) (link : Nat) (seq : Nat) : RoundTrip.Statement (.replay die link seq) :=
  fun h => nomatch h

theorem RoundTrip.controlFlit (die : Nat) (link : Nat) (flit : BitVec 512) : RoundTrip.Statement (.controlFlit die link flit) :=
  fun h => nomatch h

theorem RoundTrip.freedRefresh (peer : Nat) (rq : Nat) : RoundTrip.Statement (.freedRefresh peer rq) :=
  fun h => nomatch h

theorem RoundTrip.linkOutOfService (die : Nat) (link : Nat) : RoundTrip.Statement (.linkOutOfService die link) :=
  fun h => nomatch h

theorem RoundTrip.errorWindowEnd (die : Nat) (link : Nat) (wave : Nat) (errs : Nat) : RoundTrip.Statement (.errorWindowEnd die link wave errs) :=
  fun h => nomatch h

theorem RoundTrip.flitBoundarySwitch (die : Nat) (link : Nat) (wave : Nat) : RoundTrip.Statement (.flitBoundarySwitch die link wave) :=
  fun h => nomatch h

theorem RoundTrip.trainingSuccess (die : Nat) (link : Nat) (wave : Nat) (far : Nat) : RoundTrip.Statement (.trainingSuccess die link wave far) :=
  fun h => nomatch h

theorem RoundTrip.trainingAttemptFail (die : Nat) (link : Nat) (wave : Nat) : RoundTrip.Statement (.trainingAttemptFail die link wave) :=
  fun h => nomatch h

theorem RoundTrip.reconfigureFabric (c : Cmd) : RoundTrip.Statement (.reconfigureFabric c) :=
  fun h => nomatch h

theorem RoundTrip.reconfigHold : RoundTrip.Statement (.reconfigHold) :=
  fun h => nomatch h

theorem RoundTrip.reconfigDrain : RoundTrip.Statement (.reconfigDrain) :=
  fun h => nomatch h

theorem RoundTrip.reconfigDark : RoundTrip.Statement (.reconfigDark) :=
  fun h => nomatch h

theorem RoundTrip.reconfigRelock : RoundTrip.Statement (.reconfigRelock) :=
  fun h => nomatch h

theorem RoundTrip.relockTimeout : RoundTrip.Statement (.relockTimeout) :=
  fun h => nomatch h

theorem RoundTrip.reconfigRoutes (plan : RoutesPlan) : RoundTrip.Statement (.reconfigRoutes plan) :=
  fun h => nomatch h

theorem RoundTrip.reconfigRun : RoundTrip.Statement (.reconfigRun) :=
  fun h => nomatch h

theorem RoundTrip.trapDelivery (core : Nat) : RoundTrip.Statement (.trapDelivery core) :=
  fun h => nomatch h

theorem RoundTrip.preemption (core : Nat) (pa : Nat) (release : Bool) : RoundTrip.Statement (.preemption core pa release) :=
  fun h => nomatch h

theorem RoundTrip.selfTest (kind : Nat) (index : Nat) (outcome : Nat) : RoundTrip.Statement (.selfTest kind index outcome) :=
  fun h => nomatch h

theorem RoundTrip.powerLimitChange (sizes : List Nat) : RoundTrip.Statement (.powerLimitChange sizes) :=
  fun h => nomatch h

theorem RoundTrip.bootStep (number : Nat) (ok : Bool) (stamp : BitVec 64) : RoundTrip.Statement (.bootStep number ok stamp) :=
  fun h => nomatch h

theorem RoundTrip.heartbeat : RoundTrip.Statement (.heartbeat) :=
  fun h => nomatch h

theorem RoundTrip.createContext (c : Cmd) : RoundTrip.Statement (.createContext c) :=
  fun h => nomatch h

theorem RoundTrip.destroyContext (c : Cmd) : RoundTrip.Statement (.destroyContext c) :=
  fun h => nomatch h

theorem RoundTrip.installKey (c : Cmd) (key : Option (BitVec 256)) : RoundTrip.Statement (.installKey c key) :=
  fun h => nomatch h

theorem RoundTrip.removeKey (c : Cmd) : RoundTrip.Statement (.removeKey c) :=
  fun h => nomatch h

theorem RoundTrip.loadCompressionTable (c : Cmd) : RoundTrip.Statement (.loadCompressionTable c) :=
  fun h => nomatch h

theorem RoundTrip.mapQueue (c : Cmd) : RoundTrip.Statement (.mapQueue c) :=
  fun h => nomatch h

theorem RoundTrip.parkQueue (c : Cmd) : RoundTrip.Statement (.parkQueue c) :=
  fun h => nomatch h

theorem RoundTrip.unmapQueue (c : Cmd) : RoundTrip.Statement (.unmapQueue c) :=
  fun h => nomatch h

theorem RoundTrip.queueParkComplete (queue : Nat) : RoundTrip.Statement (.queueParkComplete queue) :=
  fun h => nomatch h

theorem RoundTrip.writeRouteEntry (c : Cmd) : RoundTrip.Statement (.writeRouteEntry c) :=
  fun h => nomatch h

theorem RoundTrip.attestationReport (c : Cmd) : RoundTrip.Statement (.attestationReport c) :=
  fun h => nomatch h

theorem RoundTrip.resetRungQueue (queue : Nat) : RoundTrip.Statement (.resetRungQueue queue) :=
  fun h => nomatch h

theorem RoundTrip.resetRungContext (ctx : Nat) : RoundTrip.Statement (.resetRungContext ctx) :=
  fun h => nomatch h

theorem RoundTrip.resetRungDie (die : Nat) : RoundTrip.Statement (.resetRungDie die) :=
  fun h => nomatch h

theorem RoundTrip.resetRungModule : RoundTrip.Statement (.resetRungModule) :=
  fun h => nomatch h

theorem RoundTrip.setContextRegister (c : Cmd) : RoundTrip.Statement (.setContextRegister c) :=
  fun h => nomatch h

theorem RoundTrip.bindSignalWord (c : Cmd) : RoundTrip.Statement (.bindSignalWord c) :=
  fun h => nomatch h

theorem RoundTrip.registerNoticeWord (c : Cmd) : RoundTrip.Statement (.registerNoticeWord c) :=
  fun h => nomatch h

theorem RoundTrip.wakeRegisterWrite (queue : Nat) : RoundTrip.Statement (.wakeRegisterWrite queue) :=
  fun h => nomatch h

theorem RoundTrip.threadWake (queue : Nat) : RoundTrip.Statement (.threadWake queue) :=
  fun h => nomatch h

theorem RoundTrip.deviceRegisterWrite (addr : Nat) (value : BitVec 64) : RoundTrip.Statement (.deviceRegisterWrite addr value) :=
  fun h => nomatch h

theorem RoundTrip.tdiConfigWrite (tdi : Nat) : RoundTrip.Statement (.tdiConfigWrite tdi) :=
  fun h => nomatch h

theorem RoundTrip.unassignedOpcode (order : Nat) : RoundTrip.Statement (.unassignedOpcode order) :=
  fun h => nomatch h

theorem RoundTrip.coreRelease (core : Nat) : RoundTrip.Statement (.coreRelease core) :=
  fun h => nomatch h

theorem RoundTrip.tdispRequest (tdi : Nat) (msg : TdispMsg) : RoundTrip.Statement (.tdispRequest tdi msg) :=
  fun h => nomatch h

theorem RoundTrip.hostPortRequest (r : HostRequest) : RoundTrip.Statement (.hostPortRequest r) :=
  fun h => nomatch h

theorem RoundTrip.resamplingInterval (die : Nat) (slot : Nat) : RoundTrip.Statement (.resamplingInterval die slot) :=
  fun h => nomatch h

end Sys2Proof.Laws
end

