-- ==== Sys2Proof/Laws/Vec.lean ====
section
/-! SUPPORT. Vectors by element: what an element of a built vector is, and what the vector forms leave in flight. -/

namespace Sys2Proof

open Machine
open Host (Outcome)

/-! ### Elements of a sum of digits -/

/-- The number whose digit `j` in base 2^w is `g j`, for j below `n`. -/
def digitSum (w : Nat) (g : Nat → Nat) (n : Nat) : Nat :=
  (List.range n).foldl (fun acc j => acc + g j % 2 ^ w * 2 ^ (w * j)) 0

theorem digitSum_succ (w : Nat) (g : Nat → Nat) (n : Nat) :
    digitSum w g (n + 1) = digitSum w g n + g n % 2 ^ w * 2 ^ (w * n) := by
  simp [digitSum, List.range_succ]

theorem digitSum_lt (w : Nat) (g : Nat → Nat) (n : Nat) : digitSum w g n < 2 ^ (w * n) := by
  induction n with
  | zero => simp [digitSum]
  | succ n ih =>
    rw [digitSum_succ, Nat.mul_add, Nat.pow_add, Nat.mul_one]
    have h : g n % 2 ^ w + 1 ≤ 2 ^ w := Nat.mod_lt _ (by positivity)
    calc digitSum w g n + g n % 2 ^ w * 2 ^ (w * n) < (g n % 2 ^ w + 1) * 2 ^ (w * n) := by
          rw [Nat.add_mul, Nat.one_mul]; omega
      _ ≤ 2 ^ w * 2 ^ (w * n) := Nat.mul_le_mul_right _ h
      _ = 2 ^ (w * n) * 2 ^ w := Nat.mul_comm _ _

theorem digitSum_digit (w : Nat) (g : Nat → Nat) (n j : Nat) (h : j < n) :
    digitSum w g n / 2 ^ (w * j) % 2 ^ w = g j % 2 ^ w := by
  induction n with
  | zero => omega
  | succ n ih =>
    rw [digitSum_succ]
    rcases Nat.lt_succ_iff_lt_or_eq.1 h with hlt | heq
    · have e : 2 ^ (w * n) = 2 ^ (w * j) * (2 ^ w * 2 ^ (w * (n - j - 1))) := by
        rw [← Nat.pow_add, ← Nat.pow_add]
        congr 1
        have : n = j + 1 + (n - j - 1) := by omega
        conv_lhs => rw [this]
        ring
      rw [e, show g n % 2 ^ w * (2 ^ (w * j) * (2 ^ w * 2 ^ (w * (n - j - 1)))) =
        2 ^ (w * j) * (2 ^ w * (g n % 2 ^ w * 2 ^ (w * (n - j - 1)))) by ring,
        Nat.add_mul_div_left _ _ (by positivity), Nat.add_mul_mod_self_left]
      exact ih hlt
    · subst heq
      rw [Nat.add_mul_div_right _ _ (by positivity), Nat.div_eq_of_lt (digitSum_lt w g j)]
      simp

/-- Element `j` of a vector that is a number of digits. -/
theorem elem_digitSum (w n j : Nat) (g : Nat → Nat) (hn : w * n ≤ 2048) (hj : j < n) :
    elem w (BitVec.ofNat 2048 (digitSum w g n)) j = g j % 2 ^ w := by
  have hlt : digitSum w g n < 2 ^ 2048 :=
    Nat.lt_of_lt_of_le (digitSum_lt w g n) (Nat.pow_le_pow_right (by omega) hn)
  unfold elem
  rw [BitVec.toNat_ushiftRight, BitVec.toNat_ofNat, Nat.mod_eq_of_lt hlt, Nat.shiftRight_eq_div_pow]
  exact digitSum_digit w g n j hj

/-- Element `j` of a vector built element by element. -/
theorem elem_ofElems (w n j : Nat) (g : Nat → Nat) (hn : w * n ≤ 2048) (hj : j < n) :
    elem w (ofElems w n g) j = g j % 2 ^ w :=
  elem_digitSum w n j g hn hj

theorem mapElems_fst (w n : Nat) (act : Nat → Bool) (f : Nat → Nat × FpFlags) :
    (mapElems w n act f).1 = BitVec.ofNat 2048 (digitSum w (fun j => if act j then (f j).1 else 0) n) := by
  unfold mapElems digitSum
  simp only
  congr 1
  generalize List.range n = l
  have : ∀ (a : Nat) (fl : FpFlags),
      (l.foldl (fun (acc : Nat × FpFlags) j =>
        if act j = true then (acc.1 + (f j).1 % 2 ^ w * 2 ^ (w * j), acc.2 ||| (f j).2) else acc) (a, fl)).1 =
      l.foldl (fun acc j => acc + (if act j = true then (f j).1 else 0) % 2 ^ w * 2 ^ (w * j)) a := by
    induction l with
    | nil => intros; rfl
    | cons k l ih =>
      intro a fl
      simp only [List.foldl_cons]
      by_cases hk : act k = true
      · simp only [hk, ↓reduceIte]
        exact ih _ _
      · simp only [hk]
        simpa using ih _ _
  exact this 0 0#5

/-- Element `j` of the result of an element loop, when it is active. -/
theorem elem_mapElems (w n j : Nat) (act : Nat → Bool) (f : Nat → Nat × FpFlags) (hn : w * n ≤ 2048) (hj : j < n)
    (ha : act j = true) : elem w (mapElems w n act f).1 j = (f j).1 % 2 ^ w := by
  rw [mapElems_fst, elem_digitSum w n j _ hn hj, ha]
  rfl

theorem elemCount_mul_le (w : Nat) : w * elemCount w ≤ 2048 := Nat.mul_div_le 2048 w

/-! ### Vector results -/

theorem vectorResult_writeVec (g : Guard) (s : State) (d : BitVec 7) (w lat : Nat) (act : Nat → Bool)
    (val : Nat → Nat) (v : State → Vec) (fl : State → FpFlags) (hx : s.str = .x) (hg : s.guardHolds g = true)
    (hv : ∀ j, j < elemCount w → act j = true → elem w (v s) j = val j % 2 ^ w) :
    vectorResult (issueSet g (fun s => s.writeVec lat d (v s) (elemBits w (elemCount w) act) (fl s)) s) s
      d.toNat w lat act val := by
  rw [issueSet_run g _ s hg]
  exact ⟨v s, fl s, entersFlight_launchX s false _ hx, hv⟩

/-- An element form: element `j` of the result is the operation on the elements of the sources. -/
theorem vectorResult_elemForm (f : F3) (lat : Nat) (op : Nat → Nat → Nat → Nat × FpFlags) (s : State)
    (hx : s.str = .x) (hg : s.guardHolds f.g = true) :
    vectorResult (elemForm f lat op s) s f.d.toNat (f3Width f) lat (activeElem (f3Width f) (s.laneMask f))
      (fun j => (op (elem (f3Width f) (s.vsrc (f3Width f) f.s1) j) (elem (f3Width f) (s.vsrc (f3Width f) f.s2) j)
        (elem (f3Width f) (s.cur.vec f.d.toNat) j)).1) := by
  unfold elemForm
  rw [issueSet_run f.g _ s hg]
  exact ⟨_, _, entersFlight_launchX s false _ hx, fun j hj ha => elem_mapElems _ _ j _ _ (elemCount_mul_le _) hj ha⟩

/-- A move form: element `j` of the result is the element that the form names. -/
theorem vectorResult_moveForm (f : F3) (lat w : Nat) (src : State → Nat → Nat) (s : State) (hx : s.str = .x)
    (hg : s.guardHolds f.g = true) :
    vectorResult (moveForm f lat w src s) s f.d.toNat w lat (activeElem w (s.laneMask f)) (src s) := by
  unfold moveForm
  rw [issueSet_run f.g _ s hg]
  exact ⟨_, _, entersFlight_launchX s false _ hx, fun j hj _ => elem_ofElems _ _ j _ (elemCount_mul_le _) hj⟩

end Sys2Proof
end

