-- ==== Sys2Proof/Tests/Slice0.lean ====
section
/-! SUPPORT. Tests of the model, each on one word or one step of a small state, and a witness for the hypotheses of
every statement. The words and the values come from the tables and the worked examples of the spec. -/

namespace Sys2Proof.Tests

open Sys2Proof.Machine
open Host (Outcome)

-- one proof at a time: many kernel evaluations at once exhaust memory
set_option Elab.async false

/-- The guard that always holds. -/
def gA : Guard := ⟨true, 0, 0⟩
/-- The guard that never holds. -/
def gN : Guard := ⟨false, 0, 0⟩
/-- A register form. -/
def f3 (d s1 s2 : BitVec 7) (fmt : BitVec 4 := 0) (fn : BitVec 4 := 0) : F3 := ⟨gA, d, s1, s2, fmt, 0, false, false, false, 0, fn, 0⟩
/-- An immediate form. -/
def fi (d s1 : BitVec 7) (imm : BitVec 30) : FI := ⟨gA, d, s1, imm⟩
/-- A long-immediate form. -/
def fl (d : BitVec 7) (imm : BitVec 37) : FL := ⟨gA, d, imm⟩
/-- A memory form. -/
def fm (d s1 s2 : BitVec 7) (off : BitVec 12) (sz : BitVec 2) (hint : BitVec 2 := 0) : FM :=
  ⟨gA, d, s1, s2, off, 0, 0, hint, false, sz⟩
/-- An indexed memory form. -/
def fx (d s1 s2 x : BitVec 7) (off : BitVec 5) (sz : BitVec 2) : FX := ⟨gA, d, s1, s2, x, off, 0, 0, 0, false, sz⟩

/-- Every word of the list, followed by the literal, decodes to the instruction beside it, and is its encoding. -/
def reads (l : List (W64 × W64 × Instr)) : Bool := l.all fun p => decode p.1 p.2.1 == some p.2.2 && encode p.2.2 == p.1

/-- The order of the check of R118 that fails; 0 when none does. -/
def failed : Except Nat Instr → Nat
  | .error k => k
  | .ok _ => 0


/-! ### Ill-formed instructions

One for each check; the check refuses it (R118 order 4). -/

theorem test_wf_class_s : Instr.wf (.add (f3 32 0 0)) = false := by decide
theorem test_wf_class_k : Instr.wf (.lds (fm 1 16 0 0 3)) = false := by decide
theorem test_wf_class_v : Instr.wf (.vabs (f3 64 0 0)) = false := by decide
theorem test_wf_class_vb : Instr.wf (.vadd (f3 0 96 0)) = false := by decide
theorem test_wf_class_m : Instr.wf (.mand (f3 8 0 0)) = false := by decide
theorem test_wf_class_ck : Instr.wf (.ckclr (f3 4 0 0)) = false := by decide
theorem test_wf_class_lq : Instr.wf (.vld (fm 4 1 0 0 2)) = false := by decide
theorem test_wf_class_sq : Instr.wf (.vst (fm 2 1 0 0 2)) = false := by decide
theorem test_wf_class_buf : Instr.wf (.lld (fm 0 0 0 0 0)) = false ∧ Instr.wf (.lld (fm 0 5 0 0 0)) = false := by decide
theorem test_wf_unnamed_register : Instr.wf (.clz (f3 1 2 1)) = false := by decide
theorem test_wf_wait_register : Instr.wf (.sigwait (fm 5 1 0 0 3)) = false ∧ Instr.wf (.await (fm 0 1 0 0 3)) = false := by decide
theorem test_wf_reserved_immediate : Instr.wf (.uld (fi 1 0 0x2000)) = false := by decide
theorem test_wf_reserved_bits : Instr.wf (.add { f3 1 1 1 with res := 1 }) = false := by decide
theorem test_wf_sat_of_mulh : Instr.wf (.mulh { f3 1 1 1 with sat := true }) = false := by decide
theorem test_wf_shift_count : Instr.wf (.shli (fi 1 1 64)) = false := by decide
theorem test_wf_field_beyond_64 : Instr.wf (.extr (fi 1 1 (63 * 64 + 1))) = false := by decide
theorem test_wf_branch_slot_7 : Instr.wf (.br ⟨gA, 0, 0, false, 7, 0⟩) = false := by decide
theorem test_wf_indirect_with_offset : Instr.wf (.br ⟨gA, 0, 1, true, 0, 1⟩) = false := by decide
theorem test_wf_ret_direct : Instr.wf (.ret ⟨gA, 0, 0, false, 0, 0⟩) = false := by decide
theorem test_wf_loop_indirect : Instr.wf (.loop ⟨gA, 1, 1, true, 0, 0⟩) = false := by decide
theorem test_wf_start_of_c : Instr.wf (.start ⟨gA, 0, 0, false, 0, 0⟩) = false := by decide
theorem test_wf_wait_limit : Instr.wf (.wait (fl 0 65)) = false ∧ Instr.wf (.wait (fl 0 (33 * 128))) = false := by decide
theorem test_wf_fence_kind : Instr.wf (.fence (fi 0 0 (3 * 2 ^ 16))) = false := by decide
theorem test_wf_float_type : Instr.wf (.vadd (f3 0 0 0 3)) = false := by decide
theorem test_wf_integer_type : Instr.wf (.viadd (f3 0 0 0 2)) = false := by decide
theorem test_wf_type_7 : Instr.wf (.vperm (f3 0 0 0 7)) = false ∧ Instr.wf (.vimm (fi 0 0 (7 * 2 ^ 26))) = false := by decide
theorem test_wf_dot_type : Instr.wf (.vdot (f3 0 0 0 0)) = false ∧ Instr.wf (.vdot (f3 0 0 0 8 1)) = false := by decide
theorem test_wf_compare_to_mask : Instr.wf (.vcmp (f3 8 0 0 0 0)) = false ∧ Instr.wf (.vcmp (f3 0 0 0 1 0)) = false := by decide
theorem test_wf_integer_compare : Instr.wf (.vicmp (f3 0 0 0 10 6)) = false ∧ Instr.wf (.vicmp (f3 0 0 0 8 0)) = false := by decide
theorem test_wf_shuffle_distance : Instr.wf (.vshuf (f3 0 0 0 0 6)) = false := by decide
theorem test_wf_checksum_type : Instr.wf (.ckacc (f3 0 0 0 8 1)) = false := by decide
theorem test_wf_vector_shift_count : Instr.wf (.vshli (fi 0 0 (8 * 2 ^ 26 + 8))) = false := by decide
theorem test_wf_vector_immediate_type : Instr.wf (.viaddi (fi 0 0 0)) = false := by decide
theorem test_wf_element_index : Instr.wf (.vext (fi 0 0 64)) = false := by decide
theorem test_wf_slide_count : Instr.wf (.vslide (fi 0 0 65)) = false := by decide
theorem test_wf_register_number : Instr.wf (.csrr (fl 1 0x003)) = false := by decide
theorem test_wf_role : Instr.wf (.roleset (fi 0 1 5)) = false := by decide
theorem test_wf_test_unit : Instr.wf (.stest (fi 1 0 128)) = false ∧ Instr.wf (.stest (fi 1 0 0x400C)) = false := by decide
theorem test_wf_parties : Instr.wf (.bnew (fi 1 1 0)) = false ∧ Instr.wf (.bnew (fi 1 1 65)) = false := by decide
theorem test_wf_function : Instr.wf (.tqueryCtl (f3 1 0 0 0 0)) = false := by decide
theorem test_wf_hint : Instr.wf (.lds (fm 1 1 0 0 3 2)) = false ∧ Instr.wf (.feed (fm 1 1 0 0 0 2)) = false := by decide
theorem test_wf_size : Instr.wf (.aadd (fx 1 1 0 2 0 1)) = false ∧ Instr.wf (.sigadd (fm 1 1 0 0 2)) = false := by decide
theorem test_wf_one_queue_twice : Instr.wf (.vstx (fx 1 1 0 1 0 2)) = false := by decide
theorem test_wf_event : Instr.wf (.lineFetch 0 .c) = false := by decide

/-! ### Decoding

One word for every form, written out from the opcode map (R130), the formats (R131) and the field tables (R115, R123
to R129), one theorem for each row of the map. -/

theorem test_decode_row_0 : reads [
  (0x0120_30C1_C480_4000, 0, .add ⟨⟨false, 8, 3⟩, 6, 7, 9, 0, 0, false, false, true, 0, 0, 0⟩),
  (0x02FF_F0E2_4F80_4000, 0, .sub ⟨⟨true, 31, 63⟩, 7, 9, 31, 0, 0, false, false, true, 0, 0, 0⟩),
  (0x0380_0127_C280_4000, 0, .mul ⟨⟨true, 0, 0⟩, 9, 31, 5, 0, 0, false, false, true, 0, 0, 0⟩),
  (0x0420_33E1_4300_0000, 0, .mulh ⟨⟨false, 8, 3⟩, 31, 5, 6, 0, 0, false, false, false, 0, 0, 0⟩),
  (0x05FF_F0A1_8380_0000, 0, .mulhn ⟨⟨true, 31, 63⟩, 5, 6, 7, 0, 0, false, false, false, 0, 0, 0⟩),
  (0x0680_00C1_C480_0000, 0, .div ⟨⟨true, 0, 0⟩, 6, 7, 9, 0, 0, false, false, false, 0, 0, 0⟩),
  (0x0720_30E2_4F80_0000, 0, .divn ⟨⟨false, 8, 3⟩, 7, 9, 31, 0, 0, false, false, false, 0, 0, 0⟩),
  (0x08FF_F127_C280_0000, 0, .rem ⟨⟨true, 31, 63⟩, 9, 31, 5, 0, 0, false, false, false, 0, 0, 0⟩),
  (0x0980_03E1_4300_0000, 0, .remn ⟨⟨true, 0, 0⟩, 31, 5, 6, 0, 0, false, false, false, 0, 0, 0⟩),
  (0x0A20_30A1_8380_0000, 0, .and ⟨⟨false, 8, 3⟩, 5, 6, 7, 0, 0, false, false, false, 0, 0, 0⟩),
  (0x0BFF_F0C1_C480_0000, 0, .or ⟨⟨true, 31, 63⟩, 6, 7, 9, 0, 0, false, false, false, 0, 0, 0⟩),
  (0x0C80_00E2_4F80_0000, 0, .xor ⟨⟨true, 0, 0⟩, 7, 9, 31, 0, 0, false, false, false, 0, 0, 0⟩),
  (0x0D20_3127_C280_0000, 0, .andn ⟨⟨false, 8, 3⟩, 9, 31, 5, 0, 0, false, false, false, 0, 0, 0⟩),
  (0x0EFF_F3E1_4300_0000, 0, .shl ⟨⟨true, 31, 63⟩, 31, 5, 6, 0, 0, false, false, false, 0, 0, 0⟩),
  (0x0F80_00A1_8380_0000, 0, .shr ⟨⟨true, 0, 0⟩, 5, 6, 7, 0, 0, false, false, false, 0, 0, 0⟩)] = true := by decide +kernel

theorem test_decode_row_1 : reads [
  (0x1020_30C1_C480_0000, 0, .sra ⟨⟨false, 8, 3⟩, 6, 7, 9, 0, 0, false, false, false, 0, 0, 0⟩),
  (0x11FF_F0E2_4F80_0000, 0, .rol ⟨⟨true, 31, 63⟩, 7, 9, 31, 0, 0, false, false, false, 0, 0, 0⟩),
  (0x1280_0127_C280_0000, 0, .ror ⟨⟨true, 0, 0⟩, 9, 31, 5, 0, 0, false, false, false, 0, 0, 0⟩),
  (0x1320_33E1_4300_0000, 0, .min ⟨⟨false, 8, 3⟩, 31, 5, 6, 0, 0, false, false, false, 0, 0, 0⟩),
  (0x14FF_F0A1_8380_0000, 0, .max ⟨⟨true, 31, 63⟩, 5, 6, 7, 0, 0, false, false, false, 0, 0, 0⟩),
  (0x1580_00C1_C480_0000, 0, .minn ⟨⟨true, 0, 0⟩, 6, 7, 9, 0, 0, false, false, false, 0, 0, 0⟩),
  (0x1620_30E2_4F80_0000, 0, .maxn ⟨⟨false, 8, 3⟩, 7, 9, 31, 0, 0, false, false, false, 0, 0, 0⟩),
  (0x17FF_F127_C280_0000, 0, .cmpeq ⟨⟨true, 31, 63⟩, 9, 31, 5, 0, 0, false, false, false, 0, 0, 0⟩),
  (0x1880_03E1_4300_0000, 0, .cmpne ⟨⟨true, 0, 0⟩, 31, 5, 6, 0, 0, false, false, false, 0, 0, 0⟩),
  (0x1920_30A1_8380_0000, 0, .cmplt ⟨⟨false, 8, 3⟩, 5, 6, 7, 0, 0, false, false, false, 0, 0, 0⟩),
  (0x1AFF_F0C1_C480_0000, 0, .cmpltn ⟨⟨true, 31, 63⟩, 6, 7, 9, 0, 0, false, false, false, 0, 0, 0⟩),
  (0x1B80_00E2_4F80_0000, 0, .cmple ⟨⟨true, 0, 0⟩, 7, 9, 31, 0, 0, false, false, false, 0, 0, 0⟩),
  (0x1C20_3127_C280_0000, 0, .cmplen ⟨⟨false, 8, 3⟩, 9, 31, 5, 0, 0, false, false, false, 0, 0, 0⟩),
  (0x1DFF_F3E1_4000_0000, 0, .clz ⟨⟨true, 31, 63⟩, 31, 5, 0, 0, 0, false, false, false, 0, 0, 0⟩),
  (0x1E80_00A1_8000_0000, 0, .ctz ⟨⟨true, 0, 0⟩, 5, 6, 0, 0, 0, false, false, false, 0, 0, 0⟩),
  (0x1F20_30C1_C000_0000, 0, .popc ⟨⟨false, 8, 3⟩, 6, 7, 0, 0, 0, false, false, false, 0, 0, 0⟩)] = true := by decide +kernel

theorem test_decode_row_2 : reads [
  (0x20FF_F0E2_7FFF_FFFE, 0, .addi ⟨⟨true, 31, 63⟩, 7, 9, 0x3FFFFFFE⟩),
  (0x2180_0127_FFFF_FFFE, 0, .muli ⟨⟨true, 0, 0⟩, 9, 31, 0x3FFFFFFE⟩),
  (0x2220_33E1_7FFF_FFFE, 0, .andi ⟨⟨false, 8, 3⟩, 31, 5, 0x3FFFFFFE⟩),
  (0x23FF_F0A1_BFFF_FFFE, 0, .ori ⟨⟨true, 31, 63⟩, 5, 6, 0x3FFFFFFE⟩),
  (0x2480_00C1_FFFF_FFFE, 0, .xori ⟨⟨true, 0, 0⟩, 6, 7, 0x3FFFFFFE⟩),
  (0x2520_30E2_4000_003F, 0, .shli ⟨⟨false, 8, 3⟩, 7, 9, 0x3F⟩),
  (0x26FF_F127_C000_0001, 0, .shri ⟨⟨true, 31, 63⟩, 9, 31, 0x1⟩),
  (0x2780_03E1_4000_0020, 0, .srai ⟨⟨true, 0, 0⟩, 31, 5, 0x20⟩),
  (0x2820_30A1_BFFF_FFFE, 0, .cmpeqi ⟨⟨false, 8, 3⟩, 5, 6, 0x3FFFFFFE⟩),
  (0x29FF_F0C1_FFFF_FFFE, 0, .cmpnei ⟨⟨true, 31, 63⟩, 6, 7, 0x3FFFFFFE⟩),
  (0x2A80_00E2_7FFF_FFFE, 0, .cmplti ⟨⟨true, 0, 0⟩, 7, 9, 0x3FFFFFFE⟩),
  (0x2B20_3127_FFFF_FFFE, 0, .cmpltni ⟨⟨false, 8, 3⟩, 9, 31, 0x3FFFFFFE⟩),
  (0x2CFF_F3E1_4000_01C8, 0, .extr ⟨⟨true, 31, 63⟩, 31, 5, 0x1C8⟩),
  (0x2D80_00A1_8000_01C8, 0, .extrs ⟨⟨true, 0, 0⟩, 5, 6, 0x1C8⟩),
  (0x2E20_30C0_0000_0000, 0x0123_4567_89AB_CDEF, .limm ⟨⟨false, 8, 3⟩, 6, 0x0⟩ 0x0123_4567_89AB_CDEF),
  (0x2FFF_F0E2_4000_1801, 0, .uld ⟨⟨true, 31, 63⟩, 7, 9, 0x1801⟩)] = true := by decide +kernel

theorem test_decode_row_3 : reads [
  (0x3080_0000_13FF_FFFF, 0, .br ⟨⟨true, 0, 0⟩, 0, 0, false, 4, 0x3FFFFFF⟩),
  (0x3120_33E7_A000_0000, 0, .call ⟨⟨false, 8, 3⟩, 31, 30, true, 0, 0x0⟩),
  (0x32FF_F002_6000_0000, 0, .ret ⟨⟨true, 31, 63⟩, 0, 9, true, 0, 0x0⟩),
  (0x3380_00C0_1800_0001, 0, .loop ⟨⟨true, 0, 0⟩, 6, 0, false, 6, 0x1⟩),
  (0x3420_3040_0E00_0000, 0, .start ⟨⟨false, 8, 3⟩, 2, 0, false, 3, 0x2000000⟩),
  (0x35FF_F120_0400_0007, 0, .spawn ⟨⟨true, 31, 63⟩, 9, 0, false, 1, 0x7⟩),
  (0x3680_0000_0000_0000, 0, .yield ⟨⟨true, 0, 0⟩, 0, 0, 0x0⟩),
  (0x3720_3040_C3C0_0A8B, 0, .await ⟨⟨false, 8, 3⟩, 2, 3, 7, 0x801, 5, 0, 1, false, 3⟩),
  (0x38FF_F000_0000_0000, 0, .exit ⟨⟨true, 31, 63⟩, 0, 0, 0x0⟩),
  (0x3980_00E0_CFC0_0A88, 0, .feed ⟨⟨true, 0, 0⟩, 7, 3, 31, 0x801, 5, 0, 1, false, 0⟩),
  (0x3A20_3007_C2F9_8000, 0, .jpost ⟨⟨false, 8, 3⟩, 0, 31, 5, 15, 3, 0⟩),
  (0x3BFF_F3E1_4379_8000, 0, .remq ⟨⟨true, 31, 63⟩, 31, 5, 6, 15, 3, 0⟩),
  (0x3C80_0000_0100_1040, 0, .wait ⟨⟨true, 0, 0⟩, 0, 0x1001040⟩),
  (0x3D20_3040_C4C0_0A83, 0, .sigwait ⟨⟨false, 8, 3⟩, 2, 3, 9, 0x801, 5, 0, 0, false, 3⟩),
  (0x3EFF_F0E0_0000_00FF, 0, .gbar ⟨⟨true, 31, 63⟩, 7, 0, 0xFF⟩),
  (0x3F80_0120_0000_0003, 0, .phase ⟨⟨true, 0, 0⟩, 9, 0, 0x3⟩)] = true := by decide +kernel

theorem test_decode_row_4 : reads [
  (0x4020_33E1_4320_0600, 0, .xlat ⟨⟨false, 8, 3⟩, 31, 5, 6, 4, 0, false, false, false, 0, 12, 0⟩),
  (0x41FF_F0A0_0070_0000, 0, .refresh ⟨⟨true, 31, 63⟩, 5, 0, 0, 14, 0, false, false, false, 0, 0, 0⟩),
  (0x4280_00C0_0070_0000, 0, .tdrop ⟨⟨true, 0, 0⟩, 6, 0, 0, 14, 0, false, false, false, 0, 0, 0⟩),
  (0x4320_30E0_0070_0080, 0, .tqueryCtl ⟨⟨false, 8, 3⟩, 7, 0, 0, 14, 0, false, false, false, 0, 1, 0⟩),
  (0x43FF_F120_0070_0100, 0, .tqueryVbase ⟨⟨true, 31, 63⟩, 9, 0, 0, 14, 0, false, false, false, 0, 2, 0⟩),
  (0x4380_03E0_0070_0180, 0, .tqueryLen ⟨⟨true, 0, 0⟩, 31, 0, 0, 14, 0, false, false, false, 0, 3, 0⟩),
  (0x4320_30A0_0070_0200, 0, .tqueryCur ⟨⟨false, 8, 3⟩, 5, 0, 0, 14, 0, false, false, false, 0, 4, 0⟩),
  (0x43FF_F0C0_0070_0280, 0, .tqueryGet ⟨⟨true, 31, 63⟩, 6, 0, 0, 14, 0, false, false, false, 0, 5, 0⟩),
  (0x4380_00E0_0070_0300, 0, .tquerySet ⟨⟨true, 0, 0⟩, 7, 0, 0, 14, 0, false, false, false, 0, 6, 0⟩),
  (0x4420_3120_C2C0_0800, 0, .reqpg ⟨⟨false, 8, 3⟩, 9, 3, 5, 0x801, 0, 0, 0, false, 0⟩),
  (0x45FF_F000_0009_0006, 0, .fence ⟨⟨true, 31, 63⟩, 0, 0, 0x90006⟩),
  (0x4680_00A0_C3C0_0AC3, 0, .sigadd ⟨⟨true, 0, 0⟩, 5, 3, 7, 0x801, 5, 2, 0, false, 3⟩),
  (0x4720_30C3_C4C0_0AC3, 0, .sigset ⟨⟨false, 8, 3⟩, 6, 15, 9, 0x801, 5, 2, 0, false, 3⟩),
  (0x48FF_F0E0_4FC0_0A9E, 0, .lds ⟨⟨true, 31, 63⟩, 7, 1, 31, 0x801, 5, 0, 3, true, 2⟩),
  (0x4980_0120_C2C0_0A88, 0, .sts ⟨⟨true, 0, 0⟩, 9, 3, 5, 0x801, 5, 0, 1, false, 0⟩),
  (0x4A20_33E0_C340_0AC7, 0, .ldacq ⟨⟨false, 8, 3⟩, 31, 3, 6, 0x801, 5, 2, 0, true, 3⟩),
  (0x4BFF_F0A3_C3C0_0AC3, 0, .strel ⟨⟨true, 31, 63⟩, 5, 15, 7, 0x801, 5, 2, 0, false, 3⟩),
  (0x4C80_0000_C4C0_0A80, 0, .wback ⟨⟨true, 0, 0⟩, 0, 3, 9, 0x801, 5, 0, 0, false, 0⟩),
  (0x4D20_3003_CFC0_0A80, 0, .inval ⟨⟨false, 8, 3⟩, 0, 15, 31, 0x801, 5, 0, 0, false, 0⟩),
  (0x4EFF_F000_C2C0_0A80, 0, .discard ⟨⟨true, 31, 63⟩, 0, 3, 5, 0x801, 5, 0, 0, false, 0⟩),
  (0x4F80_0003_C340_0A88, 0, .pref ⟨⟨true, 0, 0⟩, 0, 15, 6, 0x801, 5, 0, 1, false, 0⟩)] = true := by decide +kernel

theorem test_decode_row_5 : reads [
  (0x5020_30A0_C389_FACF, 0, .aadd ⟨⟨false, 8, 3⟩, 5, 3, 7, 9, 0x1F, 5, 2, 1, true, 3⟩),
  (0x51FF_F0C3_C49F_FACF, 0, .amin ⟨⟨true, 31, 63⟩, 6, 15, 9, 31, 0x1F, 5, 2, 1, true, 3⟩),
  (0x5280_00E0_CF85_FACF, 0, .amax ⟨⟨true, 0, 0⟩, 7, 3, 31, 5, 0x1F, 5, 2, 1, true, 3⟩),
  (0x5320_3123_C286_FACF, 0, .aminn ⟨⟨false, 8, 3⟩, 9, 15, 5, 6, 0x1F, 5, 2, 1, true, 3⟩),
  (0x54FF_F3E0_C307_FACF, 0, .amaxn ⟨⟨true, 31, 63⟩, 31, 3, 6, 7, 0x1F, 5, 2, 1, true, 3⟩),
  (0x5580_00A3_C389_FACF, 0, .aand ⟨⟨true, 0, 0⟩, 5, 15, 7, 9, 0x1F, 5, 2, 1, true, 3⟩),
  (0x5620_30C0_C49F_FACF, 0, .aor ⟨⟨false, 8, 3⟩, 6, 3, 9, 31, 0x1F, 5, 2, 1, true, 3⟩),
  (0x57FF_F0E3_CF85_FACF, 0, .axor ⟨⟨true, 31, 63⟩, 7, 15, 31, 5, 0x1F, 5, 2, 1, true, 3⟩),
  (0x5880_0120_C286_FACF, 0, .aswap ⟨⟨true, 0, 0⟩, 9, 3, 5, 6, 0x1F, 5, 2, 1, true, 3⟩),
  (0x5920_33E3_C307_FACF, 0, .acas ⟨⟨false, 8, 3⟩, 31, 15, 6, 7, 0x1F, 5, 2, 1, true, 3⟩),
  (0x5AFF_F0A1_8000_0040, 0, .bnew ⟨⟨true, 31, 63⟩, 5, 6, 0x40⟩),
  (0x5B80_00C3_C4C0_0A80, 0, .bjoin ⟨⟨true, 0, 0⟩, 6, 15, 9, 0x801, 5, 0, 0, false, 0⟩),
  (0x5C20_30E0_0000_000F, 0, .bseal ⟨⟨false, 8, 3⟩, 7, 0, 0xF⟩),
  (0x5DFF_F000_0000_0005, 0, .babort ⟨⟨true, 31, 63⟩, 0, 0, 0x5⟩),
  (0x5E80_03E1_4000_0000, 0, .bviewNow ⟨⟨true, 0, 0⟩, 31, 5, 0x0⟩),
  (0x5E20_30A1_8000_0001, 0, .bviewSet ⟨⟨false, 8, 3⟩, 5, 6, 0x1⟩),
  (0x5EFF_F0C1_C000_0002, 0, .bviewClr ⟨⟨true, 31, 63⟩, 6, 7, 0x2⟩),
  (0x5F80_00E2_4000_0000, 0, .bcheck ⟨⟨true, 0, 0⟩, 7, 9, 0x0⟩),
  (0x5F20_3120_0000_001F, 0, .bcheckCls ⟨⟨false, 8, 3⟩, 9, 0, 0x1F⟩)] = true := by decide +kernel

theorem test_decode_row_6 : reads [
  (0x60FF_F023_C340_0A8B, 0, .vld ⟨⟨true, 31, 63⟩, 1, 15, 6, 0x801, 5, 0, 1, false, 3⟩),
  (0x6180_0040_C389_FA8B, 0, .vlds ⟨⟨true, 0, 0⟩, 2, 3, 7, 9, 0x1F, 5, 0, 1, false, 3⟩),
  (0x6220_3063_C480_FA8A, 0, .vldx ⟨⟨false, 8, 3⟩, 3, 15, 9, 0, 0x1F, 5, 0, 1, false, 2⟩),
  (0x63FF_F020_CFC0_0A8B, 0, .ldb ⟨⟨true, 31, 63⟩, 1, 3, 31, 0x801, 5, 0, 1, false, 3⟩),
  (0x6480_0023_C2C0_0A8B, 0, .vst ⟨⟨true, 0, 0⟩, 1, 15, 5, 0x801, 5, 0, 1, false, 3⟩),
  (0x6520_3000_C307_FA8B, 0, .vsts ⟨⟨false, 8, 3⟩, 0, 3, 6, 7, 0x1F, 5, 0, 1, false, 3⟩),
  (0x66FF_F003_C381_FA8B, 0, .vstx ⟨⟨true, 31, 63⟩, 0, 15, 7, 1, 0x1F, 5, 0, 1, false, 3⟩),
  (0x6780_0041_04C0_0A80, 0, .lld ⟨⟨true, 0, 0⟩, 2, 4, 9, 0x801, 5, 0, 0, false, 0⟩),
  (0x6820_3020_4FC0_0A80, 0, .lst ⟨⟨false, 8, 3⟩, 1, 1, 31, 0x801, 5, 0, 0, false, 0⟩),
  (0x69FF_F001_02C0_0A80, 0, .vlld ⟨⟨true, 31, 63⟩, 0, 4, 5, 0x801, 5, 0, 0, false, 0⟩),
  (0x6A80_0000_4340_0A80, 0, .vlst ⟨⟨true, 0, 0⟩, 0, 1, 6, 0x801, 5, 0, 0, false, 0⟩),
  (0x6B20_3061_8070_0000, 0, .lqput ⟨⟨false, 8, 3⟩, 3, 6, 0, 14, 0, false, false, false, 0, 0, 0⟩),
  (0x6CFF_F0C0_0480_0000, 0, .sqget ⟨⟨true, 31, 63⟩, 6, 0, 9, 0, 0, false, false, false, 0, 0, 0⟩),
  (0x6D80_00E2_4FA0_0600, 0, .tchk ⟨⟨true, 0, 0⟩, 7, 9, 31, 4, 0, false, false, false, 0, 12, 0⟩),
  (0x6E20_3123_C2C0_0A80, 0, .rprobe ⟨⟨false, 8, 3⟩, 9, 15, 5, 0x801, 5, 0, 0, false, 0⟩),
  (0x6FFF_F000_4000_0000, 0, .sqdrop ⟨⟨true, 31, 63⟩, 0, 1, 0, 0, 0, false, false, false, 0, 0, 0⟩)] = true := by decide +kernel

theorem test_decode_row_7 : reads [
  (0x7080_0192_548F_F000, 0, .vadd ⟨⟨true, 0, 0⟩, 12, 73, 41, 1, 3, true, true, true, 6, 0, 0⟩),
  (0x7120_350A_648F_F000, 0, .vsub ⟨⟨false, 8, 3⟩, 40, 41, 73, 1, 3, true, true, true, 6, 0, 0⟩),
  (0x72FF_F7F2_548F_F000, 0, .vmul ⟨⟨true, 31, 63⟩, 63, 73, 41, 1, 3, true, true, true, 6, 0, 0⟩),
  (0x7380_018A_648F_F000, 0, .vdiv ⟨⟨true, 0, 0⟩, 12, 41, 73, 1, 3, true, true, true, 6, 0, 0⟩),
  (0x7420_350F_C00F_F000, 0, .vsqrt ⟨⟨false, 8, 3⟩, 40, 63, 0, 1, 3, true, true, true, 6, 0, 0⟩),
  (0x75FF_F7EA_648F_F000, 0, .vfma ⟨⟨true, 31, 63⟩, 63, 41, 73, 1, 3, true, true, true, 6, 0, 0⟩),
  (0x7680_0192_548F_F000, 0, .vfms ⟨⟨true, 0, 0⟩, 12, 73, 41, 1, 3, true, true, true, 6, 0, 0⟩),
  (0x7720_350A_648F_F000, 0, .vfnma ⟨⟨false, 8, 3⟩, 40, 41, 73, 1, 3, true, true, true, 6, 0, 0⟩),
  (0x78FF_F7F2_548F_F000, 0, .vfnms ⟨⟨true, 31, 63⟩, 63, 73, 41, 1, 3, true, true, true, 6, 0, 0⟩),
  (0x7980_018A_6489_3000, 0, .vmin ⟨⟨true, 0, 0⟩, 12, 41, 73, 1, 0, true, false, false, 6, 0, 0⟩),
  (0x7A20_3512_5489_3000, 0, .vmax ⟨⟨false, 8, 3⟩, 40, 73, 41, 1, 0, true, false, false, 6, 0, 0⟩),
  (0x7BFF_F7E3_0009_3000, 0, .vabs ⟨⟨true, 31, 63⟩, 63, 12, 0, 1, 0, true, false, false, 6, 0, 0⟩),
  (0x7C80_018A_0009_3000, 0, .vneg ⟨⟨true, 0, 0⟩, 12, 40, 0, 1, 0, true, false, false, 6, 0, 0⟩),
  (0x7D20_350A_648F_F000, 0, .vabd ⟨⟨false, 8, 3⟩, 40, 41, 73, 1, 3, true, true, true, 6, 0, 0⟩),
  (0x7EFF_F7E3_000F_F000, 0, .vrcp ⟨⟨true, 31, 63⟩, 63, 12, 0, 1, 3, true, true, true, 6, 0, 0⟩),
  (0x7F80_018A_000F_F000, 0, .vrsq ⟨⟨true, 0, 0⟩, 12, 40, 0, 1, 3, true, true, true, 6, 0, 0⟩)] = true := by decide +kernel

theorem test_decode_row_8 : reads [
  (0x8020_350F_C00F_F000, 0, .vexp2 ⟨⟨false, 8, 3⟩, 40, 63, 0, 1, 3, true, true, true, 6, 0, 0⟩),
  (0x81FF_F7E3_000F_F000, 0, .vlog2 ⟨⟨true, 31, 63⟩, 63, 12, 0, 1, 3, true, true, true, 6, 0, 0⟩),
  (0x8280_018A_000F_F000, 0, .vsin ⟨⟨true, 0, 0⟩, 12, 40, 0, 1, 3, true, true, true, 6, 0, 0⟩),
  (0x8320_350F_C00F_F000, 0, .vcos ⟨⟨false, 8, 3⟩, 40, 63, 0, 1, 3, true, true, true, 6, 0, 0⟩),
  (0x84FF_F7E3_000F_F000, 0, .vtanh ⟨⟨true, 31, 63⟩, 63, 12, 0, 1, 3, true, true, true, 6, 0, 0⟩),
  (0x8580_018A_000F_F000, 0, .vsigm ⟨⟨true, 0, 0⟩, 12, 40, 0, 1, 3, true, true, true, 6, 0, 0⟩),
  (0x8620_3512_548F_F000, 0, .vscale ⟨⟨false, 8, 3⟩, 40, 73, 41, 1, 3, true, true, true, 6, 0, 0⟩),
  (0x87FF_F7E3_000F_3000, 0, .vround ⟨⟨true, 31, 63⟩, 63, 12, 0, 1, 3, true, false, false, 6, 0, 0⟩),
  (0x8880_0192_5489_3000, 0, .vclamp ⟨⟨true, 0, 0⟩, 12, 73, 41, 1, 0, true, false, false, 6, 0, 0⟩),
  (0x8920_350F_C611_3100, 0, .vsgnj ⟨⟨false, 8, 3⟩, 40, 63, 12, 2, 0, true, false, false, 6, 2, 0⟩),
  (0x8AFF_F7E3_0009_3000, 0, .vclass ⟨⟨true, 31, 63⟩, 63, 12, 0, 1, 0, true, false, false, 6, 0, 0⟩),
  (0x8B80_018A_001F_F000, 0, .vcvt ⟨⟨true, 0, 0⟩, 12, 40, 0, 3, 3, true, true, true, 6, 0, 0⟩),
  (0x8C20_3512_54A7_F080, 0, .vdot ⟨⟨false, 8, 3⟩, 40, 73, 41, 4, 3, true, true, true, 6, 1, 0⟩),
  (0x8DFF_F0AA_6481_3100, 0, .vcmp ⟨⟨true, 31, 63⟩, 5, 41, 73, 0, 0, true, false, false, 6, 2, 0⟩),
  (0x8E80_018A_1F8F_F000, 0, .vpadd ⟨⟨true, 0, 0⟩, 12, 40, 63, 1, 3, true, true, true, 6, 0, 0⟩),
  (0x8F20_350F_C670_3000, 0, .vpack ⟨⟨false, 8, 3⟩, 40, 63, 12, 14, 0, false, false, false, 6, 0, 0⟩)] = true := by decide +kernel

theorem test_decode_row_9 : reads [
  (0x90FF_F7E3_0070_3000, 0, .vunpack ⟨⟨true, 31, 63⟩, 63, 12, 0, 14, 0, false, false, false, 6, 0, 0⟩),
  (0x9180_012A_000F_F000, 0, .vredsum ⟨⟨true, 0, 0⟩, 9, 40, 0, 1, 3, true, true, true, 6, 0, 0⟩),
  (0x9220_33EF_C008_3000, 0, .vredmax ⟨⟨false, 8, 3⟩, 31, 63, 0, 1, 0, false, false, false, 6, 0, 0⟩),
  (0x93FF_F0A3_0008_3000, 0, .vredmin ⟨⟨true, 31, 63⟩, 5, 12, 0, 1, 0, false, false, false, 6, 0, 0⟩),
  (0x9480_00CA_0048_7000, 0, .vredadd ⟨⟨true, 0, 0⟩, 6, 40, 0, 9, 0, false, false, true, 6, 0, 0⟩),
  (0x9520_30EF_C048_3000, 0, .vredand ⟨⟨false, 8, 3⟩, 7, 63, 0, 9, 0, false, false, false, 6, 0, 0⟩),
  (0x96FF_F123_0048_3000, 0, .vredor ⟨⟨true, 31, 63⟩, 9, 12, 0, 9, 0, false, false, false, 6, 0, 0⟩),
  (0x9780_03EA_0048_3000, 0, .vredxor ⟨⟨true, 0, 0⟩, 31, 40, 0, 9, 0, false, false, false, 6, 0, 0⟩),
  (0x9820_3512_54C8_7000, 0, .viadd ⟨⟨false, 8, 3⟩, 40, 73, 41, 9, 0, false, false, true, 6, 0, 0⟩),
  (0x99FF_F7EA_64C8_7000, 0, .visub ⟨⟨true, 31, 63⟩, 63, 41, 73, 9, 0, false, false, true, 6, 0, 0⟩),
  (0x9A80_0192_54C8_7000, 0, .vimul ⟨⟨true, 0, 0⟩, 12, 73, 41, 9, 0, false, false, true, 6, 0, 0⟩),
  (0x9B20_350A_64C8_3000, 0, .vimulh ⟨⟨false, 8, 3⟩, 40, 41, 73, 9, 0, false, false, false, 6, 0, 0⟩),
  (0x9CFF_F7F2_54C8_7000, 0, .vimac ⟨⟨true, 31, 63⟩, 63, 73, 41, 9, 0, false, false, true, 6, 0, 0⟩),
  (0x9D80_018A_64C8_3000, 0, .vand ⟨⟨true, 0, 0⟩, 12, 41, 73, 9, 0, false, false, false, 6, 0, 0⟩),
  (0x9E20_3512_54C8_3000, 0, .vor ⟨⟨false, 8, 3⟩, 40, 73, 41, 9, 0, false, false, false, 6, 0, 0⟩),
  (0x9FFF_F7EA_64C8_3000, 0, .vxor ⟨⟨true, 31, 63⟩, 63, 41, 73, 9, 0, false, false, false, 6, 0, 0⟩)] = true := by decide +kernel

theorem test_decode_row_A : reads [
  (0xA080_0192_54C8_3000, 0, .vandn ⟨⟨true, 0, 0⟩, 12, 73, 41, 9, 0, false, false, false, 6, 0, 0⟩),
  (0xA120_350F_E4C8_3000, 0, .vshl ⟨⟨false, 8, 3⟩, 40, 63, 73, 9, 0, false, false, false, 6, 0, 0⟩),
  (0xA2FF_F7E3_14C8_3000, 0, .vshr ⟨⟨true, 31, 63⟩, 63, 12, 41, 9, 0, false, false, false, 6, 0, 0⟩),
  (0xA380_018A_24C8_3000, 0, .vsra ⟨⟨true, 0, 0⟩, 12, 40, 73, 9, 0, false, false, false, 6, 0, 0⟩),
  (0xA420_3512_54C8_3000, 0, .vimin ⟨⟨false, 8, 3⟩, 40, 73, 41, 9, 0, false, false, false, 6, 0, 0⟩),
  (0xA5FF_F7EA_64C8_3000, 0, .vimax ⟨⟨true, 31, 63⟩, 63, 41, 73, 9, 0, false, false, false, 6, 0, 0⟩),
  (0xA680_0192_54C8_3000, 0, .viminn ⟨⟨true, 0, 0⟩, 12, 73, 41, 9, 0, false, false, false, 6, 0, 0⟩),
  (0xA720_350A_64C8_3000, 0, .vimaxn ⟨⟨false, 8, 3⟩, 40, 41, 73, 9, 0, false, false, false, 6, 0, 0⟩),
  (0xA8FF_F0B2_54D0_3280, 0, .vicmp ⟨⟨true, 31, 63⟩, 5, 73, 41, 10, 0, false, false, false, 6, 5, 0⟩),
  (0xA980_018A_0048_7000, 0, .viabs ⟨⟨true, 0, 0⟩, 12, 40, 0, 9, 0, false, false, true, 6, 0, 0⟩),
  (0xAA20_350F_C048_7000, 0, .vineg ⟨⟨false, 8, 3⟩, 40, 63, 0, 9, 0, false, false, true, 6, 0, 0⟩),
  (0xABFF_F7E3_0048_3000, 0, .vpopc ⟨⟨true, 31, 63⟩, 63, 12, 0, 9, 0, false, false, false, 6, 0, 0⟩),
  (0xAC80_018A_0048_3000, 0, .vclz ⟨⟨true, 0, 0⟩, 12, 40, 0, 9, 0, false, false, false, 6, 0, 0⟩),
  (0xAD20_350F_C600_3000, 0, .vsel ⟨⟨false, 8, 3⟩, 40, 63, 12, 0, 0, false, false, false, 6, 0, 0⟩),
  (0xAEFF_F7E3_1470_3000, 0, .vperm ⟨⟨true, 31, 63⟩, 63, 12, 40, 14, 0, false, false, false, 6, 0, 0⟩),
  (0xAF80_018A_0040_3380, 0, .vshuf ⟨⟨true, 0, 0⟩, 12, 40, 0, 8, 0, false, false, false, 6, 7, 0⟩)] = true := by decide +kernel

theorem test_decode_row_B : reads [
  (0xB020_350F_C370_3000, 0, .vbcast ⟨⟨false, 8, 3⟩, 40, 63, 6, 14, 0, false, false, false, 6, 0, 0⟩),
  (0xB1FF_F7E3_0000_3000, 0, .vmov ⟨⟨true, 31, 63⟩, 63, 12, 0, 0, 0, false, false, false, 6, 0, 0⟩),
  (0xB280_018A_1FF0_3000, 0, .vzip ⟨⟨true, 0, 0⟩, 12, 40, 63, 14, 0, false, false, false, 6, 0, 0⟩),
  (0xB320_350F_C670_3080, 0, .vunzip ⟨⟨false, 8, 3⟩, 40, 63, 12, 14, 0, false, false, false, 6, 1, 0⟩),
  (0xB4FF_F7E3_0000_3000, 0, .vcompress ⟨⟨true, 31, 63⟩, 63, 12, 0, 0, 0, false, false, false, 6, 0, 0⟩),
  (0xB580_018A_0000_3000, 0, .vexpand ⟨⟨true, 0, 0⟩, 12, 40, 0, 0, 0, false, false, false, 6, 0, 0⟩),
  (0xB620_3500_0048_3000, 0, .vidx ⟨⟨false, 8, 3⟩, 40, 0, 0, 9, 0, false, false, false, 6, 0, 0⟩),
  (0xB7FF_F7E0_8000_3100, 0, .vpop ⟨⟨true, 31, 63⟩, 63, 2, 0, 0, 0, false, false, false, 6, 2, 0⟩),
  (0xB880_002A_0000_3000, 0, .vpush ⟨⟨true, 0, 0⟩, 1, 40, 0, 0, 0, false, false, false, 6, 0, 0⟩),
  (0xB920_3041_C280_0000, 0, .mand ⟨⟨false, 8, 3⟩, 2, 7, 5, 0, 0, false, false, false, 0, 0, 0⟩),
  (0xBAFF_F0E1_4100_0000, 0, .mor ⟨⟨true, 31, 63⟩, 7, 5, 2, 0, 0, false, false, false, 0, 0, 0⟩),
  (0xBB80_00A0_8380_0000, 0, .mxor ⟨⟨true, 0, 0⟩, 5, 2, 7, 0, 0, false, false, false, 0, 0, 0⟩),
  (0xBC20_3041_C280_0000, 0, .mandn ⟨⟨false, 8, 3⟩, 2, 7, 5, 0, 0, false, false, false, 0, 0, 0⟩),
  (0xBDFF_F0E1_4000_0000, 0, .mnot ⟨⟨true, 31, 63⟩, 7, 5, 0, 0, 0, false, false, false, 0, 0, 0⟩),
  (0xBE80_00A0_8000_0000, 0, .mmov ⟨⟨true, 0, 0⟩, 5, 2, 0, 0, 0, false, false, false, 0, 0, 0⟩),
  (0xBF20_3041_4000_0000, 0, .mset ⟨⟨false, 8, 3⟩, 2, 5, 0, 0, 0, false, false, false, 0, 0, 0⟩)] = true := by decide +kernel

theorem test_decode_row_C : reads [
  (0xC0FF_F0A1_4000_0000, 0, .mget ⟨⟨true, 31, 63⟩, 5, 5, 0, 0, 0, false, false, false, 0, 0, 0⟩),
  (0xC180_00C0_8000_0000, 0, .mcnt ⟨⟨true, 0, 0⟩, 6, 2, 0, 0, 0, false, false, false, 0, 0, 0⟩),
  (0xC220_302F_C009_3080, 0, .ckacc ⟨⟨false, 8, 3⟩, 1, 63, 0, 1, 0, true, false, false, 6, 1, 0⟩),
  (0xC3FF_F000_8080_0780, 0, .ckchk ⟨⟨true, 31, 63⟩, 0, 2, 1, 0, 0, false, false, false, 0, 15, 0⟩),
  (0xC480_0040_0000_0000, 0, .ckclr ⟨⟨true, 0, 0⟩, 2, 0, 0, 0, 0, false, false, false, 0, 0, 0⟩),
  (0xC520_30A0_C000_0080, 0, .ckget ⟨⟨false, 8, 3⟩, 5, 3, 0, 0, 0, false, false, false, 0, 1, 0⟩),
  (0xC6FF_F0C1_4000_0000, 0, .mfirst ⟨⟨true, 31, 63⟩, 6, 5, 0, 0, 0, false, false, false, 0, 0, 0⟩),
  (0xC780_018A_23FF_FFFF, 0, .viaddi ⟨⟨true, 0, 0⟩, 12, 40, 0x23FFFFFF⟩),
  (0xC820_350F_E400_000F, 0, .vshli ⟨⟨false, 8, 3⟩, 40, 63, 0x2400000F⟩),
  (0xC9FF_F7E3_3800_001F, 0, .vshri ⟨⟨true, 31, 63⟩, 63, 12, 0x3800001F⟩),
  (0xCA80_018A_2C00_003F, 0, .vsrai ⟨⟨true, 0, 0⟩, 12, 40, 0x2C00003F⟩),
  (0xCB20_30CF_C000_0011, 0, .vext ⟨⟨false, 8, 3⟩, 6, 63, 0x11⟩),
  (0xCCFF_F7E2_4000_097F, 0, .vins ⟨⟨true, 31, 63⟩, 63, 9, 0x97F⟩),
  (0xCD80_018A_0000_00C0, 0, .vslide ⟨⟨true, 0, 0⟩, 12, 40, 0xC0⟩),
  (0xCE20_3500_2A00_0001, 0, .vimm ⟨⟨false, 8, 3⟩, 40, 0, 0x2A000001⟩),
  (0xCFFF_F7E0_0000_0000, 0x0123_4567_89AB_CDEF, .vlimm ⟨⟨true, 31, 63⟩, 63, 0x0⟩ 0x0123_4567_89AB_CDEF)] = true := by decide +kernel

theorem test_decode_row_D : reads [
  (0xD080_00C1_C180_0000, 0, .revoke ⟨⟨true, 0, 0⟩, 6, 7, 3, 0, 0, false, false, false, 0, 0, 0⟩),
  (0xD120_30E2_4780_0000, 0, .grant ⟨⟨false, 8, 3⟩, 7, 9, 15, 0, 0, false, false, false, 0, 0, 0⟩),
  (0xD2FF_F127_C000_0000, 0, .tsweep ⟨⟨true, 31, 63⟩, 9, 31, 0, 0, 0, false, false, false, 0, 0, 0⟩),
  (0xD380_0001_4000_0000, 0, .tcflush ⟨⟨true, 0, 0⟩, 0, 5, 0, 0, 0, false, false, false, 0, 0, 0⟩),
  (0xD420_30A1_8000_0100, 0, .pgclass ⟨⟨false, 8, 3⟩, 5, 6, 0, 0, 0, false, false, false, 0, 2, 0⟩),
  (0xD5FF_F0C1_C000_0000, 0, .ckpt ⟨⟨true, 31, 63⟩, 6, 7, 0x0⟩),
  (0xD680_00E2_4000_0000, 0, .ckroll ⟨⟨true, 0, 0⟩, 7, 9, 0x0⟩),
  (0xD720_3007_C000_000C, 0, .roleset ⟨⟨false, 8, 3⟩, 0, 31, 0xC⟩),
  (0xD8FF_F3E0_0000_0013, 0, .csrr ⟨⟨true, 31, 63⟩, 31, 0x13⟩),
  (0xD980_00A0_0000_0018, 0, .csrw ⟨⟨true, 0, 0⟩, 5, 0x18⟩),
  (0xDA20_3000_0000_FFFF, 0, .syscall ⟨⟨false, 8, 3⟩, 0, 0, 0xFFFF⟩),
  (0xDBFF_F000_0000_0000, 0, .tret ⟨⟨true, 31, 63⟩, 0, 0, 0x0⟩),
  (0xDC80_0000_0000_0000, 0, .halt ⟨⟨true, 0, 0⟩, 0, 0, 0x0⟩),
  (0xDD20_33E1_4780_0000, 0, .ctxsaveKeep ⟨⟨false, 8, 3⟩, 31, 5, 15, 0, 0, false, false, false, 0, 0, 0⟩),
  (0xDDFF_F0A1_8180_0080, 0, .ctxsaveDrop ⟨⟨true, 31, 63⟩, 5, 6, 3, 0, 0, false, false, false, 0, 1, 0⟩),
  (0xDE80_00C1_C780_0000, 0, .ctxload ⟨⟨true, 0, 0⟩, 6, 7, 15, 0, 0, false, false, false, 0, 0, 0⟩),
  (0xDE20_30E2_4180_0080, 0, .ctxloadEvict ⟨⟨false, 8, 3⟩, 7, 9, 3, 0, 0, false, false, false, 0, 1, 0⟩),
  (0xDFFF_F120_0000_1005, 0, .stest ⟨⟨true, 31, 63⟩, 9, 0, 0x1005⟩)] = true := by decide +kernel

theorem test_decode_row_E : reads [
  (0xE080_03E1_4180_0000, 0, .shelfput ⟨⟨true, 0, 0⟩, 31, 5, 3, 0, 0, false, false, false, 0, 0, 0⟩)] = true := by decide +kernel

/-! ### Words of the spec's own tables -/

theorem test_words_of_control_and_tokens : reads [
  (0x2F80_00C0_0000_0800, 0, .uld (fi 6 0 0x800)),
  (0x3A80_0001_0290_0000, 0, .jpost ⟨gA, 0, 4, 5, 2, 0, 0⟩),
  (0x3B80_00E1_0291_8000, 0, .remq ⟨gA, 7, 4, 5, 2, 3, 0⟩),
  (0x3C80_0000_0100_1040, 0, .wait (fl 0 0x1001040)),
  (0x3C80_0000_0200_0000, 0, .wait (fl 0 0x2000000)),
  (0x3D80_0020_8280_0003, 0, .sigwait (fm 1 2 5 0 3)),
  (0x3780_0040_C000_100B, 0, .await (fm 2 3 0 2 3 1)),
  (0x3E80_0120_0000_0003, 0, .gbar (fi 9 0 3)),
  (0x3F80_0120_0000_0003, 0, .phase (fi 9 0 3)),
  (0x4580_0000_0009_0006, 0, .fence (fi 0 0 0x90006)),
  (0x4680_00C0_8280_0143, 0, .sigadd ⟨gA, 6, 2, 5, 0, 2, 2, 0, false, 3⟩),
  (0x4780_0000_8280_0003, 0, .sigset (fm 0 2 5 0 3)),
  (0x4880_0120_4200_101E, 0, .lds ⟨gA, 9, 1, 4, 2, 0, 0, 3, true, 2⟩),
  (0x4E80_0001_4300_0800, 0, .discard (fm 0 5 6 1 0)),
  (0x5080_00E0_4206_115E, 0, .aadd ⟨gA, 7, 1, 4, 6, 2, 2, 2, 3, true, 2⟩),
  (0x5980_00A0_8186_0003, 0, .acas (fx 5 2 3 6 0 3))] = true := by decide +kernel

theorem test_words_of_bundles_and_system : reads [
  (0x5A80_0142_C000_0002, 0, .bnew (fi 10 11 2)),
  (0x5B80_0141_0680_0280, 0, .bjoin ⟨gA, 10, 4, 13, 0, 5, 0, 0, false, 0⟩),
  (0x5C80_0180_0000_0005, 0, .bseal (fi 12 0 5)),
  (0x5D80_0000_0000_0005, 0, .babort (fi 0 0 5)),
  (0x5E80_00A2_4000_0001, 0, .bviewSet (fi 5 9 1)),
  (0x5F80_01C2_8000_0000, 0, .bcheck (fi 14 10 0)),
  (0xD080_00C1_C100_0000, 0, .revoke (f3 6 7 2)),
  (0xD480_0101_C000_0080, 0, .pgclass (f3 8 7 0 0 1)),
  (0xD780_0001_0000_000C, 0, .roleset (fi 0 4 0xC)),
  (0xD880_0120_0000_0013, 0, .csrr (fl 9 0x13)),
  (0xD980_00C0_0000_0018, 0, .csrw (fl 6 0x18)),
  (0xDA80_0000_0000_0012, 0, .syscall (fi 0 0 0x12)),
  (0xDB80_0000_0000_0000, 0, .tret (fi 0 0 0)),
  (0xDD80_0142_C280_0080, 0, .ctxsaveDrop (f3 10 11 5 0 1)),
  (0xDE80_0142_C280_0000, 0, .ctxload (f3 10 11 5)),
  (0xDF80_0120_0000_1005, 0, .stest (fi 9 0 0x1005)),
  (0xE080_0142_C280_0000, 0, .shelfput (f3 10 11 5))] = true := by decide +kernel

theorem test_words_of_x : reads [
  (0x7580_0060_4102_9000, 0, .vfma ⟨gA, 3, 1, 2, 0, 1, false, true, false, 2, 0, 0⟩),
  (0x7080_0081_2480_0000, 0, .vadd (f3 4 4 0x49)),
  (0xB780_00E0_4000_1800, 0, .vpop { f3 7 1 0 with mask := 3 }),
  (0x8D80_00A0_4100_1100, 0, .vcmp { f3 5 1 2 0 2 with mask := 2 }),
  (0x8B80_00C0_8018_4800, 0, .vcvt { f3 6 2 0 3 0 with sat := true, mask := 1 }),
  (0xCB80_00A0_C000_0011, 0, .vext (fi 5 3 0x11)),
  (0xCF80_0040_0000_0000, 0x3F80_0000_3F80_0000, .vlimm (fl 2 0) 0x3F80_0000_3F80_0000)] = true := by decide +kernel

/-- R118: the outcomes at issue that the spec tabulates. -/
theorem test_outcomes_at_issue :
    failed (issueCheck .x false 0x1780_0101_4000_0000 0) = 0 ∧
    failed (issueCheck .x false 0x4880_0120_C200_4103 0) = 2 ∧
    failed (issueCheck .x false 0x7580_0060_4102_9008 0) = 4 ∧
    failed (issueCheck .c false 0xD080_04A0_0000_0000 0) = 4 ∧
    failed (issueCheck .c false 0x3080_0000_1C00_0000 0) = 4 ∧
    failed (issueCheck .x true 0xCF80_0040_0000_0000 0) = 3 ∧
    failed (issueCheck .c false 0xE180_0000_0000_0000 0) = 1 := by decide +kernel

/-- R115: no opcode that R130 leaves out decodes. -/
theorem test_unassigned_opcodes :
    ((List.range 256).filter fun o => opcodeAssigned (BitVec.ofNat 64 (o * 2 ^ 56))) = (List.range 0xE1).tail := by decide +kernel

/-! ### A small state -/

/-- A 64 MiB page at address 0 of this module, of class `cls`. -/
def page (cls : Nat) : Frame := ⟨0, 26, false, 0, cls, false, false, 0, 0⟩
/-- A LIVE entry of 1 MiB with every right. -/
def entryOf (f : Frame) : CabEntry :=
  { CabEntry.reset with length := 0x100000, state := .live, gen := 1, rights := 0xF, frames := [f], units := 1 }
/-- A token of entry `i` with every right. -/
def tokOf (i : Nat) : W64 := mkToken i 1 0xF
/-- A signal word at byte 0x800 of the extent of entry 1. -/
def sig0 : SigRef := ⟨1, tokOf 1, 0x800, 0⟩
/-- A launch of context 1 with one group. -/
def launch0 : Launch :=
  ⟨1, tokOf 1, [0x2A, 0, 0, 0x80], 64, [(0, ⟨3, 1⟩)], 2, sig0, 1, none, none, 0, false⟩
/-- The record of a continuation of that launch. -/
def rec0 : Rec :=
  { (default : Rec) with state := .running, ctx := 1, launchDie := 0, launch := 1, group := 0, prio := 3, pc := 8, args := [1, 2, 3, 4] }
/-- Banks 1 to 4 are SPAD, WBUF, ABUF and CBUF, and every other one CACHE. -/
def roles : W64 := 0x4688
/-- A core that runs that continuation; its handler is valid. -/
def core0 : Core :=
  { Core.reset with
    mode := .running, ctx := 1, launch := 1, resident := some 1, bankrole0 := roles, k := [(1, tokOf 1), (2, tokOf 1)]
    cont := { ContRegs.reset with tvec := 0x8000000000000108 }
    sc := { StreamState.reset with started := true, pc := 8, line := some 0 } }
/-- Context 1, at supervisor level. -/
def ctx1 (f : Frame) : Ctx :=
  { Ctx.reset with live := true, sup := true, poolQuota := 16, poolUsed := 1, frameUnits := 100, frameUsed := 1,
                   cabinet := [(1, entryOf f)], callow0 := 3, preq := 0x10000 }
/-- The die of that core. -/
def die0 : Die := { Die.reset with recs := [(0, rec0)], launches := [(1, launch0)] }
/-- One core runs, its memory is the page `f`. -/
def on (f : Frame) : State :=
  { State.reset with cores := [(0, core0)], dies := [(0, die0)], ctxs := [(1, ctx1 f)], turn := [(0, .c)], evTurn := false }
/-- The same with stream `st` issuing. -/
def as (st : Stream) (s : State) : State := { s with str := st }
/-- Core 0 changed. -/
def with0 (f : Core → Core) (s : State) : State := s.modCore 0 f
/-- C with a register set. -/
def rx (n : Nat) (v : W64) (s : State) : State := with0 (fun c => c.setScalar .c n v) s
/-- Context 1 changed. -/
def with1 (f : Ctx → Ctx) (s : State) : State := s.modCtx 1 f
/-- Context 1 at user level. -/
def user (s : State) : State := with1 (fun x => { x with sup := false }) s
/-- The state on a page of class HC. -/
def hc : State := on (page 0)
/-- The state on a page of class SC. -/
def sc : State := on (page 1)

/-- The step answers a next state. -/
def runs (o : Outcome State Fault Refusal) : Bool := match o with
  | .next _ => true
  | _ => false
/-- The next state satisfies `p`. -/
def next (o : Outcome State Fault Refusal) (p : State → Bool) : Bool := match o with
  | .next t => p t
  | _ => false

/-- What a check answers, if it passes. -/
def answer {ε α : Type} : Except ε α → Option α
  | .error _ => none
  | .ok a => some a

theorem answer_eq {ε α : Type} {x : Except ε α} {a : α} (h : answer x = some a) : x = .ok a := by
  cases x with
  | error e => cases h
  | ok b => cases h; rfl

/-- What a check refuses, if it fails. -/
def refusal {ε α : Type} : Except ε α → Option ε
  | .error e => some e
  | .ok _ => none

theorem refusal_eq {ε α : Type} {x : Except ε α} {e : ε} (h : refusal x = some e) : x = .error e := by
  cases x with
  | error e => cases h; rfl
  | ok b => cases h

/-! What has to be shown of every core is shown of the cores that the table lists. -/

theorem coreAt_cases (l : SMap Core) (n : Nat) : SMap.get Core.reset l n = Core.reset ∨ (n, SMap.get Core.reset l n) ∈ l := by
  induction l with
  | nil => exact .inl rfl
  | cons p l ih =>
    simp only [SMap.get]
    split
    · next h => exact .inr (h ▸ List.mem_cons_self)
    · exact ih.imp id (List.mem_cons_of_mem _)

theorem find_mem {α : Type} {l : SMap α} {k : Nat} {v : α} (h : SMap.find l k = some v) : (k, v) ∈ l := by
  induction l with
  | nil => cases h
  | cons p l ih =>
    simp only [SMap.find] at h
    split at h
    · next e => cases h; exact e ▸ List.mem_cons_self
    · exact List.mem_cons_of_mem _ (ih h)

/-- Every line that a core holds is listed. -/
theorem line_listed {s : State} {n l : Nat} {e : CLine} (h : SMap.find (s.coreAt n).lines l = some e) :
    ∃ c, (n, c) ∈ s.cores ∧ (l, e) ∈ c.lines := by
  rcases coreAt_cases s.cores n with hr | hm
  · rw [State.coreAt, hr] at h; cases h
  · exact ⟨_, hm, find_mem h⟩

/-- The part's own conditions of `plainPart`, and the one on lines over the lines listed. -/
def plainB (s : State) (g : Seg) : Bool :=
  !g.frame.hole && !g.frame.bundle && !s.isRemote g.frame && isMapped g.addr && decide (g.lineOff + g.len ≤ 128) && !s.movedPart g &&
    s.cores.all fun p => p.2.lines.all fun q => q.1 != lineNo g.addr || decide (q.2.cls = 0 ↔ g.frame.cls = 0)

theorem plain_of {s : State} {g : Seg} (h : plainB s g = true) : plainPart s g := by
  simp only [plainB, Bool.and_eq_true, Bool.not_eq_true', decide_eq_true_eq, List.all_eq_true, Bool.or_eq_true,
    bne_iff_ne, ne_eq] at h
  obtain ⟨⟨⟨⟨⟨⟨h1, h2⟩, h3⟩, h4⟩, h5⟩, h6⟩, h7⟩ := h
  refine ⟨h1, h2, h3, h4, h5, h6, fun n e he => ?_⟩
  obtain ⟨c, hc, hl⟩ := line_listed he
  exact (h7 _ hc _ hl).resolve_left fun x => x rfl

/-- `coherent` over the lines listed. -/
def coherentB (s : State) : Bool :=
  s.cores.all fun p => p.2.lines.all fun q =>
    (q.2.cls != 0 || (q.2.data == s.homeLine q.1 && q.2.poison == s.homePoison q.1)) &&
    s.cores.all fun p' => p'.2.lines.all fun q' => q'.1 != q.1 || (decide (q.2.cls = 0 ↔ q'.2.cls = 0) &&
      (q.2.cls != 0 || p.1 == p'.1 || ((q.2.state != .m && q.2.state != .e) && (q.2.state != .o || q'.2.state == .s))))

theorem coherent_of {s : State} (h : coherentB s = true) : coherent s := by
  simp only [coherentB, List.all_eq_true, Bool.and_eq_true, Bool.or_eq_true, bne_iff_ne, ne_eq, beq_iff_eq, decide_eq_true_eq] at h
  refine ⟨fun n l e he hcls => ?_, fun n m l e d he hd => ?_⟩
  · obtain ⟨c, hc, hl⟩ := line_listed he
    obtain ⟨h1, h2⟩ := h _ hc _ hl
    refine ⟨(h1.resolve_left fun x => x hcls).1, (h1.resolve_left fun x => x hcls).2, fun hm m hne => ?_, fun ho m d hne hd => ?_⟩
    · cases hd : SMap.find (s.coreAt m).lines l with
      | none => rfl
      | some d =>
        obtain ⟨c', hc', hl'⟩ := line_listed hd
        have h3 := ((h2 _ hc' _ hl').resolve_left fun x => x rfl).2
        rcases h3 with (h3 | h3) | h3
        · exact absurd hcls h3
        · exact absurd h3.symm hne
        · rcases hm with hm | hm
          · exact absurd hm h3.1.1
          · exact absurd hm h3.1.2
    · obtain ⟨c', hc', hl'⟩ := line_listed hd
      have h3 := ((h2 _ hc' _ hl').resolve_left fun x => x rfl).2
      rcases h3 with (h3 | h3) | h3
      · exact absurd hcls h3
      · exact absurd h3.symm hne
      · exact h3.2.resolve_left fun x => x ho
  · obtain ⟨c, hc, hl⟩ := line_listed he
    obtain ⟨c', hc', hl'⟩ := line_listed hd
    exact (((h _ hc _ hl).2 _ hc' _ hl').resolve_left fun x => x rfl).1

/-- `unhindered`, to be computed. -/
def unhinderedB (s : State) (op : MemOp) (r : Req) (l : List Seg) : Bool :=
  match s.str with
  | .a => (s.cur.reqs.all fun q => !s.standsBefore s.core q r) && (s.ready s.core .a).isEmpty && decide (pruneFences s.cur.reqs = s.cur.reqs)
  | _ => s.cur.reqs.all fun q =>
      !s.standsBefore s.core q { r with checked := true, tokIndex := tokIndex (s.cur.tok op.k), segs := l }

theorem unhindered_of {s : State} {op : MemOp} {r : Req} {l : List Seg} (h : unhinderedB s op r l = true) : unhindered s op r l := by
  unfold unhinderedB at h
  unfold unhindered
  cases hs : s.str <;>
    simp only [hs, Bool.and_eq_true, decide_eq_true_eq, List.all_eq_true, Bool.not_eq_true', List.isEmpty_iff] at h ⊢
  · exact h
  · exact ⟨h.1.1, h.1.2, h.2⟩
  · exact h

theorem answer_getD {ε α : Type} {x : Except ε α} {d : α} (h : (answer x).isSome = true) : x = .ok ((answer x).getD d) := by
  cases x with
  | error e => cases h
  | ok b => rfl

theorem plain_all {s : State} {l : List Seg} (h : l.all (plainB s) = true) : ∀ g ∈ l, plainPart s g :=
  fun g hg => plain_of (List.all_eq_true.mp h g hg)

/-- `pushedWord`, to be computed. -/
theorem pushed_of {s : State} {a size v : Nat}
    (h : (decide (v < 2 ^ (8 * size)) && ((List.range size).all fun k => v / 256 ^ k % 256 == pushedByte s (a + k)) &&
      decide (s.homePoison (lineNo a) = 0) && (SMap.find s.cur.lines (lineNo a)).all fun e => decide (e.poison = 0)) = true) :
    pushedWord s a size v := by
  simp only [Bool.and_eq_true, decide_eq_true_eq, List.all_eq_true, List.mem_range, beq_iff_eq] at h
  refine ⟨h.1.1.1, h.1.1.2, h.1.2, fun e he => ?_⟩
  have h2 := h.2
  rw [he] at h2
  simpa using h2

theorem keeps_of {c : Core} {ctx i : Nat} (h : (c.tcache.filter fun p => p.1 ≠ (ctx, i)).length < 64) : keepsEntries c ctx i := h

theorem suspend_of {s : State} (h : (let c := s.cur
    !c.cont.th && c.quiescent .a && c.quiescent .x && ((List.range 4).all fun q => c.loadQ q = []) && ((List.range 2).all fun q => c.storeQ q = []) &&
      c.binds = [] && c.loads .c = 0 && c.stores .c = 0) = true) : maySuspend s := by
  simp only [Bool.and_eq_true, Bool.not_eq_true', decide_eq_true_eq, List.all_eq_true, List.mem_range] at h
  obtain ⟨⟨⟨⟨⟨⟨⟨h1, h2⟩, h3⟩, h4⟩, h5⟩, h6⟩, h7⟩, h8⟩ := h
  exact ⟨h1, h2, h3, h4, h5, h6, h7, h8⟩

/-- The continuation's record in another state. -/
def recIs (f : Rec → Rec) (s : State) : State := s.modDie 0 fun d => { d with recs := [(0, f rec0)] }

theorem tidy_of {s : State} (h : (Memory.wf s.mem && Memory.wf s.hostMem && SMap.sorted s.cores && SMap.sorted s.dies && SMap.sorted s.ctxs) = true) :
    tidy s := by
  simp only [Bool.and_eq_true] at h
  exact ⟨h.1.1.1, h.1.1.2, h.1.2, h.2⟩

theorem witness_TidyKept : tidy State.reset ∧ runs (step State.reset) = true := by
  refine ⟨⟨⟨?_, ?_⟩, ?_, ?_, ?_⟩, ?_⟩ <;> decide

/-! ### Published vectors of the standards that R274, R389 and R419 name -/

/-- FIPS 180-4, the digest of "abc". -/
theorem test_sha256 : sha256 [0x61, 0x62, 0x63] = 0xba7816bf8f01cfea414140de5dae2223b00361a396177a9cb410ff61f20015ad#256 := by
  decide +kernel
/-- FIPS 197, C.3. -/
theorem test_aes256 : aesBlock (roundKeys (List.range 32)) ((List.range 16).map (17 * ·)) =
    [0x8e, 0xa2, 0xb7, 0xca, 0x51, 0x67, 0x45, 0xbf, 0xea, 0xfc, 0x49, 0x90, 0x4b, 0x49, 0x60, 0x89] := by decide +kernel
/-- The GCM specification, test case 14: a block of zeros under a key of zeros. -/
theorem test_gcm : gcmSeal 0 (List.replicate 12 0) [] (List.replicate 16 0) true =
    ([0xce, 0xa7, 0x40, 0x3d, 0x4d, 0x60, 0x6b, 0x6e, 0x07, 0x4e, 0xc5, 0xd3, 0xba, 0xf3, 0x9d, 0x18],
     [0xd0, 0xd1, 0xc8, 0xa7, 0x99, 0x99, 0x6b, 0xf0, 0x26, 0x5b, 0x98, 0xb5, 0xd4, 0x8a, 0xb9, 0x19]) := by decide +kernel

/-! ### Witnesses: words and steps -/

theorem failed_eq {x : Except Nat Instr} {k : Nat} (h : failed x = k + 1) : x = .error (k + 1) := by
  cases x with
  | error e => exact congrArg _ h
  | ok i => cases h

/-- `awake`, to be computed. -/
def awakeB (s : State) : Bool :=
  let c := s.cur
  c.mode = .running && !s.tdiStopped c.ctx && c.saving.isNone && (c.stream s.str).awaiting.isNone &&
    (s.str != .c || (c.cwait = .none && s.homes.feedSleepers.all fun p => p.1 != s.core)) && (s.str == .c || !c.cont.th) &&
    (s.str == .c || c.firstPending = none) && (s.str != .a || !c.stoppedA) && (s.str != .x || c.inflight.all fun f => f.remaining != 0)

theorem awake_of {s : State} (h : awakeB s = true) : awake s := by
  simp only [awakeB, Bool.and_eq_true, Bool.or_eq_true, decide_eq_true_eq, Bool.not_eq_true', Option.isNone_iff_eq_none,
    bne_iff_ne, ne_eq, beq_iff_eq, List.all_eq_true] at h
  obtain ⟨⟨⟨⟨⟨⟨⟨⟨h1, h2⟩, h3⟩, h4⟩, h5⟩, h6⟩, hp⟩, h7⟩, h8⟩ := h
  exact ⟨h1, h2, h3, h4, fun hs => h5.resolve_left (fun x => x hs), fun hs => ⟨h6.resolve_left hs, hp.resolve_left hs⟩,
    fun hs => h7.resolve_left (fun x => x hs), fun hs => h8.resolve_left (fun x => x hs)⟩

theorem mayIssue_of {s : State} (h : (awakeB s && !(s.cur.stream s.str).fell && namesSlot (s.cur.stream s.str).pc) = true) : mayIssue s := by
  simp only [Bool.and_eq_true, Bool.not_eq_true'] at h
  exact ⟨awake_of h.1.1, h.1.2, h.2⟩

theorem witness_EncodedWordsDecode : Instr.wf (.limm (fl 31 0) 5) = true := by decide
theorem witness_DecodedWordsEncode :
    decode 0x2E80_00C0_0000_0000 7 = some (.limm (fl 6 0) 7) ∧ takesLiteral 0x2E80_00C0_0000_0000 = true := by decide +kernel

theorem witness_IssueChecks :
    (opcodeAssigned 0xE180_0000_0000_0000 = false) ∧
    (opcodeAssigned 0x7080_0081_2480_0000 = true ∧ opcodeStream (opcodeOf 0x7080_0081_2480_0000) .c = false) ∧
    (opcodeAssigned 0x2080_00A0_0000_0008 = true ∧ opcodeStream (opcodeOf 0x2080_00A0_0000_0008) .c = true) ∧
    (opcodeStream (opcodeOf 0x3080_0000_1C00_0000) .c = true ∧ decode 0x3080_0000_1C00_0000 0 = none) ∧
    (let w := encode (.wait (fl 0 (2 ^ 25)))
     opcodeAssigned w = true ∧ opcodeStream (opcodeOf w) .c = true ∧ opcodeStream (opcodeOf w) .a = true ∧ decode w 0 = some (.wait (fl 0 (2 ^ 25))) ∧
     (fl 0 (2 ^ 25)).imm.getLsbD 25 = true ∧ issueCheck .a false w 0 = .ok (.wait (fl 0 (2 ^ 25)))) ∧
    issueCheck .c false 0x2080_00A0_0000_0008 0 = .ok (.addi (fi 5 0 8)) :=
  ⟨by decide, by decide, by decide, by decide +kernel,
    ⟨by decide +kernel, by decide +kernel, by decide +kernel, by decide +kernel, by decide +kernel, answer_eq (by decide +kernel)⟩,
    answer_eq (by decide +kernel)⟩

theorem test_wait_fin_illegal_in_c : issueCheck .c false (encode (.wait (fl 0 (2 ^ 25)))) 0 = .error 4 := failed_eq (by decide +kernel)

theorem witness_IllegalSlotTraps :
    let u := turnState hc 0 .c []
    let v := turnState (with0 (fun c => { c with sc := { c.sc with pc := 0x40 } }) hc) 0 .c []
    (hc.turn = [(0, .c)] ∧ hc.evTurn = false ∧ mayIssue u ∧ (u.cur.stream u.str).line = some 0 ∧
      issueCheck .c (literalBroken 0 8) (slotWord 0 8) (literalOf 0 8) = .error 1) ∧
    awake v ∧ (v.cur.stream v.str).fell = false ∧ namesSlot (v.cur.stream v.str).pc = false :=
  ⟨⟨by decide, by decide, mayIssue_of (by decide +kernel), by decide +kernel, failed_eq (by decide +kernel)⟩,
    awake_of (by decide +kernel), by decide, by decide⟩

/-- The state whose next step issues `addi x5, x0, 8`. -/
def addiNext : State := State.reset.withFetchWord 64 0x2080_00A0_0000_0008

/-- The line that its C stream holds. -/
def addiLine : BitVec 512 := (addiNext.coreAt 0).sc.line.getD 0

theorem witness_StepRunsDecoded :
    addiNext.turn = [(0, .c)] ∧ addiNext.evTurn = false ∧ mayIssue (turnState addiNext 0 .c []) ∧
    (turnState addiNext 0 .c []).cur.regPoison = [] ∧ ((turnState addiNext 0 .c []).cur.stream .c).line = some addiLine ∧
    ((turnState addiNext 0 .c []).cur.stream .c).pc = 8 ∧
    issueCheck .c (literalBroken addiLine 8) (slotWord addiLine 8) (literalOf addiLine 8) = .ok (.addi (fi 5 0 8)) ∧
    (∀ r ∈ (turnState addiNext 0 .c []).cur.reqs, r.str ≠ .c) ∧
    (turnState addiNext 0 .c []).waitsToIssue (slotWord addiLine 8) (.addi (fi 5 0 8)) = false := by
  refine ⟨by decide +kernel, by decide +kernel, mayIssue_of (by decide +kernel), by decide +kernel, by decide +kernel, by decide +kernel,
    answer_eq (by decide +kernel), by decide +kernel, by decide +kernel⟩

/-- The same, with a load of C outstanding whose register the `addi` writes. -/
def addiBehind : State := with0 (fun c => { c with reqs := [(as .c hc).newReq (.lds (fm 5 1 0 0 3)) 7 0 0 0 .none .none] }) addiNext

theorem witness_StepRunsDecoded_waits :
    mayIssue (turnState addiBehind 0 .c []) ∧ ((turnState addiBehind 0 .c []).cur.stream .c).line = some addiLine ∧
    (turnState addiBehind 0 .c []).waitsToIssue (slotWord addiLine 8) (.addi (fi 5 0 8)) = true :=
  ⟨mayIssue_of (by decide +kernel), by decide +kernel, by decide +kernel⟩

theorem test_waits_for_its_load : next (step addiBehind) (fun t => (t.coreAt 0).sc.pc = 8 && (t.coreAt 0).scalar .c 5 = 0) = true := by
  decide +kernel

theorem test_step_addi : next (step addiNext) (fun t => (t.coreAt 0).scalar .c 5 = 8 && (t.coreAt 0).sc.pc = 16) = true := by
  decide +kernel

/-! ### Witnesses: guards and traps -/

/-- A `wait` whose guard fails waits for no operand and no counter, a load of C outstanding (R117). -/
theorem test_guard_off_waits_for_nothing :
    (turnState addiBehind 0 .c []).waitsToIssue (encode (.exit ⟨gN, 0, 0, 0⟩)) (.exit ⟨gN, 0, 0, 0⟩) = false ∧
    (turnState addiBehind 0 .c []).waitsToIssue (encode (.exit (fi 0 0 0))) (.exit (fi 0 0 0)) = true := by decide +kernel

theorem witness_GuardSkips :
    (Instr.wf (.halt (fi 0 0 0)) = true ∧ (Instr.halt (fi 0 0 0)).legalIn .c = true ∧ supervisorForm (encode (.halt (fi 0 0 0))) = true ∧ (user hc).curCtx.sup = false) ∧
    (Instr.wf (.add { f3 1 1 1 with g := gN }) = true ∧ (Instr.add { f3 1 1 1 with g := gN }).legalIn .c = true ∧ supervisorForm (encode (.add { f3 1 1 1 with g := gN })) = false ∧
      hc.guardHolds (Guard.unpack (encode (.add { f3 1 1 1 with g := gN }))) = false) ∧
    (Instr.wf (.halt ⟨gN, 0, 0, 0⟩) = true ∧ hc.curCtx.sup = true ∧ hc.guardHolds (Guard.unpack (encode (.halt ⟨gN, 0, 0, 0⟩))) = false) := by
  decide +kernel

theorem test_guard_skips_literal :
    next (exec (.limm ⟨gN, 6, 0⟩ 7) hc) (fun t => t.cur.sc.pc = 24 && t.cur.scalar .c 6 = 0) = true := by decide +kernel

theorem witness_AdvanceAlongChain :
    ((hc.cur.stream hc.str).pc.toNat / 8 % 8 < 7) ∧
    (let v := (with0 (fun c => { c with sc := { c.sc with pc := 56, line := some 1 } }) hc).cur.sc
     v.pc.toNat / 8 % 8 = 7 ∧ ((v.line.getD 0).extractLsb' 0 24).toInt ≠ 0) ∧
    (let v := (with0 (fun c => { c with sc := { c.sc with pc := 48, line := some 0 } }) hc).cur.sc
     v.pc.toNat / 8 % 8 + 1 = 7 ∧ ((v.line.getD 0).extractLsb' 0 24).toInt = 0) := by decide +kernel

theorem test_advance_along_chain :
    ((hc.modCur fun c => { c with sc := { c.sc with pc := 0x78, line := some 0xFFFFFF } }).advance false).cur.sc.pc = 8 := by decide +kernel

theorem witness_TrapEntry :
    let c := hc.cur
    c.cont.th = false ∧ c.cwait = .none ∧ c.saving = none ∧ c.mode = .running ∧ hc.residualOf hc.core = none ∧
    [c.sc, c.sa, c.sx].map (·.fell) = [false, false, false] ∧ c.inside = none ∧ (∀ f ∈ c.inflight, f.remaining ≠ 0) ∧ c.cont.tvec.getLsbD 63 = true ∧ (hc.ctxAt c.ctx).sup = true ∧ (hc.ctxAt c.ctx).log = false ∧
    ((user hc).ctxAt c.ctx).sup = false ∧ cIllegal % 256 ≠ cPriv ∧ cIllegal % 256 ≠ cSyscall := by decide +kernel

theorem test_trap_entry :
    let u := hc.raise { code := cIllegal, info := 3 }
    u.cur.cont.cause = 0x301 ∧ u.cur.cont.epc = 8 ∧ u.cur.cont.th = true ∧ u.cur.sc.pc = 0x108 := by decide +kernel

theorem witness_CauseWord : (3 : Nat) < 4 ∧ causeWord 3 .x 0xFFFF 0xFF = 0xE000_0000_00FF_FFFF := by decide

/-! ### Witnesses: integer forms and transfers -/

theorem witness_IntegerForms :
    hc.guardHolds gA = true ∧ (as .x hc).guardHolds gA = true ∧
    (rx 1 7 hc).rd 0 = 0 ∧ ((rx 1 0x8000000000000000 (rx 2 (-1) hc)).rd 1).toInt = -(2 ^ 63) ∧
    ((rx 1 0x8000000000000000 (rx 2 (-1) hc)).rd 2).toInt = -1 := by decide +kernel

theorem test_add_wraps : next (exec (.add (f3 3 1 2)) (rx 1 (-1) (rx 2 2 hc))) (fun t => t.cur.scalar .c 3 = 1) = true := by decide +kernel
theorem test_add_saturates :
    next (exec (.add { f3 1 1 2 with sat := true }) (rx 1 0x7FFFFFFFFFFFFFFF (rx 2 2 hc))) (fun t => t.cur.scalar .c 1 = 0x7FFFFFFFFFFFFFFF) = true := by
  decide +kernel
theorem test_sub_order : next (exec (.sub (f3 1 1 2)) (rx 1 1 (rx 2 2 hc))) (fun t => t.cur.scalar .c 1 = -1) = true := by decide +kernel
theorem test_mulh_signed : next (exec (.mulh (f3 3 1 2)) (rx 1 (-1) (rx 2 2 hc))) (fun t => t.cur.scalar .c 3 = -1) = true := by decide +kernel
theorem test_mulhn_unsigned : next (exec (.mulhn (f3 3 1 2)) (rx 1 (-1) (rx 2 2 hc))) (fun t => t.cur.scalar .c 3 = 1) = true := by decide +kernel
theorem test_div_of_least :
    next (exec (.div (f3 3 1 2)) (rx 1 0x8000000000000000 (rx 2 (-1) hc))) (fun t => t.cur.scalar .c 3 = 0x8000000000000000) = true := by
  decide +kernel
theorem test_rem_sign : next (exec (.rem (f3 3 1 2)) (rx 1 (-7) (rx 2 2 hc))) (fun t => t.cur.scalar .c 3 = -1) = true := by decide +kernel
theorem test_divn_by_zero : next (exec (.divn (f3 3 1 2)) (rx 1 7 hc)) (fun t => t.cur.scalar .c 3 = -1) = true := by decide +kernel
theorem test_sra_count_modulo_64 :
    next (exec (.sra (f3 3 1 2)) (rx 1 0x8000000000000000 (rx 2 127 hc))) (fun t => t.cur.scalar .c 3 = -1) = true := by decide +kernel
theorem test_rol : next (exec (.rol (f3 3 1 2)) (rx 1 0x8000000000000001 (rx 2 4 hc))) (fun t => t.cur.scalar .c 3 = 0x18) = true := by
  decide +kernel
theorem test_clz_of_zero : next (exec (.clz (f3 3 1 0)) hc) (fun t => t.cur.scalar .c 3 = 64) = true := by decide +kernel
theorem test_register_zero : next (exec (.addi (fi 0 1 1)) (rx 1 7 hc)) (fun t => t.cur.scalar .c 0 = 0) = true := by decide +kernel
theorem test_extrs : next (exec (.extrs (fi 3 4 0x1C8)) (rx 4 0x8F00 hc)) (fun t => t.cur.scalar .c 3 = 0xFFFFFFFFFFFFFF8F) = true := by
  decide +kernel
theorem test_integer_in_x_is_late :
    next (exec (.addi (fi 3 0 5)) (as .x hc)) (fun t => t.cur.scalar .x 3 = 0 && t.cur.inflight.map (·.remaining) = [0]) = true := by
  decide +kernel

theorem witness_ImmediateForms :
    hc.guardHolds gA = true ∧ (fi 1 1 0x1C8).imm.toNat % 64 + ((fi 1 1 0x1C8).imm.toNat / 64 % 64 + 1) ≤ 64 := by decide +kernel

theorem witness_Transfers :
    hc.guardHolds gA = true ∧ namesSlot ((rx 1 0x48 hc).rd 1) = true ∧ namesSlot ((rx 1 0x40 hc).rd 1) = false ∧ (rx 1 0 hc).rd 1 = 0 ∧
    (rx 1 1 hc).rd 1 = 1 ∧ (rx 1 2 hc).rd 1 ≠ 0 ∧ (rx 1 2 hc).rd 1 ≠ 1 ∧ namesSlot (8 + (0 : W64)) = true := by decide +kernel

/-- The branch of the spec's first worked encoding. -/
theorem test_branch_target :
    next (exec (.br ⟨⟨true, 8, 0⟩, 0, 0, false, 4, 0x3FFFFFF⟩) (with0 (fun c => { c with sc := { c.sc with pc := 0x48 } }) hc))
      (fun t => t.cur.sc.pc = 0x28) = true := by decide +kernel
theorem test_call_link :
    next (exec (.call ⟨gA, 30, 0, false, 2, 1⟩) hc) (fun t => t.cur.scalar .c 30 = 0x10 && t.cur.sc.pc = 0x58) = true := by decide +kernel
theorem test_call_bad_target_links :
    next (exec (.call ⟨gA, 30, 1, true, 0, 0⟩) (rx 1 0x41 hc)) (fun t => t.cur.cont.cause = 1 && t.cur.cont.epc = 0x41 && t.cur.scalar .c 30 = 0x10) = true := by
  decide +kernel
theorem test_ret_bad_target :
    next (exec (.ret ⟨gA, 0, 1, true, 0, 0⟩) (rx 1 0x41 hc)) (fun t => t.cur.cont.cause = 1 && t.cur.cont.epc = 0x41) = true := by
  decide +kernel

theorem witness_TransferKeepsLine :
    ((0x18 : W64).toNat / 64 * 64 = hc.cur.sc.lineAt.toNat) ∧ ((0x48 : W64).toNat / 64 * 64 ≠ hc.cur.sc.lineAt.toNat) := by decide +kernel

theorem witness_BufferAndUniformLoads :
    let f := fm 1 1 0 0 3 3
    hc.str ≠ .x ∧ hc.guardHolds gA = true ∧ f.hint = 3 ∧ hc.cur.inBuf f.s1.toNat (fmOffset f (hc.rd f.s2) 8) 8 = true ∧
    mayReadBuf hc.str f.s1.toNat = true ∧ hc.cur.bufPoison f.s1.toNat (fmOffset f (hc.rd f.s2) 8) 8 = false ∧ mayWriteBuf hc.str f.s1.toNat = true ∧
    hc.localReady (.lds f) = true ∧ hc.localReady (.sts f) = true ∧
    (let a := as .a (with0 (fun c => { c with reqs := [(as .a hc).newReq (.ldacq (fm 5 1 0 0 3)) 7 0 0 0 .none .none] }) hc)
     a.str ≠ .x ∧ a.guardHolds gA = true ∧ a.cur.inBuf f.s1.toNat (fmOffset f (a.rd f.s2) 8) 8 = true ∧ mayReadBuf a.str f.s1.toNat = true ∧
     mayWriteBuf a.str f.s1.toNat = true ∧ a.localReady (.lds f) = false ∧ a.localReady (.sts f) = false) ∧
    (let l := rx 1 98296 hc
     l.cur.inBuf 1 (fmOffset f (l.rd 1) 8) 8 = true) := by decide +kernel

theorem test_sts_lds_of_spad :
    next (exec (.sts (fm 2 1 1 0 3 3)) (rx 2 0x1122334455667788 (rx 1 98296 hc))) (fun t =>
      next (exec (.lds { fm 3 1 1 0 2 3 with sgn := true, off := 1 }) t) (fun u => u.cur.scalar .c 3 = 0x11223344)) = true := by decide +kernel

theorem witness_Uld :
    hc.launchAt hc.cur.launchDie hc.cur.launch = some launch0 ∧ (rx 1 56 hc).str ≠ .x ∧ (rx 1 56 hc).guardHolds gA = true ∧
    ((rx 1 56 hc).rd 1).toNat + 0 + 8 ≤ launch0.len ∧ launch0.len < ((rx 1 56 hc).rd 1).toNat + 1 + 8 := by decide +kernel

theorem test_uld : next (exec (.uld (fi 3 0 (0x1000 + 2 * 1024))) hc) (fun t => t.cur.scalar .c 3 = 0xFFFFFFFF8000002A) = true := by decide +kernel
theorem test_uld_bounds : next (exec (.uld (fi 3 1 (3 * 1024 + 1))) (rx 1 56 hc)) (fun t => t.cur.cont.cause = 4) = true := by decide +kernel

/-! ### Witnesses: streams, records and pickup -/

theorem witness_StreamsStart :
    let f : FB := ⟨gA, 1, 0, false, 2, 1⟩
    hc.str = .c ∧ hc.guardHolds f.g = true ∧ hc.cur.cont.th = false ∧ (hc.cur.stream .a).started = false ∧
    namesSlot (hc.branchTarget f) = true ∧ (with0 (fun c => { c with sa := { c.sa with started := true, finished := true } }) hc).cur.sa.finished = true ∧
    (let s := with0 (fun c => { c with cont := { c.cont with th := true } }) hc
     s.guardHolds f.g = true ∧ s.cur.cont.th = true) := by
  decide +kernel

theorem test_start : next (exec (.start ⟨gA, 2, 0, false, 2, 1⟩) hc) (fun t => t.cur.sx.started && t.cur.sx.pc = 0x58 && t.turn = [(0, .c), (0, .x)]) = true := by
  decide +kernel

/-- C has posted a tile job. -/
def tiled : State := with0 (fun c => { c with sc := { c.sc with tile := 1 } }) hc

theorem witness_StreamsWait :
    (let c := tiled.cur
     c.loads .c ≤ 0 ∧ c.stores .c ≤ 0 ∧ c.sc.copies ≤ 0 ∧ c.sc.tile ≤ (fl 0 (1 * 2 ^ 19)).imm.toNat / 2 ^ 19 % 64 ∧ ¬ c.sc.tile ≤ 0) ∧
    (fl 0 (2 ^ 25)).imm.toNat / 2 ^ 25 % 2 = 1 ∧ (as .x hc).cur.inflight = [] := by decide +kernel

theorem test_wait_stalls : next (exec (.wait (fl 0 0)) tiled) (fun t => t = tiled) = true := by decide +kernel
theorem test_wait_fin : next (exec (.wait (fl 0 (2 ^ 25))) (as .a { hc with turn := [(0, .a), (0, .c)] })) (fun t => t.cur.sa.finished && t.turn = [(0, .c)]) = true := by
  decide +kernel
theorem test_wait_fin_in_c : next (exec (.wait (fl 0 (2 ^ 25))) hc) (fun t => t.cur.cont.cause = 0x401 && !t.cur.sc.finished) = true := by decide +kernel

/-- A descriptor of group 0, priority 5 and no frame in x6; and one with a frame of the extent of k15 in x7. -/
def spawner : State := with0 (fun c => (c.setScalar .c 6 0x500).setScalar .c 7 (0x40000000 + 0x1500) |>.setTok 15 (tokOf 1)) hc

theorem witness_SpawnsAndRecords :
    (let s := spawner
     let f : FB := ⟨gA, 6, 0, false, 2, 1⟩
     let f' : FB := ⟨gA, 7, 0, false, 2, 1⟩
     s.str = .c ∧ s.guardHolds f.g = true ∧ s.cur.cont.th = false ∧ s.badDescriptor (s.rd f.d) = false ∧ (s.rd f.d).toNat / 2 ^ 11 % 4 = 0 ∧
     s.badDescriptor (s.rd f'.d) = false ∧ (s.rd f'.d).toNat / 2 ^ 11 % 4 = 2 ∧ keepsEntries s.cur s.cur.ctx (tokIndex (s.cur.tok 15)) ∧
     s.checkToken s.cur.ctx (s.cur.tok 15) ((s.rd f'.d).toNat / 2 ^ 24) 64 (needR ||| needW) = .ok (entryOf (page 0)) ∧
     namesSlot (s.branchTarget f) = true ∧ s.curCtx.poolUsed < s.curCtx.poolQuota ∧ s.findSlot (dieOf s.core) = some (0, 1)) := by
  refine ⟨by decide, by decide +kernel, by decide +kernel, by decide +kernel, by decide +kernel, by decide +kernel, by decide +kernel, keeps_of (by decide +kernel),
    answer_eq (by decide +kernel), by decide +kernel, by decide +kernel, by decide +kernel⟩

theorem test_spawn :
    next (exec (.spawn ⟨gA, 6, 0, false, 2, 1⟩) spawner) (fun t => ((t.recAt 0 1).map (·.prio)) = some 5 && t.events = [.spawnReady 0 1]) = true := by
  decide +kernel

theorem witness_Records :
    (recIs (fun r => { r with state := .waiting }) hc).recAt 0 0 = some { rec0 with state := .waiting } ∧
    (let r := { rec0 with state := RecState.ready }
     (recIs (fun _ => r) hc).recAt 0 0 = some r ∧ r.t0 ≤ hc.time ∧ r.level hc.time < 7) := by decide +kernel

theorem test_level_rises : next (exec (.effectiveLevelRise 0) (recIs (fun r => { r with state := .ready }) hc)) (fun t => t.time = 4096) = true := by
  decide +kernel

theorem witness_SuspendAndPickup : hc.str = .c ∧ hc.guardHolds gA = true ∧ maySuspend hc ∧ hc.recAt hc.cur.recDie hc.cur.recSlot = some rec0 :=
  ⟨by decide, by decide +kernel, suspend_of (by decide +kernel), by decide +kernel⟩

theorem test_exit : next (exec (.exit (fi 0 0 0)) hc) (fun t => t.recAt 0 0 = none && (t.coreAt 0).mode = .idle && t.turn = []) = true := by
  decide +kernel

/-- The core is idle and its context's record is READY. -/
def idle : State := with0 (fun _ => { Core.reset with resident := some 1 }) (recIs (fun r => { r with state := .ready, frameOff := 0x40, ftok := 9 }) hc)

theorem witness_Pickup :
    (idle.coreAt 0).mode = .idle ∧ (idle.coreAt 0).stopping = false ∧ (idle.dieAt (dieOf 0)).inService = true ∧
    (idle.coreAt 0).underTest = false ∧
    idle.choose 0 = some ((0, 0), { rec0 with state := .ready, frameOff := 0x40, ftok := 9 }) ∧ (idle.coreAt 0).resident = some 1 := by decide +kernel

theorem test_pickup :
    next (exec (.pickup 0) idle) (fun t => (List.range 7).map ((t.coreAt 0).scalar .c) = [0, 1, 2, 3, 4, 0x40, 0] && (t.coreAt 0).tok 15 = 9 && (t.coreAt 0).sc.pc = 8) = true := by
  decide +kernel

/-! ### Witnesses: memory -/

/-- The word of 8 bytes at 0x40 of the page. -/
def word40 (cls : Nat) : Seg := ⟨0, 0, 8, page cls, 0x40⟩
/-- x1 holds 0x40, and memory there 0x8877665544332211. -/
def mem0 (s : State) : State := { rx 1 0x40 (rx 2 0x0102030405060708 s) with mem := Memory.writeNat [] 0x40 8 0x8877665544332211 }

theorem witness_HomeAndDeviceWrites : tidy (mem0 hc) := tidy_of (by decide +kernel)

theorem witness_SharedLoads :
    let s := mem0 hc
    let f := fm 3 1 1 0 3
    s.str = .c ∧ s.guardHolds f.g = true ∧ tidy s ∧ coherent s ∧ s.cur.counterFull .c .load = false ∧ plainPart s (word40 0) ∧
    s.homePoison (lineNo 0x40) = 0 ∧ f.hint ≠ 3 ∧ s.checkReq s.core (fmMemOp f .load needR) (s.newReq (.lds f) 7 0 (s.rd f.s2) 0 .none .none) = .ok [word40 0] ∧
    s.checkReq s.core { fmMemOp f .load needR with na := false } (s.newReq (.ldacq f) 7 0 (s.rd f.s2) 0 .none .none) = .ok [word40 0] ∧
    unhindered s (fmMemOp f .load needR) (s.newReq (.lds f) 7 0 (s.rd f.s2) 0 .none .none) [word40 0] ∧
    unhindered s { fmMemOp f .load needR with na := false } (s.newReq (.ldacq f) 7 0 (s.rd f.s2) 0 .none .none) [word40 0] :=
  ⟨by decide, by decide +kernel, tidy_of (by decide +kernel), coherent_of (by decide +kernel), by decide +kernel, plain_of (by decide +kernel),
    by decide +kernel, by decide, answer_eq (by decide +kernel), answer_eq (by decide +kernel), unhindered_of (by decide +kernel),
    unhindered_of (by decide +kernel)⟩

/-- A, with x1 and x2 as C has them in `mem0`, behind a stopped vector load of another class and of other lines. -/
def inA (s : State) : State :=
  let s := as .a (with0 (fun c => { c with a := c.x, sa := { c.sc with started := true } }) (mem0 s))
  with0 (fun c => { c with reqs := [{ s.newReq (.vld { fm 0 1 1 0 2 with cls := 1 }) 0 0 0x1000 0 .none .none with stop := some ⟨cPoison, 0⟩ }] }) s

theorem witness_SharedLoads_in_a :
    let s := inA hc
    let f := fm 3 1 1 0 3
    s.str ≠ .x ∧ s.guardHolds f.g = true ∧ tidy s ∧ coherent s ∧ s.cur.counterFull s.str .load = false ∧ plainPart s (word40 0) ∧
    s.checkReq s.core (fmMemOp f .load needR) (s.newReq (.lds f) 7 0 (s.rd f.s2) 0 .none .none) = .ok [word40 0] ∧
    unhindered s (fmMemOp f .load needR) (s.newReq (.lds f) 7 0 (s.rd f.s2) 0 .none .none) [word40 0] ∧ s.cur.reqs ≠ [] :=
  ⟨by decide, by decide +kernel, tidy_of (by decide +kernel), coherent_of (by decide +kernel), by decide +kernel, plain_of (by decide +kernel),
    answer_eq (by decide +kernel), unhindered_of (by decide +kernel), by decide +kernel⟩

theorem test_lds_bytes : next (exec (.lds { fm 3 1 1 1 1 with sgn := true }) (mem0 hc)) (fun t => t.cur.scalar .c 3 = 0x4433) = true := by
  decide +kernel
theorem test_lds_sign : next (exec (.lds { fm 3 1 1 7 0 with sgn := true }) (mem0 hc)) (fun t => t.cur.scalar .c 3 = 0xFFFFFFFFFFFFFF88) = true := by
  decide +kernel

/-- Core 0 holds the word's line, whose first stored byte is the one at 0x40. -/
def held (cls : Nat) (st : LineState) (s : State) : State :=
  with0 (fun c => { c with lines := [(0, ⟨st, (s.homeLine 0), if cls = 0 then 0 else byteMask 0x40 1, cls, 0⟩)] }) s

theorem witness_SharedLoads_own :
    let s := held 0 .e (mem0 hc)
    coherent s ∧ plainPart s (word40 0) ∧ s.cur.hasCache = true ∧ (SMap.find s.cur.lines (lineNo 0x40)).map (·.poison) = some 0 ∧
    next (exec (.lds (fm 3 1 1 0 3)) s) (fun t => t.cur.scalar .c 3 = 0x8877665544332211) = true :=
  ⟨coherent_of (by decide +kernel), plain_of (by decide +kernel), by decide +kernel, by decide +kernel, by decide +kernel⟩

theorem witness_SharedLoads_sc :
    let s := held 1 .m (mem0 sc)
    let f := fm 3 1 1 0 3
    tidy s ∧ coherent s ∧ plainPart s (word40 1) ∧ (word40 1).frame.cls ≠ 0 ∧ keepsEntries s.cur s.cur.ctx (tokIndex (s.cur.tok f.s1.toNat)) ∧
    s.checkReq s.core (fmMemOp f .load needR) (s.newReq (.lds f) 7 0 (s.rd f.s2) 0 .none .none) = .ok [word40 1] ∧
    unhindered s (fmMemOp f .load needR) (s.newReq (.lds f) 7 0 (s.rd f.s2) 0 .none .none) [word40 1] :=
  ⟨tidy_of (by decide +kernel), coherent_of (by decide +kernel), plain_of (by decide +kernel), by decide, keeps_of (by decide +kernel),
    answer_eq (by decide +kernel), unhindered_of (by decide +kernel)⟩

theorem witness_SharedStores :
    (let s := mem0 hc
     let f := fm 2 1 1 0 3
     s.cur.counterFull .c .store = false ∧ plainPart s (word40 0) ∧ (word40 0).frame.cls = 0 ∧
     s.checkReq s.core (fmMemOp f .store needW) (s.newReq (.sts f) 7 0 (s.rd f.s2) (s.rd f.d) .none .none) = .ok [word40 0] ∧
     s.checkReq s.core { fmMemOp f .store needW with na := false } (s.newReq (.strel f) 7 0 (s.rd f.s2) (s.rd f.d) .none .none) = .ok [word40 0] ∧
     unhindered s (fmMemOp f .store needW) (s.newReq (.sts f) 7 0 (s.rd f.s2) (s.rd f.d) .none .none) [word40 0] ∧
     unhindered s { fmMemOp f .store needW with na := false } (s.newReq (.strel f) 7 0 (s.rd f.s2) (s.rd f.d) .none .none) [word40 0]) ∧
    (let s := mem0 sc
     let f := fm 2 1 1 0 3
     coherent s ∧ tidy s ∧ plainPart s (word40 1) ∧ heldBack s (fmMemOp f .store needW) (word40 1) ∧
     keepsEntries s.cur s.cur.ctx (tokIndex (s.newReq (.sts f) 7 0 (s.rd f.s2) (s.rd f.d) .none .none).tok) ∧
     s.checkReq s.core (fmMemOp f .store needW) (s.newReq (.sts f) 7 0 (s.rd f.s2) (s.rd f.d) .none .none) = .ok [word40 1] ∧
     unhindered s (fmMemOp f .store needW) (s.newReq (.sts f) 7 0 (s.rd f.s2) (s.rd f.d) .none .none) [word40 1]) ∧
    (let s := mem0 sc
     let f := fm 2 1 1 0 3 1
     ¬ heldBack s (fmMemOp f .store needW) (word40 1) ∧ s.cur.lines = [] ∧
     s.checkReq s.core (fmMemOp f .store needW) (s.newReq (.sts f) 7 0 (s.rd f.s2) (s.rd f.d) .none .none) = .ok [word40 1] ∧
     unhindered s (fmMemOp f .store needW) (s.newReq (.sts f) 7 0 (s.rd f.s2) (s.rd f.d) .none .none) [word40 1]) :=
  ⟨⟨by decide +kernel, plain_of (by decide +kernel), by decide, answer_eq (by decide +kernel), answer_eq (by decide +kernel),
      unhindered_of (by decide +kernel), unhindered_of (by decide +kernel)⟩,
    ⟨coherent_of (by decide +kernel), tidy_of (by decide +kernel), plain_of (by decide +kernel), by unfold heldBack; decide +kernel, keeps_of (by decide +kernel), answer_eq (by decide +kernel),
      unhindered_of (by decide +kernel)⟩,
    by unfold heldBack; decide +kernel, by decide +kernel, answer_eq (by decide +kernel), unhindered_of (by decide +kernel)⟩

theorem test_sts_reaches_home : next (exec (.sts (fm 2 1 1 0 2)) (mem0 hc)) (fun t => lineBytes (t.homeLine 0) 0x40 8 = 0x8877665505060708) = true := by
  decide +kernel
theorem test_sts_held_back :
    next (exec (.sts (fm 2 1 1 0 2)) (mem0 sc)) (fun t => Memory.readNat t.mem 0x40 8 = 0x8877665544332211 &&
      (SMap.find t.cur.lines 0).map (fun e => e.dirty) = some (byteMask 0x40 4)) = true := by decide +kernel

theorem witness_AtomicsAndSignals :
    let s := mem0 hc
    let f := fx 4 1 1 2 0 3
    let g := fm 2 1 1 0 3
    s.cur.counterFull .c .load = false ∧ s.cur.counterFull .c .sigadd = false ∧ pushedWord s 0x40 8 0x8877665544332211 ∧
    s.checkReq s.core { fxMemOp f (.atomic 9) needA with na := false }
      (s.newReq (.acas f) 7 0 (s.rd f.s2) (s.rd f.x) ⟨(s.rd f.d).setWidth 2048, 0, false⟩ .none) = .ok [word40 0] ∧
    s.checkReq s.core (fmMemOp g .sigadd needA) (s.newReq (.sigadd g) 7 0 (s.rd g.s2) (s.rd g.d) .none .none) = .ok [word40 0] ∧
    s.checkReq s.core (fmMemOp g .sigset needA) (s.newReq (.sigset g) 7 0 (s.rd g.s2) (s.rd g.d) .none .none) = .ok [word40 0] ∧
    unhindered s { fxMemOp f (.atomic 9) needA with na := false }
      (s.newReq (.acas f) 7 0 (s.rd f.s2) (s.rd f.x) ⟨(s.rd f.d).setWidth 2048, 0, false⟩ .none) [word40 0] ∧
    unhindered s (fmMemOp g .sigadd needA) (s.newReq (.sigadd g) 7 0 (s.rd g.s2) (s.rd g.d) .none .none) [word40 0] ∧
    unhindered s (fmMemOp g .sigset needA) (s.newReq (.sigset g) 7 0 (s.rd g.s2) (s.rd g.d) .none .none) [word40 0] :=
  ⟨by decide +kernel, by decide +kernel, pushed_of (by decide +kernel), answer_eq (by decide +kernel), answer_eq (by decide +kernel), answer_eq (by decide +kernel),
    unhindered_of (by decide +kernel), unhindered_of (by decide +kernel), unhindered_of (by decide +kernel)⟩

/-- Core 0 has stored 0x99 to the byte at 0x40 of an SC page, which the home still serves as 0x11. -/
def unpushed : State :=
  with0 (fun c => { c with lines := c.lines.map fun p => (p.1, { p.2 with data := p.2.data + (0x88 <<< 512) }) }) (held 1 .m (mem0 sc))

theorem witness_AtomicsAndSignals_sc :
    let s := unpushed
    let f := fx 4 1 1 2 0 3
    tidy s ∧ coherent s ∧ plainPart s (word40 1) ∧ (word40 1).frame.cls ≠ 0 ∧ pushedWord s 0x40 8 0x8877665544332299 ∧
    s.checkReq s.core { fxMemOp f (.atomic 0) needA with na := false }
      (s.newReq (.aadd f) 7 0 (s.rd f.s2) (s.rd f.x) ⟨(s.rd f.d).setWidth 2048, 0, false⟩ .none) = .ok [word40 1] ∧
    unhindered s { fxMemOp f (.atomic 0) needA with na := false }
      (s.newReq (.aadd f) 7 0 (s.rd f.s2) (s.rd f.x) ⟨(s.rd f.d).setWidth 2048, 0, false⟩ .none) [word40 1] :=
  ⟨tidy_of (by decide +kernel), coherent_of (by decide +kernel), plain_of (by decide +kernel), by decide, pushed_of (by decide +kernel),
    answer_eq (by decide +kernel), unhindered_of (by decide +kernel)⟩

theorem test_aadd_pushes :
    next (exec (.aadd (fx 4 1 1 5 0 3)) (rx 5 1 unpushed)) (fun t => t.cur.scalar .c 4 = 0x8877665544332299 && t.cur.lines = [] &&
      lineBytes (t.homeLine 0) 0x40 8 = 0x887766554433229A) = true := by decide +kernel

theorem test_amin_signed :
    next (exec (.amin (fx 4 1 1 2 0 3)) (mem0 hc)) (fun t => t.cur.scalar .c 4 = 0x8877665544332211 && lineBytes (t.homeLine 0) 0x40 8 = 0x8877665544332211) = true := by
  decide +kernel
theorem test_acas_swaps :
    next (exec (.acas (fx 4 1 1 2 0 3)) (rx 4 0x8877665544332211 (mem0 hc))) (fun t => t.cur.scalar .c 4 = 0x8877665544332211 &&
      lineBytes (t.homeLine 0) 0x40 8 = 0x0102030405060708) = true := by decide +kernel

/-- The worked example of R345: the job's error arrived first, and `sigadd` does not change its cause. -/
theorem test_sigadd_first_cause : sigAdd 0x8300000000000001 0x8A00000000000001 = 0x8300000000000002 := by decide

theorem witness_CacheControl :
    (let s := held 1 .m (mem0 sc)
     let f := fm 0 1 1 0 0
     let e : CLine := ⟨.m, s.homeLine 0, byteMask 0x40 1, 1, 0⟩
     let g : Seg := ⟨0, 0, 1, page 1, 0x40⟩
     tidy s ∧ coherent s ∧ s.cur.counterFull .c .wback = false ∧ plainPart s g ∧ keepsEntries s.cur s.cur.ctx (tokIndex (s.cur.tok f.s1.toNat)) ∧ SMap.find s.cur.lines (lineNo g.addr) = some e ∧ e.cls ≠ 0 ∧
     s.checkReq s.core { fmMemOp f .wback needR with size := 1 } (s.newReq (.wback f) 7 0 (s.rd f.s2) 0 .none .none) = .ok [g] ∧
     s.checkReq s.core { fmMemOp f .inval needR with size := 1 } (s.newReq (.inval f) 7 0 (s.rd f.s2) 0 .none .none) = .ok [g] ∧
     unhindered s { fmMemOp f .wback needR with size := 1 } (s.newReq (.wback f) 7 0 (s.rd f.s2) 0 .none .none) [g] ∧
     unhindered s { fmMemOp f .inval needR with size := 1 } (s.newReq (.inval f) 7 0 (s.rd f.s2) 0 .none .none) [g]) ∧
    (let s := rx 1 0 (mem0 hc)
     let f := fm 0 1 1 0 0
     let g : Seg := ⟨0, 0, 128, page 0, 0⟩
     plainPart s g ∧ s.cur.lines = [] ∧ g.frame.cls = 0 ∧
     s.checkReq s.core { fmMemOp f .discard needW with size := 128 } (s.newReq (.discard f) 7 0 (s.rd f.s2) 0 .none .none) = .ok [g] ∧
     unhindered s { fmMemOp f .discard needW with size := 128 } (s.newReq (.discard f) 7 0 (s.rd f.s2) 0 .none .none) [g]) ∧
    (let f := fm 3 1 1 0 0
     hc.cur.counterFull .c .rprobe = false ∧ keepsEntries hc.cur hc.cur.ctx (tokIndex (hc.cur.tok f.s1.toNat)) ∧
     hc.checkToken hc.cur.ctx (hc.cur.tok f.s1.toNat) (fmOffset f (hc.rd f.s2) 65536) 0 needR = .ok (entryOf (page 0)) ∧
     unhindered hc { fmMemOp f .rprobe needR with size := 0 } (hc.newReq (.rprobe f) 7 0 (hc.rd f.s2) 0 .none .none) []) ∧
    (let f := fi 0 0 (0xFFFF + 1 * 2 ^ 16)
     let p := fun cls => as .c (with0 (fun c => { c with reqs := [hc.newReq (.lds { fm 5 1 0 0 3 with cls }) 7 0 0 0 .none .none] }) hc)
     (∀ s ∈ [hc, p 2], s.str ≠ .x ∧ s.guardHolds f.g = true ∧ pruneFences s.cur.reqs = s.cur.reqs) ∧
     (∀ cls ∈ [(2 : BitVec 4), 3], (p cls).cur.reqs.map (fun q => (eventOf q.instr).map (·.cls)) = [some cls.toNat])) :=
  ⟨⟨tidy_of (by decide +kernel), coherent_of (by decide +kernel), by decide +kernel, plain_of (by decide +kernel), keeps_of (by decide +kernel), by decide +kernel, by decide,
    answer_eq (by decide +kernel), answer_eq (by decide +kernel), unhindered_of (by decide +kernel), unhindered_of (by decide +kernel)⟩,
   ⟨plain_of (by decide +kernel), by decide +kernel, by decide, answer_eq (by decide +kernel), unhindered_of (by decide +kernel)⟩,
   ⟨by decide +kernel, keeps_of (by decide +kernel), answer_eq (by decide +kernel), unhindered_of (by decide +kernel)⟩, by decide +kernel⟩

theorem test_fence_waits :
    next (exec (.fence (fi 0 0 (4 + 0 * 2 ^ 16))) (with0 (fun c => { c with reqs := [hc.newReq (.lds { fm 5 1 0 0 3 with cls := 2 }) 7 0 0 0 .none .none] }) hc))
      (fun t => t.cur.reqs.length = 2 && t.cur.sc.pc = 16) = true := by decide +kernel
theorem test_fence_of_nothing : next (exec (.fence (fi 0 0 0xFFFF)) hc) (fun t => t.cur.reqs = [] && t.cur.sc.pc = 16) = true := by decide +kernel

theorem test_discard : next (exec (.discard (fm 0 1 1 0 0)) (rx 1 0 (mem0 hc))) (fun t => t.mem = []) = true := by decide +kernel
theorem test_rprobe_holes :
    next (exec (.rprobe (fm 3 1 0 0 0)) (with1 (fun x => { x with cabinet := [(1, entryOf { page 0 with hole := true, bits := 16 })] }) hc))
      (fun t => t.cur.scalar .c 3 = 1) = true := by decide +kernel

/-- A second core that holds line 0. -/
def shared (st : LineState) (s : State) : State :=
  s.setCore 1 { Core.reset with lines := [(0, ⟨st, s.memLine 0, 0, 0, 0⟩)] }

theorem witness_CoherenceRequests :
    (let s := shared .e (mem0 hc)
     tidy s ∧ coherent s ∧ isMapped (0 * 128) = true ∧ (s.coreAt 0).hasCache = true ∧ s.watched 0 = false ∧
     s.lineState 0 0 = none ∧ s.lineState 1 0 = some .e) ∧
    (let s := shared .s (held 0 .o (mem0 hc))
     coherent s ∧ s.lineState 0 0 = some .o ∧ s.lineState 1 0 = some .s) ∧
    (let s := held 0 .m (mem0 hc)
     coherent s ∧ s.lineState 0 0 = some .m) :=
  ⟨⟨tidy_of (by decide +kernel), coherent_of (by decide +kernel), by decide, by decide +kernel, by decide +kernel, by decide +kernel, by decide +kernel⟩,
    ⟨coherent_of (by decide +kernel), by decide +kernel, by decide +kernel⟩, coherent_of (by decide +kernel), by decide +kernel⟩

theorem test_rds_shares : next (exec (.rds 0 0) (shared .e (mem0 hc))) (fun t => t.lineState 0 0 = some .s && t.lineState 1 0 = some .s) = true := by
  decide +kernel
theorem test_upg_takes_all : next (exec (.upg 0 0) (shared .s (held 0 .o (mem0 hc)))) (fun t => t.lineState 0 0 = some .m && t.lineState 1 0 = none) = true := by
  decide +kernel

/-! ### Witnesses: waiting -/

/-- x3 holds the value of the word at 0x40. -/
def waiting : State := rx 3 0x8877665544332211 (mem0 hc)

theorem witness_Waits :
    let s := waiting
    let f := fm 3 1 1 0 3
    s.str = .c ∧ s.guardHolds f.g = true ∧ maySuspend s ∧
    s.checkToken s.cur.ctx (s.cur.tok f.s1.toNat) (fmOffset f (s.rd f.s2) 8) 8 needR = .ok (entryOf (page 0)) ∧
    (entryOf (page 0)).elemSegs 0 (fmOffset f (s.rd f.s2) 8) 8 = [word40 0] ∧
    ((entryOf (page 0)).vbase.toNat + fmOffset f (s.rd f.s2) 8) % 8 = 0 ∧ plainPart s (word40 0) ∧ s.homePoison (lineNo 0x40) = 0 ∧ keepsEntries s.cur s.cur.ctx (tokIndex (s.cur.tok f.s1.toNat)) ∧
    s.recAt s.cur.recDie s.cur.recSlot = some rec0 ∧ (s.homes.waiters.filter fun q => homeAgent q.addr = homeAgent 0x40).length < 16384 ∧
    BitVec.ofNat 64 (lineBytes (s.homeLine 0) 0x40 8) = s.rd f.d ∧ s.rd f.d ≠ (rx 3 0 s).rd f.d :=
  ⟨by decide, by decide +kernel, suspend_of (by decide +kernel), answer_eq (by decide +kernel), by decide +kernel, by decide +kernel,
    plain_of (by decide +kernel), by decide +kernel, keeps_of (by decide +kernel), by decide +kernel, by decide +kernel, by decide +kernel, by decide +kernel⟩

theorem test_sigwait_holds : next (exec (.sigwait (fm 3 1 1 0 3)) waiting) (fun t => t.cur.scalar .c 3 = 0x8877665544332211 && t.cur.sc.pc = 16) = true := by
  decide +kernel
theorem test_await_parks :
    next (exec (.await (fm 3 1 1 0 3)) waiting) (fun t => (t.recAt 0 0).map (fun r => (r.state, r.pc, r.args)) =
      some (.waiting, 16, [0x40, 0x0102030405060708, 0x8877665544332211, 0]) && (t.coreAt 0).mode = .idle) = true := by decide +kernel

/-- A queue of 4 entries at 0x100 of the extent: head 1, tail `t`; x1 names it. -/
def queue (t : Nat) : State :=
  { rx 1 0x100 hc with mem := Memory.writeNat (Memory.writeNat (Memory.writeNat [] 0x100 8 1) 0x108 8 t) 0x110 1 2 }

theorem witness_Feeds :
    let f := fm 3 1 1 0 0
    let e := entryOf (page 0)
    ∀ t ∈ [1, 4], let s := queue t
    let u := (s.noteToken s.core s.cur.ctx (tokIndex (s.cur.tok f.s1.toNat))).evictParts s.core (e.elemSegs 0 0x100 64)
    s.str = .c ∧ s.guardHolds f.g = true ∧ u.entNat e (0x100 + 16) 1 % 32 = 2 ∧ u.entNat e 0x100 8 = 1 ∧ u.entNat e (0x100 + 8) 8 = t ∧
    s.cur.feedAsked = false ∧ s.cur.inside = none ∧ (e.elemSegs 0 0x100 16).map s.movedPart = [false] ∧
    answer (s.checkToken s.cur.ctx (s.cur.tok 1) 0x100 64 (needR ||| needW)) = some e ∧
    answer (s.checkToken s.cur.ctx (s.cur.tok 1) 0x100 (64 + 64 * 2 ^ 2) (needR ||| needW)) = some e ∧ s.entUnmapped e 0x100 64 = none ∧
    (e.elemSegs 0 (0x100 + 16) 1).map (fun g => s.isRemote g.frame) = [false] ∧ (e.elemSegs 0 0x100 16).map (fun g => s.isRemote g.frame) = [false] := by
  decide +kernel

theorem test_feed_claims : next (exec (.feed (fm 3 1 1 0 0)) (queue 4)) (fun t => t.cur.scalar .c 3 = 0x180 && Memory.readNat t.mem 0x100 8 = 2) = true := by
  decide +kernel
theorem test_feed_polls : next (exec (.feed (fm 3 1 1 0 0 1)) (queue 1)) (fun t => t.cur.scalar .c 3 = -1) = true := by decide +kernel

theorem witness_BarriersAndPhases :
    let s := with0 (fun c => { c with heardBars := [((⟨0, 1, 0⟩, 1), 1)] }) hc
    s.str ≠ .x ∧ s.guardHolds gA = true ∧ s.formGroup (fi 3 0 0) = some (⟨0, 1, 0⟩, ⟨3, 1⟩) ∧ s.cur.arrived = none ∧ s.cur.loads .c = 0 ∧
    s.cur.stores .c = 0 ∧ s.cur.loads .a = 0 ∧ s.cur.stores .a = 0 ∧ 
    (∀ m ∈ (⟨3, 1⟩ : Group).list, m ≠ s.core → atLeast (countOf s.cur.heardBars (⟨0, 1, 0⟩, m)) (countOf s.cur.bars ⟨0, 1, 0⟩ + 1) = true) ∧
    (∃ m ∈ (⟨3, 1⟩ : Group).list, m ≠ hc.core ∧ atLeast (countOf hc.cur.heardBars (⟨0, 1, 0⟩, m)) (countOf hc.cur.bars ⟨0, 1, 0⟩ + 1) = false) ∧
    (∀ m ∈ (⟨3, 1⟩ : Group).neighbours s.core, atLeast (countOf s.cur.heardPhases (⟨0, 1, 0⟩, m) + BitVec.ofNat 32 1) 1 = true) := by decide +kernel

theorem test_gbar_completes :
    next (exec (.gbar (fi 3 0 0)) (with0 (fun c => { c with heardBars := [((⟨0, 1, 0⟩, 1), 1)] }) hc)) (fun t =>
      t.cur.arrived = none && t.cur.scalar .c 3 = 1 && t.cur.sc.pc = 16) = true := by decide +kernel
theorem test_gbar_arrives :
    next (exec (.gbar (fi 3 0 0)) hc) (fun t => t.cur.arrived = some (⟨0, 1, 0⟩, 1) && t.events = [.barrierCountArrival 1 0 ⟨0, 1, 0⟩ 1]) = true := by
  decide +kernel

/-! ### Witnesses: the A stream -/

/-- A stands behind a request of its own, with entries in its store queues. -/
def behind (i : Instr) : State :=
  as .a (with0 (fun c => { c with
    sa := { c.sc with started := true }, a := [(1, 0x40)], sq := [(0, [⟨5, 3, false⟩]), (1, [⟨8, 3, false⟩])],
    reqs := [(as .a hc).newReq i 0 0 0 0 .none .none] }) hc)

theorem witness_RequestsIssue :
    let s := behind (.vld (fm 0 1 1 0 2))
    s.str = .a ∧ (s.cur.firstReq .a).isSome = true ∧ s.guardHolds gA = true ∧ s.cur.counterFull .a .vload = false ∧
    (s.cur.loadQ 0).length < 16 ∧ s.cur.counterFull .a .vstore = false ∧ s.cur.storeQ 0 = [⟨5, 3, false⟩] ∧
    s.cur.storeQ 1 = [⟨8, 3, false⟩] ∧ (0 : BitVec 7).toNat ≠ (1 : BitVec 7).toNat := by decide +kernel

theorem test_vst_takes_entry : next (exec (.vst (fm 1 1 1 0 2)) (behind (.vld (fm 0 1 1 0 2)))) (fun t => t.cur.storeQ 1 = [] && t.cur.sa.pc = 16) = true := by
  decide +kernel

/-- The same, the earlier request stopped. -/
def stopped (i : Instr) : State := with0 (fun c => { c with reqs := c.reqs.map fun r => { r with stop := some ⟨cPoison, 0⟩ } }) (behind i)

theorem witness_RequestsIssue_behind :
    let s := stopped (.vld (fm 0 1 1 0 2))
    s.ready s.core .a = [] ∧ s.cur.counterFull .a .vload = false ∧ (s.cur.loadQ 0).length < 16 ∧
    (s.cur.reqs.any fun q => s.standsBefore s.core q (s.newReq (.vld (fm 0 1 1 0 2)) 0 0 (s.rd 1) 0 .none .none)) = true := by decide +kernel

theorem test_vld_stands_behind : next (exec (.vld (fm 0 1 1 0 2)) (stopped (.vld (fm 0 1 1 0 2)))) (fun t => t.cur.reqs.length = 2 && (t.cur.loadQ 0).length = 1) = true := by
  decide +kernel

/-- The first request of A, a `vld` or `vst` of words from 0x40 on. -/
def first (i : Instr) (d : SqEntry) : State :=
  let s := as .a (mem0 hc)
  with0 (fun c => { c with reqs := [s.newReq i 0 0 0x40 0 d .none], lq := [(0, [⟨false, 0, 0, 0, false⟩])] }) s

/-- The oldest request of the core. -/
def oldest (s : State) : Req := s.cur.reqs.head?.getD (s.newReq (.vld (fm 0 0 0 0 0)) 0 0 0 0 .none .none)

/-- The `count` elements that the oldest request moves pass their checks with entry `e`, and lie in ordinary HC memory. -/
def movesB (s : State) (need : BitVec 4) (e : CabEntry) (count : Nat) : Bool :=
  let r := oldest s
  match vectorElems r with
  | none => false
  | some (size, en, o) =>
    let js := (List.range (256 / size)).filter en
    js.length == count && js.all (fun j => answer (s.checkOn 0 (s.coreAt 0).ctx r.tok (o j) size need) == some e) &&
      (js.flatMap fun j => e.elemSegs j (o j) size).all fun g =>
        plainB s g && decide (g.frame.cls = 0) && decide (s.homePoison (lineNo g.addr) = 0)

theorem moves_of {s : State} {need : BitVec 4} {e : CabEntry} {count : Nat} (h : movesB s need e count = true) :
    ∃ size en o, vectorElems (oldest s) = some (size, en, o) ∧
      (∀ j ∈ (List.range (256 / size)).filter en, s.checkOn 0 (s.coreAt 0).ctx (oldest s).tok (o j) size need = .ok e) ∧
      ∀ g ∈ ((List.range (256 / size)).filter en).flatMap fun j => e.elemSegs j (o j) size,
        plainPart s g ∧ g.frame.cls = 0 ∧ s.homePoison (lineNo g.addr) = 0 := by
  unfold movesB at h
  simp only at h
  split at h
  · cases h
  · rename_i size en o hv
    simp only [Bool.and_eq_true, List.all_eq_true, beq_iff_eq, decide_eq_true_eq] at h
    exact ⟨size, en, o, hv, fun j hj => answer_eq (h.1.2 j hj), fun g hg => ⟨plain_of (h.2 g hg).1.1, (h.2 g hg).1.2, (h.2 g hg).2⟩⟩

/-- The first request of A is the strided or indexed form with stride 8 and the index 1 in its one enabled lane. -/
def firstX (i : Instr) : State :=
  with0 (fun c => { c with reqs := c.reqs.map fun r => { r with xval := 8, index := ⟨1, 1, false⟩ } }) (first i ⟨0x1234, 1, false⟩)

theorem witness_RequestsPerform :
    (∀ s ∈ [first (.vld (fm 0 1 1 0 2)) .none, first (.vst (fm 0 1 1 0 2)) ⟨0x1234, 0xFFFFFFFFFFFFFFFF, false⟩, first (.ldb (fm 0 1 1 0 2)) .none,
        firstX (.vlds (fx 0 1 1 2 0 2)), firstX (.vldx (fx 0 1 1 1 0 2)), firstX (.vstx (fx 0 1 1 1 0 2)), first (.vld (fm 0 3 1 0 2)) .none],
      let r := oldest s
      (s.coreAt 0).reqs = r :: (s.coreAt 0).reqs.tail ∧ r.str = .a ∧ r.stop = none ∧ r.await = [] ∧ r.checked = false ∧
      (∀ q ∈ (s.coreAt 0).reqs.tail, q.num ≠ r.num) ∧ r.got = [] ∧ r.data.poison = false ∧ r.index.poison = false ∧ r.sent = false ∧
      r.slot < ((s.coreAt 0).loadQ 0).length) ∧
    (let s := first (.vld (fm 0 1 1 0 2)) .none
     tidy s ∧ coherent s ∧ memOpOf (oldest s).instr = some (fmMemOp (fm 0 1 1 0 2) .vload needR) ∧ movesB s needR (entryOf (page 0)) 64 = true) ∧
    movesB (firstX (.vlds (fx 0 1 1 2 0 2))) needR (entryOf (page 0)) 64 = true ∧
    movesB (firstX (.vldx (fx 0 1 1 1 0 2))) needR (entryOf (page 0)) 1 = true ∧
    (let s := first (.vst (fm 0 1 1 0 2)) ⟨0x1234, 0xFFFFFFFFFFFFFFFF, false⟩
     movesB s needW (entryOf (page 0)) 64 = true ∧ (memOpOf (oldest s).instr).map (·.kind) = some .vstore) ∧
    movesB (firstX (.vstx (fx 0 1 1 1 0 2))) needW (entryOf (page 0)) 1 = true ∧
    (let s := first (.ldb (fm 0 1 1 0 2)) .none
     s.checkOn 0 (s.coreAt 0).ctx (oldest s).tok (memOffset (oldest s).base (fm 0 1 1 0 2).off.toInt 4) 4 needR = .ok (entryOf (page 0)) ∧
     (entryOf (page 0)).elemSegs 0 (memOffset (oldest s).base (fm 0 1 1 0 2).off.toInt 4) 4 = [⟨0, 0, 4, page 0, 0x40⟩] ∧
     plainPart s ⟨0, 0, 4, page 0, 0x40⟩) ∧
    (let f := fm 0 3 1 0 2
     let s := first (.vld f) .none
     s.checkReq 0 (fmMemOp f .vload needR) (oldest s) = .error ⟨cStale, 0⟩ ∧ deliverable s 0 .a cStale ∧
     (let t := with0 (fun c => { c with cont := { c.cont with th := true } }) s
      t.checkReq 0 (fmMemOp f .vload needR) (oldest t) = .error ⟨cStale, 0⟩ ∧ (t.coreAt 0).cont.th = true ∧ (t.coreAt 0).saving = none ∧
        (t.coreAt 0).inside = none ∧ (t.coreAt 0).mode = .running ∧ (t.coreAt 0).pendA = none)) :=
  ⟨by decide +kernel, ⟨tidy_of (by decide +kernel), coherent_of (by decide +kernel), by decide +kernel, by decide +kernel⟩, by decide +kernel,
    by decide +kernel, by decide +kernel, by decide +kernel,
    ⟨answer_eq (by decide +kernel), by decide +kernel, plain_of (by decide +kernel)⟩,
    refusal_eq (by decide +kernel),
    ⟨by decide +kernel, by decide +kernel, by decide +kernel, by decide +kernel, fun t => by cases t <;> rfl, by decide +kernel, by decide +kernel, by decide +kernel⟩,
    refusal_eq (by decide +kernel), by decide +kernel⟩

theorem test_vldx_gathers :
    next (exec (.requestPerform 0 .a) (firstX (.vldx (fx 0 1 1 1 0 2)))) (fun t => t.cur.reqs = [] &&
      (t.cur.loadQ 0).map (fun e => (e.filled, elem 64 e.data 0)) = [(true, 0x88776655)]) = true := by decide +kernel
theorem test_ldb_copies :
    next (exec (.requestPerform 0 .a) (first (.ldb (fm 0 1 1 0 2)) .none)) (fun t =>
      (t.cur.loadQ 0).map (fun e => (elem 32 e.data 0, elem 32 e.data 63)) = [(0x44332211, 0x44332211)]) = true := by decide +kernel
theorem test_stopped_load_traps :
    next (exec (.requestPerform 0 .a) (first (.vld (fm 0 3 1 0 2)) .none)) (fun t => t.cur.cont.cause = causeWord 1 .a 0 cStale &&
      t.cur.reqs.map (fun r => r.stop.isSome) = [true] && (t.cur.loadQ 0).map (·.filled) = [false]) = true := by decide +kernel

theorem test_vld_fills :
    next (exec (.requestPerform 0 .a) (first (.vld (fm 0 1 1 0 2)) .none)) (fun t => t.cur.reqs = [] &&
      (t.cur.loadQ 0).map (fun e => (e.filled, elem 64 e.data 0)) = [(true, 0x8877665544332211)]) = true := by decide +kernel
theorem test_vst_enabled_lanes :
    next (exec (.requestPerform 0 .a) (first (.vst (fm 0 1 1 0 2)) ⟨0x1111222233334444, 2, false⟩)) (fun t =>
      lineBytes (t.homeLine 0) 0x40 8 = 0x1111222255443322 / 2 ^ 32 * 2 ^ 32 + 0x44332211) = true := by decide +kernel

/-- A, with a full data entry in both store queues and buffers of one bank each. -/
def local_ : State :=
  as .a (with0 (fun c => { c with sq := [(0, [⟨0x55, 1, false⟩]), (1, [⟨0x66, 1, false⟩])], a := [(1, 0)] }) hc)

theorem witness_LocalVectors :
    let s := local_
    let c := s.cur
    let f := fm 0 1 1 0 0
    s.str = .a ∧ s.guardHolds gA = true ∧ mayReadBuf .a 1 = true ∧ c.inBuf 1 (fmOffset f (s.rd f.s2) 256) 256 = true ∧
    c.bufPoison 1 (fmOffset f (s.rd f.s2) 256) 256 = false ∧ (∀ q, q < 4 → (c.loadQ q).length < 16) ∧
    c.inBuf 1 (fmOffset f (s.rd f.s2) 1024) 1024 = true ∧ mayWriteBuf .a 1 = true ∧ c.storeQ 0 = [⟨0x55, 1, false⟩] ∧
    c.inBuf 1 (fmOffset f (s.rd f.s2) 512) 512 = true ∧ c.storeQ 1 = [⟨0x66, 1, false⟩] ∧
    (∀ i ∈ [Instr.lld f, .vlld f, .lst f, .vlst f], s.localReady i = true ∧
      (with0 (fun c => { c with reqs := [{ s.newReq (.vld (fm 0 1 1 0 2)) 0 0 0 0 .none .none with stop := some ⟨cPoison, 0⟩ }] }) s).localReady i = false) := by
  decide +kernel

theorem test_lst_enabled_lanes : next (exec (.lst (fm 0 1 1 0 0)) local_) (fun t => t.cur.bufNat 1 0 4 = 0x55 && t.cur.storeQ 0 = []) = true := by
  decide +kernel
theorem test_lqput_every_element :
    next (exec (.lqput (f3 2 1 0 9)) (with0 (fun c => { c with a := [(1, 0x12345)] }) local_)) (fun t =>
      (t.cur.loadQ 2).map (fun e => elem 64 e.data 31) = [0x2345234523452345]) = true := by decide +kernel

/-! ### Witnesses: tokens -/

theorem witness_TokenFields : (4095 : Nat) < 4096 ∧ (0xFFFFFF : Nat) < 2 ^ 24 ∧ (entryOf (page 0)).gen < 2 ^ 24 := by decide

/-- The token of the worked example of R164. -/
theorem test_token_word : mkToken 7 0x42 8 = 0x0070000428000000 := by decide
theorem test_entry_word : ({ entryOf (page 0) with gen := 0x42, rights := 8, holes := true }).ctl = 0x4000000428000002 := by decide +kernel
theorem test_token_order :
    refusal (hc.checkToken 1 (tokOf 1) 0xFFFF8 16 needR) = some cBounds ∧ refusal (hc.checkToken 1 (mkToken 1 2 0xF) 0 8 needR) = some cStale ∧
    refusal (hc.checkToken 1 (mkToken 1 1 4) 0xFFFF8 16 needR) = some cRights := by decide +kernel

theorem witness_TokenReads :
    hc.str ≠ .x ∧ hc.guardHolds gA = true ∧ (let s := rx 1 (2 ^ 57) hc; 2 ^ 57 ≤ (s.rd 1).toNat) ∧
    (let s := rx 1 (2 ^ 57 - 1) (rx 2 2 hc); (s.rd 1).toNat < 2 ^ 57 ∧ 2 ^ 57 < (s.rd 1).toNat + (s.rd 2).toNat) ∧
    (let s := rx 1 (2 ^ 57 - 2) (rx 2 2 hc); (s.rd 2).toNat ≠ 0 ∧ (s.rd 2).toNat ≤ 2 ^ 40 ∧ (s.rd 1).toNat + (s.rd 2).toNat ≤ 2 ^ 57) := by decide +kernel

/-- A translation of 64 KiB from 0: the TLB of the die holds the page. -/
def translating (i : Nat) : State :=
  let s := rx 2 0x10000 hc
  let s := s.modDie 0 fun d => { d with tlb := [⟨1, page 0, 0xF, true, 0⟩] }
  with1 (fun x => { x with ptbase := 0x8000000000000000, cabinet := ((List.range i).map fun k => (k, entryOf (page 0))) }) s

theorem witness_Translations :
    ∀ i ∈ [0, 2], let s := translating i
    let u := match exec (.xlat (f3 9 1 2 4 0xC)) s with | .next u => u | _ => s
    let p := u.walkPages (dieOf s.core) 1 0xC 0x10000 (0x10000 / 65536 + 2) 0 []
    s.str = .c ∧ s.guardHolds gA = true ∧ (s.rd 1).toNat < 2 ^ 57 ∧ s.rd 2 ≠ 0 ∧ (s.rd 2).toNat ≤ 2 ^ 40 ∧ (s.cab 1 i).state = .free ∧
    (s.cab 1 i).gen < 2 ^ 24 - 1 ∧ (∀ j, j < i → (s.cab 1 j).state ≠ .free) ∧ (s.cab 1 i).later = [] ∧ s.cur.frozen = [] ∧
    (answer p.1).map (fun l => l.all fun fr => !fr.hole && !s.isRemote fr) = some true ∧
    (answer p.1).map (fun l => decide ((p.2.ctxAt 1).frameUsed + frameUnits 0 0x10000 l ≤ (p.2.ctxAt 1).frameUnits)) = some true := by decide +kernel

theorem test_translation_completes :
    next (exec (.xlat (f3 9 1 2 4 0xC)) (translating 2)) (fun u => next (exec (.translationComplete 0) u) fun w =>
      w.cur.tok 4 = mkToken 2 1 0xC && w.cur.scalar .c 9 = 0 && w.cur.sc.pc = 16) = true := by decide +kernel
theorem test_translation_no_map :
    next (exec (.xlat (f3 9 1 2 4 0xC)) (with1 (fun x => { x with ptbase := 0 }) (translating 2))) (fun u =>
      next (exec (.translationComplete 0) u) fun w => w.cur.scalar .c 9 = 4) = true := by decide +kernel

theorem witness_Drains :
    let s := hc
    let f := f3 9 0 0 1
    let i := tokIndex (s.cur.tok 1)
    (s.str = .c ∧ s.guardHolds f.g = true ∧ s.cur.cwait = .none ∧ (s.cab 1 i).state = .live ∧ (s.cab 1 i).gen = tokGen (s.cur.tok 1) ∧
      (s.cab 1 i).gen < 2 ^ 24 - 1 ∧ (s.cab 1 i).later = [] ∧ s.cur.frozen = [] ∧ (s.cab 1 i).inflight = 0 ∧ SMap.sorted s.cores = true ∧
      (∀ p ∈ s.cores, (p.2.cachedEntry 1 i).isSome = false) ∧ s.entryLeaving (s.cab 1 i) = false) ∧
    ∀ n, n ≠ s.core → ∀ w ∈ (s.coreAt n).waits, (match w with | .drain _ _ _ _ => False | _ => True) := by
  refine ⟨by decide +kernel, fun n hn => ?_⟩
  have h : hc.coreAt n = Core.reset := if_neg (Ne.symm hn)
  rw [h]
  intro w hw
  simp [Core.waits, Core.reset] at hw
  subst hw; trivial

theorem test_tdrop :
    next (exec (.tdrop (f3 9 0 0 1)) hc) (fun u => (u.cab 1 1).state = .draining && next (exec (.drainComplete 1 1) u) fun w =>
      (w.cab 1 1).state = .free && (w.cab 1 1).gen = 2 && w.cur.sc.pc = 16) = true := by decide +kernel

theorem witness_SupervisorTokens :
    (let s := rx 1 (1 * 2 ^ 52 + 1) hc
     let a := s.rd 1
     s.str = .c ∧ s.curCtx.sup = true ∧ s.guardHolds gA = true ∧ a.extractLsb' 10 42 = 0 ∧ (s.ctxAt (a.toNat % 1024)).live = true ∧
     s.checkToken s.cur.ctx (s.cur.tok 1) (s.rd 0).toNat 8 needA = .ok (entryOf (page 0)) ∧ (s.rd 0).toNat % 8 = 0 ∧
     (s.cab 1 1).state = .live ∧ (s.cab 1 1).gen < 2 ^ 24 - 1) ∧
    (let s := { rx 1 (8 * 2 ^ 24 + 2) hc with ctxs := [(1, ctx1 (page 0)), (2, { ctx1 (page 0) with cabinet := [] })] }
     let a := s.rd 1
     a.extractLsb' 28 36 = 0 ∧ a.extractLsb' 10 14 = 0 ∧ (s.ctxAt (a.toNat % 1024)).live = true ∧
     s.checkToken s.cur.ctx (s.cur.tok 1) 0 0 0 = .ok (entryOf (page 0)) ∧ a.extractLsb' 24 4 ≠ 0 ∧
     a.extractLsb' 24 4 &&& ~~~(entryOf (page 0)).rights = 0 ∧ (s.cab 2 0).state = .free ∧ (s.cab 2 0).gen < 2 ^ 24 - 1 ∧
     (s.ctxAt 2).frameUsed + (entryOf (page 0)).units ≤ (s.ctxAt 2).frameUnits) ∧
    ((rx 1 1023 hc).rd 1).toNat < 1024 :=
  ⟨⟨by decide, by decide +kernel, by decide +kernel, by decide +kernel, by decide +kernel, answer_eq (by decide +kernel), by decide +kernel,
      by decide +kernel, by decide +kernel⟩,
    ⟨by decide +kernel, by decide +kernel, by decide +kernel, answer_eq (by decide +kernel), by decide +kernel, by decide +kernel, by decide +kernel,
      by decide +kernel, by decide +kernel⟩, by decide +kernel⟩

theorem test_grant :
    next (exec (.grant (f3 3 1 1)) { rx 1 (8 * 2 ^ 24 + 2) hc with ctxs := [(1, ctx1 (page 0)), (2, { ctx1 (page 0) with cabinet := [] })] })
      (fun t => t.cur.scalar .c 3 = mkToken 0 1 8 && (t.cab 2 0).rights = 8) = true := by decide +kernel

/-- A page request whose block stands at 0 of SPAD. -/
def paging (n : Nat) : State :=
  { with0 (fun c => c.bufWrite 1 0 (bytesOf 8 (tokOf 1).toNat ++ bytesOf 8 0 ++ bytesOf 8 0x1000 ++ bytesOf 8 0)) hc with
    mem := Memory.writeNat [] 0x10008 8 n }

theorem witness_PageRequests :
    ∀ n ∈ [0, 256], let s := paging n
    let c := s.cur
    let f := fm 0 1 0 0 0
    s.str ≠ .x ∧ s.guardHolds gA = true ∧ (s.rd f.d).toNat % 32 = 0 ∧ c.inBuf 1 0 32 = true ∧ natAt (c.bufBytes 1 0 32) 24 8 = 0 ∧
    answer (s.checkToken c.ctx (c.tok 1) 0 8 needA) = some (entryOf (page 0)) ∧
    answer (s.checkToken c.ctx (BitVec.ofNat 64 (natAt (c.bufBytes 1 0 32) 0 8)) 0 0x1000 needR) = some (entryOf (page 0)) ∧
    isMapped s.curCtx.preq = true ∧ c.bufPoison 1 0 32 = false ∧ (s.physNat (s.curCtx.preq + 8) 8 + 2 ^ 64 - s.physNat s.curCtx.preq 8) % 2 ^ 64 = n := by decide +kernel

theorem test_reqpg : next (exec (.reqpg (fm 0 1 0 0 0)) (paging 255)) (fun t => t.physNat 0x10008 8 = 256 &&
    t.physNat (0x10040 + 64 * 255 + 16) 8 = 0x1000 && t.physNat (0x10040 + 64 * 255 + 48) 8 = 1) = true := by decide +kernel

/-! ### Witnesses: bundles -/

/-- An OPEN bundle of two parties in record 5, one of which has joined. -/
def ward5 : Wardrobe := ⟨1, 0, 2, 1, 0, 0, false, 0, [], [], none, 0, false, []⟩
/-- The record's state `st`, with `k` sealed; C is bound to it under class 5. x6 holds its name with a length of 2 lines. -/
def bundle (st k : Nat) (bound : Bool) : State :=
  let s := on { page 0 with bundle := true }
  let s := with0 (fun c => { (c.setScalar .c 6 (2 * 2 ^ 32 + 5)) with binds := if bound then [(5, 5)] else [] }) s
  { s with homes := { s.homes with wardrobe := [(5, { ward5 with state := st, sealedN := k })] } }

theorem witness_BundleForms :
    (let s := bundle 1 0 false
     s.str = .c ∧ s.guardHolds gA = true ∧ s.rd 0 = BitVec.ofNat 64 s.ownPeer ∧ s.ownPeer < 4096 ∧ s.homes.freeRecord = some 0 ∧
     1 ≤ (fi 1 0 64).imm.toNat % 256 ∧ (fi 1 0 64).imm.toNat % 256 ≤ 64) ∧
    (let s := bundle 1 0 false
     let f : FM := ⟨gA, 6, 1, 0, 0, 5, 0, 0, false, 0⟩
     badName (s.rd f.d) = false ∧ (s.rd f.d).toNat / 2 ^ 32 % 2 ^ 21 = 2 ∧
     s.checkToken s.cur.ctx (s.cur.tok 1) (fmOffset f (s.rd f.s2) 128) (128 * 2) needW = .ok (entryOf { page 0 with bundle := true }) ∧
     (∀ g ∈ (entryOf { page 0 with bundle := true }).frames, g.bundle = true) ∧ s.cur.bound f.cls.toNat = none ∧
     keepsEntries s.cur s.cur.ctx (tokIndex (s.cur.tok f.s1.toNat)) ∧
     namePeer 5 = s.ownPeer ∧ s.ward (nameIndex 5) = some ward5 ∧ ward5.domain = s.curCtx.bundleDomain ∧ ward5.joined < ward5.parties) ∧
    (let s := bundle 1 1 true
     s.cur.bound 5 = some 5 ∧ s.ward (nameIndex 5) = some { ward5 with sealedN := 1 } ∧ s.cur.sa.idle = true ∧ s.cur.stores .a = 0 ∧
     s.cur.jobsInClass 5 = false ∧ s.cur.lastBound 5 5 = true ∧ 1 + 1 = ward5.parties ∧ s.homes.sequencer.getD s.ownPeer = s.ownPeer) :=
  ⟨by decide +kernel, ⟨by decide +kernel, by decide +kernel, answer_eq (by decide +kernel), by decide +kernel, by decide +kernel, keeps_of (by decide +kernel),
    by decide +kernel, by decide +kernel, by decide +kernel, by decide⟩, by decide +kernel⟩

/-- The chip is one of a group of two. -/
def paired (s : State) : State := { s with fab := { s.fab with members := [0, 1] } }

theorem witness_BundleForms_more :
    ward5.companions.length < 64 ∧ ward5.joiners.contains (hc.ownPeer, hc.continuation hc.core) = false ∧ ward5.conflict = false ∧ ward5.ending = false ∧
    tidy (bundle 1 1 true) ∧ (bundle 1 1 true).others = [] ∧ (paired (bundle 1 1 true)).others ≠ [] ∧
    (paired (bundle 1 1 true)).cur.bound 5 = some 5 ∧ namePeer 5 = (paired (bundle 1 1 true)).ownPeer :=
  ⟨by decide, by decide +kernel, by decide, by decide, tidy_of (by decide +kernel), by decide +kernel, by decide +kernel, by decide +kernel, by decide +kernel⟩

theorem test_babort_waits :
    next (exec (.babort (fi 12 0 5)) (paired (bundle 1 1 true))) (fun t => t.cur.sc.pc = 8 && (t.ward 5).map (fun r => (r.state, r.acks)) = some (4, 1)) = true := by
  decide +kernel
theorem test_bseal_commits :
    next (exec (.bseal (fi 12 0 5)) (bundle 1 1 true)) (fun t => t.cur.scalar .c 12 = 0x4000000000000001 && (t.ward 5).map (·.state) = some 3) = true := by
  decide +kernel
theorem test_bjoin :
    next (exec (.bjoin ⟨gA, 6, 1, 0, 0, 5, 0, 0, false, 0⟩) (bundle 1 0 false)) (fun t => t.cur.bound 5 = some 5 && (t.ward 5).map (·.joined) = some 2) = true := by
  decide +kernel

theorem witness_BundleViews :
    let s := rx 1 4 (rx 2 5 { hc with homes := { hc.homes with complete := 4 } })
    s.str = .c ∧ s.guardHolds gA = true ∧ (s.rd 1).toNat < 2 ^ 48 ∧ (s.rd 1).toNat ≤ s.homes.complete ∧ s.homes.complete < (s.rd 2).toNat ∧
    badName ((bundle 3 2 false).rd 6) = false ∧ namePeer ((bundle 3 2 false).rd 6).toNat = 0 := by decide +kernel

theorem test_bview_set : next (exec (.bviewSet (fi 5 1 1)) (rx 1 4 { hc with homes := { hc.homes with complete := 4 } }))
    (fun t => t.cur.cont.bview = 0x8000000000000004 && t.cur.scalar .c 5 = 4) = true := by decide +kernel

theorem witness_BundleEvents :
    let p := { hc.packet 6 0 4 with op := 10, body := [2, 0] }
    (1 : Nat) = hc.homes.complete + 1 ∧ hc.homes.sequencer.getD hc.ownPeer = hc.ownPeer ∧ (0xF0000 : BitVec 32).toNat = hc.singleName ∧
    p.op = 10 ∧ hc.homes.freeRecord = some 0 ∧ (bundle 3 2 false).ward 5 = some { ward5 with state := 3, sealedN := 2 } := by decide +kernel

/-- The same record, SEALING; C's `bseal` of class 5 waits for its stamp and gives it to x12. -/
def sealing : State :=
  let s := with0 (fun c => { c with cwait := .bundle 12 5 5 2 }) (bundle 2 2 true)
  { s with homes := { s.homes with wardrobe := [(5, { ward5 with state := 2, sealedN := 2, sealer := some (0, 0) })] } }

theorem witness_StampReceived :
    (let s := { hc with homes := { hc.homes with stamps := [1] } }
     (0 : Nat) ≤ s.homes.complete ∧ ¬ (1 ≤ s.homes.complete ∨ 1 ∈ s.homes.heard) ∧ 1 ∈ s.homes.stamps ∧ ¬ (2 ≤ s.homes.complete ∨ 2 ∈ s.homes.heard) ∧
       2 ∉ s.homes.stamps) ∧
    (5 : BitVec 32).toNat ≠ sealing.singleName ∧ (sealing.ward (nameIndex 5)).map (fun r => (r.state, r.sealer)) = some (2, some (sealing.ownPeer, 0)) ∧
    (sealing.coreAt 0).cwait = .bundle 12 5 5 2 ∧ (sealing.coreAt 0).frozen = [] ∧
    ((bundle 3 2 false).ward (nameIndex 5)).map (fun r => r.state) = some 3 := by decide +kernel

theorem test_stamp_commits :
    next (exec (.stampReceived 5 1) sealing) (fun t => (t.ward 5).map (fun r => (r.state, r.stamp)) = some (3, 1) &&
      t.cur.scalar .c 12 = 0x4000000000000001 && t.cur.bound 5 = none && t.cur.sc.pc = 16) = true := by decide +kernel

theorem witness_RecordFree :
    let r := { ward5 with state := 3, sealedN := 2 }
    r.ending = false ∧ r.acks = 0 ∧ (bundle 3 2 false).others = [] ∧ (paired (bundle 3 2 false)).others ≠ [] ∧
    (paired (bundle 3 2 false)).ward 5 = some r ∧ hc.pendingLines 9 = [] ∧ namePeer 9 = hc.ownPeer ∧ namePeer 0x100009 ≠ hc.ownPeer := by decide +kernel

theorem test_record_freed : next (exec (.recordFree 5) (bundle 3 2 false)) (fun t => t.ward 5 = none) = true := by decide +kernel
theorem test_record_told : next (exec (.recordFree 5) (paired (bundle 3 2 false))) (fun t => (t.ward 5).map (fun r => (r.ending, r.acks)) = some (true, 1)) = true := by
  decide +kernel
theorem test_notice_gap : next (exec (.commitNotice 9 2) hc) (fun t => t.homes.complete = 0 && next (exec (.commitNotice 8 1) t) fun u => u.homes.complete = 2) = true := by
  decide +kernel

/-! ### Witnesses: jobs -/

/-- A card of the quads given. -/
def cardOf (l : List Nat) : Card := BitVec.ofNat 1024 (l.foldr (fun q acc => q + 2 ^ 64 * acc) 0)
/-- The COPY of the worked example, from memory to ABUF. -/
def copyCard : Card :=
  cardOf [0x3000000000000000, (tokOf 1).toNat, 0x80001A0000001000, 0x6C00000400000000, 0, 0, 0, 0x100, 4, 0x400, 0x100, 1]
/-- An MPRD of one pass of one row of f8e4. -/
def mprdCard : Card :=
  cardOf [0x2000000000000000, 0, 0x4C00000100000000, 0x4800008400000000, 0x7000000200000000, 0, 2 ^ 61 + 2 ^ 49 + 3 * 2 ^ 45 + 3 * 2 ^ 20, 0]
/-- A WLD of that weight image. -/
def wldCard : Card := cardOf [0x1000000000000000, 0, 0x4800008400000000, 0, 0, 0, 3 * 2 ^ 60]

theorem test_cards : headerFault copyCard = false ∧ headerFault mprdCard = false ∧ headerFault wldCard = false ∧
    copyTotal copyCard = 0x400 ∧ copyAt copyCard 0x280 = (0x1880, 0x280, 0x80) ∧ mBlocks mprdCard = 1 := by decide +kernel

/-- A job of that card. -/
def jobOf (k : Card) (st : JobState) : Job := { hc.newJob k (tokOf 1) 0x800 0 true with state := st }
/-- Core 0 with that job in slot 0. -/
def working (j : Job) : State :=
  (with0 (fun c => { c with jobs := [(0, j)], jobOrder := 1 }) hc).modDie 0 fun d => { d with shareSize := 4 }
/-- C with a card at 0x80 of SPAD; x4 names it, x5 the signal word. -/
def posting (k : Card) : State := with0 (fun c => ((c.setScalar .c 4 0x80).setScalar .c 5 0x800).bufWriteNat 1 0x80 128 k.toNat) hc

theorem witness_Posts :
    (let s := posting copyCard
     let f : FJ := ⟨gA, 0, 4, 5, 2, 0, 0⟩
     s.str = .c ∧ s.guardHolds f.g = true ∧ (s.rd f.s1).toNat % 128 = 0 ∧ s.cur.inBuf 1 0x80 128 = true ∧ (s.rd f.s2).toNat % 8 = 0 ∧
     s.cur.bufPoison 1 0x80 128 = false ∧ BitVec.ofNat 1024 (s.cur.bufNat 1 0x80 128) = copyCard ∧ headerFault copyCard = false) ∧
    (let s := posting copyCard
     let f : FJ := ⟨gA, 0, 4, 5, 1, 0, 0⟩
     s.checkToken s.cur.ctx (s.cur.tok f.k.toNat) 0x800 8 needA = .ok (entryOf (page 0)) ∧ keepsEntries s.cur s.cur.ctx (tokIndex (s.cur.tok f.k.toNat)) ∧ s.cur.freeSlot = some 0 ∧ countsTile copyCard = false ∧
     s.cur.sc.copies < 32 ∧ countsTile mprdCard = true ∧ s.cur.sc.tile < 32) ∧
    (let s := (posting copyCard).setCore 1 { Core.reset with resident := some 1 }
     let t := (posting copyCard).setCore 1 { Core.reset with resident := some 1, jobs := (List.range 32).map fun i => (i, jobOf copyCard .done) }
     s.curCtx.allows 1 = true ∧ (s.coreAt 1).resident = some s.cur.ctx ∧ maySuspend s ∧ (s.coreAt 1).freeSlot = some 0 ∧
     maySuspend t ∧ (t.coreAt 1).freeSlot = none ∧ t.recAt t.cur.recDie t.cur.recSlot = some rec0) :=
  ⟨by decide +kernel, ⟨answer_eq (by decide +kernel), keeps_of (by decide +kernel), by decide +kernel, by decide +kernel, by decide +kernel, by decide +kernel, by decide +kernel⟩,
    by decide +kernel, by decide +kernel, suspend_of (by decide +kernel), by decide +kernel, suspend_of (by decide +kernel), by decide +kernel,
    by decide +kernel⟩

theorem witness_Posts_more :
    (let s := with0 (fun c => { c with jobs := (List.range 32).map fun i => (i, jobOf copyCard .done) }) (posting copyCard)
     (s.rd 0).toNat = s.core ∧ maySuspend s ∧ (s.coreAt 0).freeSlot = none ∧ s.curCtx.allows 0 = true ∧ (s.coreAt 0).resident = some s.cur.ctx) ∧
    (let s := (posting copyCard).setCore 1 { Core.reset with resident := some 1, testing := some 0 }
     (s.coreAt 1).underTest = true ∧ maySuspend s ∧ s.recAt s.cur.recDie s.cur.recSlot = some rec0) ∧
    ((posting copyCard).setCore 1 { Core.reset with resident := some 1 }).coreAt 1 = { Core.reset with resident := some 1 } ∧
    ({ Core.reset with resident := some 1 } : Core).underTest = false :=
  ⟨⟨by decide +kernel, suspend_of (by decide +kernel), by decide +kernel, by decide +kernel, by decide +kernel⟩,
    ⟨by decide +kernel, suspend_of (by decide +kernel), by decide +kernel⟩, by decide +kernel, by decide +kernel⟩

theorem test_remq_own_full :
    let s := with0 (fun c => { c with jobs := (List.range 32).map fun i => (i, jobOf copyCard .done) }) (posting copyCard)
    next (exec (.remq ⟨gA, 0, 4, 5, 1, 3, 0⟩) s) (fun t => t.cur.mode = .running && t.cur.sc.pc = 8) = true := by decide +kernel

theorem test_jpost : next (exec (.jpost ⟨gA, 0, 4, 5, 1, 3, 0⟩) (posting copyCard)) (fun t =>
    (t.cur.job 0).map (fun j => (j.state, j.cls, j.poster)) = some (.ready, 3, 1) && t.cur.sc.copies = 1 && t.events = [.jobDispatch 0 false]) = true := by
  decide +kernel

theorem witness_JobLife :
    (let j := jobOf copyCard .ready
     let s := working j
     tidy s ∧ (s.coreAt 0).job 0 = some j ∧ ((s.coreAt 0).jobs.filter fun p => p.1 = 0) = [(0, j)] ∧ (s.coreAt 0).parks = false ∧ (s.coreAt 0).testing ≠ some 1 ∧
     (s.coreAt 0).nextJob false = some 0 ∧ s.dispatchCause 0 j = 0 ∧ j.isMatrix = false) ∧
    (let j := jobOf mprdCard .ready
     let s := working j
     (s.coreAt 0).nextJob true = some 0 ∧ s.dispatchCause 0 j = 0 ∧ j.isMatrix = true ∧ s.shareFree 0 j = true ∧ s.shareQueue 0 = []) ∧
    (let j := jobOf (cardOf [0x3000000000000000]) .ready
     let s := working j
     (s.coreAt 0).nextJob false = some 0 ∧ s.dispatchCause 0 j ≠ 0 ∧ j.err = false ∧ j.state ≠ .done) ∧
    (let j := { jobOf mprdCard .ready with waiting := true }
     let s := { working j with time := 65536 }
     s.shareQueue 0 = [(0, 0, j)] ∧ (s.dieAt 0).shareUsed < (s.dieAt 0).shareSize ∧ s.sharesHeld 0 j.die j.launch < s.shareLimit j ∧
     s.dispatchCause 0 j = 0 ∧ j.expired = false ∧ j.since + 65536 ≤ s.time) ∧
    (let j := jobOf copyCard .running
     let s := working j
     let g := s.sigSeg j.ctx j.sigTok j.sigOff.toNat
     j.err = false ∧ g.frame.hole = false ∧ s.isRemote g.frame = false ∧ s.movedPart g = false ∧ g.lineOff + 8 ≤ 128 ∧ j.poster ≠ 0) :=
  ⟨⟨tidy_of (by decide +kernel), by decide +kernel, by decide +kernel, by decide +kernel, by decide +kernel, by decide +kernel, by decide +kernel⟩,
    by decide +kernel, by decide +kernel, by decide +kernel, by decide +kernel⟩

theorem test_job_completes :
    next (exec (.jobCompletion 0 0) (working (jobOf copyCard .running))) (fun t => Memory.readNat t.mem 0x800 8 = 1 && t.events = [.signalUpdateAck 0 0, .jobDispatch 0 true, .jobDispatch 0 false]) = true := by
  decide +kernel

theorem witness_RemqUnblock :
    let r := { rec0 with state := .blocked, wait := .remq 0 (jobOf copyCard .pending) 8 }
    let s := recIs (fun _ => r) hc
    s.recAt 0 0 = some r ∧ (s.coreAt 0).resident = some r.ctx ∧ (s.coreAt 0).freeSlot = some 0 ∧ headerFault copyCard = false ∧
    (s.coreAt 0).underTest = false := by
  decide +kernel

/-- The matrix engine runs job 0, or loads its plane. -/
def matrixOf (k : Card) (running loading : Option Nat) (ready : Bool) : State :=
  with0 (fun c => { c with matrix := { c.matrix with running := running, loading := loading, shadowReady := ready } }) (working (jobOf k .running))

theorem witness_MatrixEngine :
    (let s := matrixOf wldCard none (some 0) false
     let c := s.coreAt 0
     c.job 0 = some (jobOf wldCard .running) ∧ (c.jobs.filter fun p => p.1 = 0) = [(0, jobOf wldCard .running)] ∧ c.matrix.loading = some 0 ∧
     wldFmt wldCard = 3 ∧ c.localPoison = []) ∧
    (let s := matrixOf mprdCard (some 0) none true
     let c := s.coreAt 0
     c.matrix.running = some 0 ∧ c.matrix.shadowReady = true ∧ c.inBuf 4 (passC mprdCard c.matrix.pass) (4 * mRpp mprdCard * colsOf (mWfmt mprdCard)) = true ∧
     mBlocks mprdCard ≤ 0 + 1 ∧ c.parks = false) := by decide +kernel

/-- An MPRD that applies max(x, 0), and folds both checksum words; its accumulators stand at 0x20 of CBUF, the first -1. -/
def retireCard : Card :=
  cardOf [0x2000000000000000, 0, 0x4C00000100000000, 0x4800008400000000, 0x7000000220000000, 0,
    2 ^ 61 + 2 ^ 49 + 3 * 2 ^ 45 + 2 ^ 36 + 3 * 2 ^ 34 + 3 * 2 ^ 20, 0]
def retiring : State := with0 (fun c => c.bufWriteNat 4 0x20 4 0xBF800000) (matrixOf retireCard (some 0) none true)

theorem witness_Retirement :
    let s := retiring
    let c := s.coreAt 0
    c.matrix.running = some 0 ∧ mFold retireCard = 3 ∧ c.inBuf 4 (cardFoot retireCard 2).start 32 = true ∧ mDest retireCard = false ∧
    c.inBuf 4 (passC retireCard 0) (mRpp retireCard * (4 * colsOf (mWfmt retireCard))) = true ∧ 0 < mRpp retireCard ∧
    (cardFoot retireCard 2).start + 32 ≤ passC retireCard 0 ∧ mBlocks retireCard ≤ 0 + 1 ∧
    (let k := cardOf [0x2000000000000000, 0, 0x4C00000100000000, 0x4800008400000000, 0x7000000200000000, 0x6C00000100000000,
       2 ^ 61 + 2 ^ 49 + 3 * 2 ^ 45 + 2 ^ 32 + 3 * 2 ^ 20, 0]
     headerFault k = false ∧ mDest k = true ∧ mCen k = false ∧
       ((matrixOf k (some 0) none true).coreAt 0).inBuf 3 (cardFoot k 3).start (mRpp k * colsOf (mWfmt k) * mOb k) = true) := by decide +kernel

theorem test_retirement :
    next (exec (.retirement 0) retiring) (fun t => (t.coreAt 0).bufNat 4 0x20 4 = 0 && (t.coreAt 0).bufNat 4 0 16 = 0 &&
      (t.coreAt 0).bufNat 4 0x10 4 = 0xBF800000) = true := by decide +kernel

theorem test_plane_swap : next (exec (.planeSwap 0) (matrixOf mprdCard (some 0) none true)) (fun t => !(t.coreAt 0).matrix.shadowReady) = true := by
  decide +kernel

/-- The copy engine runs the COPY; memory at 0x1000 holds 0x0807060504030201. -/
def copying : State := { working (jobOf copyCard .running) with mem := Memory.writeNat [] 0x1000 8 0x0807060504030201 }
/-- Its first line has been issued. -/
def copied : State :=
  with0 (fun c => { c with piece := some ⟨0, 0, 128, 0, 1, [⟨0, 0, 128, page 0, 0x1000⟩], [], [], false, [], []⟩ }) copying

theorem witness_CopyEngine :
    (let s := copying
     let c := s.coreAt 0
     let len := unitLen copyCard (s.tokenEntry 0 1 (tokIndex (cardTok copyCard))) 0
     c.copyJob = some (0, jobOf copyCard .running) ∧ cardKind copyCard = 3 ∧ cardOut copyCard = false ∧ c.piece = none ∧ c.parks = false ∧
     0 < copyTotal copyCard ∧ len = 128 ∧ tokIndex (cardTok copyCard) = 1 ∧
     s.checkOn 0 1 (cardTok copyCard) (copyAt copyCard 0).1 len needR = .ok (entryOf (page 0)) ∧
     (∀ g ∈ (entryOf (page 0)).elemSegs 0 (copyAt copyCard 0).1 len, plainPart s g) ∧ keepsEntries c 1 (tokIndex (cardTok copyCard))) ∧
    (let s := copied
     let c := s.coreAt 0
     c.piece.map (fun p => (p.await, p.segs)) = some ([], [⟨0, 0, 128, page 0, 0x1000⟩]) ∧ plainPart s ⟨0, 0, 128, page 0, 0x1000⟩ ∧
     s.homePoison (lineNo 0x1000) = 0 ∧ c.inBuf 3 0 128 = true) ∧
    (let m : McastWrite := ⟨1, 0x40, 8, none, 0x55, [], 0, 0⟩
     (copying.coreAt m.src).job m.job = some (jobOf copyCard .running) ∧ (copying.coreAt 0).resident = some 1 ∧
     (copying.coreAt 0).inBuf m.buf (cardFoot copyCard 1).start (cardFoot copyCard 1).len = true ∧ (copying.coreAt 0).inBuf m.buf m.off m.count = true ∧ m.count ≤ 128) :=
  ⟨⟨by decide +kernel, by decide +kernel, by decide +kernel, by decide +kernel, by decide +kernel, by decide +kernel, by decide +kernel, by decide +kernel,
      answer_eq (by decide +kernel), plain_all (by decide +kernel), keeps_of (by decide +kernel)⟩,
    ⟨by decide +kernel, plain_of (by decide +kernel), by decide +kernel, by decide +kernel⟩, by decide +kernel⟩

/-- The same COPY, from ABUF to memory; a CRYPT of 16 bytes, to memory or from it, whose IV is zero; and an EXPAND of one block. -/
def copyOutCard : Card :=
  cardOf [0x3000000000000000, (tokOf 1).toNat, 0xA0001A0000001000, 0x4C00000400000000, 0, 0, 2 ^ 63, 0x100, 4, 0x400, 0x100, 1]
def cryptCard (out : Bool) : Card :=
  let w := if out then 0 else 0x2000000000000000
  cardOf [0x7000000000000000, (tokOf 1).toNat, 0xA000010000001000 - w, 0x4C00000010000000 + w, 0, 0, (if out then 2 ^ 63 else 0) + 16, 0, 0]
def expandCard : Card := cardOf [0x4000000000000000, (tokOf 1).toNat, 0x8000100000001000, 0x6800000800000000, 0, 0, 1]

/-- The engine runs a job of that card, without a line under way. -/
def engine (k : Card) : State := working (jobOf k .running)
/-- Its line of `len` bytes has been issued; to memory it carries `bytes`. -/
def lined (k : Card) (len : Nat) (bytes : List Byte) : State :=
  with0 (fun c => { c with piece := some ⟨0, 0, len, 0, 1, (entryOf (page 0)).elemSegs 0 0x1000 len, [], [], false, bytes, []⟩ }) (engine k)

/-- The bytes that the parts of a line hold. -/
def lineData (s : State) : List Nat := (s.coreAt 0).piece.elim [] fun p => p.segs.flatMap fun g => (List.range g.len).map fun i => byteAt s (g.addr + i)

/-- Table slot 1 of die 0 is frozen with codes of one bit for the bytes 0 and 1; a block of 2,048 zeros under it stands at 0x1000. -/
def expanding : State :=
  let s := (lined expandCard 2048 []).modDie 0 fun d => { d with tables := [(1, ⟨true, true, 0, [1, 1] ++ List.replicate 254 0, 0, [], []⟩)] }
  { s with mem := Memory.writeNat [] 0x1000 8 (2 ^ 60 + 2048 * 2 ^ 30) }

/-- The first line of a job to memory may be issued. -/
def issuesB (k : Card) : Bool :=
  let s := engine k
  let c := s.coreAt 0
  let len := unitLen k (s.tokenEntry 0 1 (tokIndex (cardTok k))) 0
  !headerFault k && c.copyJob == some (0, jobOf k .running) && c.job 0 == some (jobOf k .running) && cardOut k && c.piece.isNone && !c.parks &&
    c.localPoison.isEmpty && 0 < copyTotal k && answer (s.checkOn 0 1 (cardTok k) (copyAt k 0).1 len needW) == some (entryOf (page 0)) &&
    ((entryOf (page 0)).elemSegs 0 (copyAt k 0).1 len).all (plainB s)

theorem witness_CopyOut :
    issuesB copyOutCard = true ∧ issuesB (cryptCard true) = true ∧
    cardKind copyOutCard = 3 ∧ cardKind (cryptCard true) = 7 ∧ (cardFoot copyOutCard 1).start = 0 ∧ (0 : Int) ≤ squad copyOutCard 13 ∧
    (0 : Int) ≤ squad copyOutCard 10 ∧ keepsEntries ((engine copyOutCard).coreAt 0) 1 1 ∧ keepsEntries ((engine (cryptCard true)).coreAt 0) 1 1 := by
  refine ⟨?_, ?_, ?_, ?_, ?_, ?_, ?_, keeps_of ?_, keeps_of ?_⟩ <;> decide +kernel

theorem witness_CopyOutPerforms :
    let s := lined copyOutCard 128 (List.replicate 128 7)
    let segs := (entryOf (page 0)).elemSegs 0 0x1000 128
    (s.coreAt 0).piece.map (fun p => (p.await, p.sent, p.segs)) = some ([], false, segs) ∧ tidy s ∧ (∀ g ∈ segs, plainPart s g) ∧
      segs.Pairwise fun g h => g.addr + g.len ≤ h.addr ∨ h.addr + h.len ≤ g.addr := by
  refine ⟨?_, tidy_of ?_, plain_all ?_, ?_⟩ <;> decide +kernel

/-- Test case 14 of the GCM specification, through the CRYPT of a block of zeros under a key of zeros. -/
theorem test_crypt_out :
    next (exec (.copyLine 0) (engine (cryptCard true))) (fun t => (t.coreAt 0).piece.map (fun p => p.bytes.map (·.toNat)) =
      some [0xce, 0xa7, 0x40, 0x3d, 0x4d, 0x60, 0x6b, 0x6e, 0x07, 0x4e, 0xc5, 0xd3, 0xba, 0xf3, 0x9d, 0x18,
        0xd0, 0xd1, 0xc8, 0xa7, 0x99, 0x99, 0x6b, 0xf0, 0x26, 0x5b, 0x98, 0xb5, 0xd4, 0x8a, 0xb9, 0x19]) = true := by decide +kernel
theorem test_copy_out_performs :
    next (exec (.copyLineComplete 0) (lined copyOutCard 128 (List.replicate 128 7))) (fun t => Memory.readNat t.mem 0x107F 2 = 7 &&
      (t.coreAt 0).piece.isNone && t.events = [.copyLine 0]) = true := by decide +kernel

theorem witness_Expand :
    headerFault expandCard = false ∧ cardKind expandCard = 4 ∧ cardOut expandCard = false ∧
    ((expanding.coreAt 0).piece.map fun p => (p.await, p.sent, p.job)) = some ([], false, 0) ∧
    ((expanding.coreAt 0).piece.all fun p => p.segs.all fun g => plainB expanding g && decide (expanding.homePoison (lineNo g.addr) = 0)) = true ∧
    (expanding.coreAt 0).inBuf 2 0 2048 = true ∧ (jobOf expandCard .running).err = false ∧ tidy expanding := by
  refine ⟨?_, ?_, ?_, ?_, ?_, ?_, ?_, tidy_of ?_⟩ <;> decide +kernel

theorem witness_Expand_blocks :
    (expanding.decodeBlock ((lineData expanding).map (BitVec.ofNat 8))).map (·.length) = some 2048 ∧
    (lined expandCard 2048 []).decodeBlock ((lineData (lined expandCard 2048 [])).map (BitVec.ofNat 8)) = none := by
  refine ⟨?_, ?_⟩ <;> decide +kernel

theorem witness_CryptIn :
    let k := cryptCard false
    let s := lined k 32 []
    headerFault k = false ∧ cardKind k = 7 ∧ cardOut k = false ∧
    ((s.coreAt 0).piece.all fun p => p.pos % 16 = 0 && (lineData s).length = p.len &&
      p.segs.all fun g => plainB s g && decide (s.homePoison (lineNo g.addr) = 0)) = true ∧
    (s.coreAt 0).inBuf 3 0 16 = true := by refine ⟨?_, ?_, ?_, ?_, ?_⟩ <;> decide +kernel

/-- The tag of a line of zeros is none of that key's: the job is marked. -/
theorem test_crypt_in_fails :
    next (exec (.copyLineComplete 0) (lined (cryptCard false) 32 [])) (fun t => ((t.coreAt 0).job 0).map (fun j => (j.err, j.cause)) = some (true, cTagFail)) = true := by
  decide +kernel

theorem test_copy_line : next (exec (.copyLine 0) copying) (fun t => (t.coreAt 0).piece.map (fun p => (p.pos, p.len, p.buf)) = some (0, 128, 0)) = true := by
  decide +kernel
theorem test_copy_line_completes :
    next (exec (.copyLineComplete 0) copied) (fun t => (t.coreAt 0).bufNat 3 0 8 = 0x0807060504030201 && t.events = [.copyLine 0]) = true := by
  decide +kernel

theorem witness_Tables :
    let s := hc.modDie 0 fun d => { d with tables := [(1, ⟨true, false, 0xFFFF, [], 0, [], []⟩)] }
    (s.tableAt 0 1).learned = true ∧ (s.tableAt 0 1).frozen = false ∧ validTable (List.replicate 256 8) = true := by decide +kernel

theorem test_table_freezes :
    next (exec (.tableFreeze 0 1 (List.replicate 256 8)) (hc.modDie 0 fun d => { d with tables := [(1, ⟨true, false, 0xFFFF, [], 0, [], []⟩)] }))
      (fun t => (t.tableAt 0 1).gen = 0 && (t.tableAt 0 1).prevGen = 0xFFFF) = true := by decide +kernel

/-- A contribution of 32-bit integers to line 32. -/
def part (slot : Nat) : Contribution := ⟨1, 32, 0, slot, 2, 10, false, false, false, false, none, 0, 0, 0, false, 0xF, 5⟩

theorem witness_Reductions :
    tidy copying ∧ (∀ p ∈ copying.homes.reductions, p.1.2.1 ≠ (part 0).line) ∧ copying.homes.reductions.length < 4096 ∧
    (part 0).bpage = false ∧ (part 0).empty = false ∧ 1 ≤ (part 0).n ∧ (part 0).slot = 0 ∧ (part 1).slot ≠ 0 :=
  ⟨tidy_of (by decide +kernel), by decide +kernel⟩

theorem test_reduce_first : next (exec (.reduceContribution (part 0)) copying) (fun t => Memory.readNat t.mem 0x1000 8 = 0x0807060504030206) = true := by
  decide +kernel
theorem test_reduce_later : next (exec (.reduceContribution (part 1)) copying) (fun t => t.mem = copying.mem && t.homes.reductions.length = 1) = true := by
  decide +kernel

/-! ### Witnesses: X -/

/-- X issues; v1 holds 1.0 in every lane, v2 the integers 1, 2, 3 … of 32 bits. -/
def vecs : State :=
  as .x (with0 (fun c => { c with
    sx := c.sc, v := [(1, ofElems 32 64 fun _ => 0x3F800000), (2, ofElems 32 64 fun j => j + 1)], m := [(2, 0xF), (3, 0x5)] }) hc)

theorem witness_FloatForms :
    vecs.str = .x ∧ vecs.guardHolds gA = true ∧ (f3 3 1 1 0).fmt ≠ 7 ∧ (f3 3 1 1 3 0).fn ≠ 7 ∧ (f3 3 1 1 2).fmt.toNat < 3 ∧
    (f3 3 1 1 0 7).fn.toNat < 8 ∧ typeWidth 0 = 32 ∧ 8 ≤ (f3 3 1 1 1 8).fn.toNat := by decide +kernel

/-- The value that an X form has put into flight: element `j` of width `w` of it, and the cycles that remain. -/
def flies (o : Outcome State Fault Refusal) (w j : Nat) : Option (Nat × Nat) := match o with
  | .next t => t.cur.inflight.head?.map fun f => (elem w f.value j, f.remaining)
  | _ => none

theorem test_vadd : flies (exec (.vadd (f3 3 1 1)) vecs) 32 63 = some (0x40000000, 3) := by decide +kernel
theorem test_vfma : flies (exec (.vfma (f3 1 1 1)) vecs) 32 0 = some (0x40000000, 3) := by decide +kernel
theorem test_vdiv_by_zero : flies (exec (.vdiv (f3 3 1 9)) vecs) 32 0 = some (0x7F800000, 15) := by decide +kernel
theorem test_vcvt_to_f16 : flies (exec (.vcvt (f3 3 1 0 1 0)) vecs) 16 5 = some (0x3C00, 2) := by decide +kernel
theorem test_vcmp_mask : flies (exec (.vcmp { f3 3 1 1 0 0 with mask := 3 }) vecs) 64 0 = some (5, 1) := by decide +kernel
theorem test_vclass_of_one : flies (exec (.vclass (f3 3 1 0)) vecs) 32 0 = some (2 ^ 6, 1) := by decide +kernel

theorem witness_VectorIntegers :
    8 ≤ (f3 3 2 2 10).fmt.toNat ∧ 8 ≤ (fi 3 2 (10 * 2 ^ 26 + 31)).imm.toNat / 2 ^ 26 ∧
    (fi 3 2 (10 * 2 ^ 26 + 31)).imm.toNat % 64 < typeWidth 10 ∧ (f3 3 2 2 10 5).fn.toNat % 8 < 6 := by decide

theorem test_viadd_wraps : flies (exec (.viadd (f3 3 2 2 12)) vecs) 8 (4 * 63) = some (0x80, 0) := by decide +kernel
theorem test_visub_saturates : flies (exec (.visub { f3 3 9 2 14 with sat := true }) vecs) 32 0 = some (0, 0) := by decide +kernel
theorem test_viaddi : flies (exec (.viaddi (fi 3 2 (10 * 2 ^ 26 + 0x3FFFFFF))) vecs) 32 7 = some (7, 0) := by decide +kernel

theorem witness_VectorMoves :
    (f3 3 1 2 0).fmt ≠ 7 ∧ ((fi 5 3 0x03F).imm.toNat / 256 < 16 ∧ (fi 5 3 0x03F).imm.toNat / 256 ≠ 7 ∧
      (fi 5 3 0x03F).imm.toNat % 256 < elemCount (typeWidth 0)) ∧ (fi 3 2 64).imm.toNat % 128 ≤ 64 ∧ (fi 3 0 5).imm.toNat / 2 ^ 26 ≠ 7 := by decide

theorem test_vslide_down : flies (exec (.vslide (fi 3 2 0x81)) vecs) 32 62 = some (64, 1) := by decide +kernel
theorem test_vslide_up : flies (exec (.vslide (fi 3 2 0x01)) vecs) 32 1 = some (1, 1) := by decide +kernel
theorem test_vcompress : flies (exec (.vcompress { f3 3 2 0 with mask := 3 }) vecs) 32 1 = some (3, 2) := by decide +kernel
theorem test_vperm_out_of_range : flies (exec (.vperm (f3 3 2 2 10)) vecs) 32 63 = some (0, 2) := by decide +kernel
theorem test_vext : flies (exec (.vext (fi 5 2 0x010)) vecs) 64 0 = some (17, 1) := by decide +kernel

/-- The worked example of `vredsum`: lanes 0 to 3 hold 2^24, 1.0, 1.0 and 1.0. -/
def sums : State := with0 (fun c => { c with v := [(9, ofElems 32 64 fun j => if j = 0 then 0x4B800000 else 0x3F800000)] }) vecs

theorem test_vredsum_example : flies (exec (.vredsum { f3 4 9 0 with mask := 2 }) sums) 64 0 = some (0x4B800001, 13) := by decide +kernel

theorem witness_Reductions_x : (f3 4 2 0 10).sat = false ∧ vecs.cur.maskReg 2 = 0xF ∧ (f3 4 2 0 10).fmt ≠ 7 ∧ ({ f3 4 2 0 8 with sat := true }).sat = true ∧
    8 ≤ (f3 4 2 0 8).fmt.toNat ∧ ((List.range 64).filter fun j => (vecs.cur.maskReg 5).getLsbD j) = [] := by decide +kernel

/-- Sixteen elements of 64 saturate at 127; no active element gives 0. -/
theorem test_vredadd_saturates :
    flies (exec (.vredadd { f3 4 9 0 8 with mask := 2, sat := true }) (with0 (fun c => { c with v := [(9, ofElems 8 256 fun _ => 64)] }) vecs)) 8 0 = some (127, 5) := by
  decide +kernel
theorem test_vredsum_of_nothing : flies (exec (.vredsum { f3 4 9 0 with mask := 5 }) sums) 64 0 = some (0, 13) := by decide +kernel

theorem test_vredadd : flies (exec (.vredadd { f3 4 2 0 10 with mask := 2 }) vecs) 64 0 = some (10, 5) := by decide +kernel

theorem witness_MasksChecksums :
    (f3 1 1 0 0 0).fn = 0 ∧ (f3 1 1 0 0 1).fn = 1 ∧ vecs.cur.chk 0 = vecs.cur.chk 1 ∧
    (with0 (fun c => c.setChk 1 7) vecs).cur.chk 0 ≠ (with0 (fun c => c.setChk 1 7) vecs).cur.chk 1 := by decide +kernel

theorem test_mfirst : flies (exec (.mfirst (f3 4 2 0)) vecs) 64 0 = some (0, 0) := by decide +kernel
theorem test_mandn : flies (exec (.mandn (f3 4 2 3)) vecs) 64 0 = some (0xA, 0) := by decide +kernel
theorem test_mmov_of_m0 : flies (exec (.mmov (f3 4 0 0)) vecs) 64 0 = some (2 ^ 64 - 1, 0) := by decide +kernel

/-- lq1 holds a filled entry, lq2 one that is not; sq0 is full. -/
def queues : State :=
  with0 (fun c => { c with
    lq := [(1, [⟨true, 0x77, 3, 5, false⟩, ⟨false, 0, 0, 0, false⟩]), (2, [⟨false, 0, 0, 0, false⟩])],
    sq := [(0, List.replicate 16 ⟨0, 0, false⟩)] }) vecs

theorem witness_Queues :
    queues.cur.loadQ 1 = [⟨true, 0x77, 3, 5, false⟩, ⟨false, 0, 0, 0, false⟩] ∧ (f3 7 1 0 0 2).fn.toNat < 3 ∧
    (∀ q ∈ (queues.cur.loadQ 2).head?, q.filled = false) ∧ (∀ q ∈ (queues.cur.loadQ 3).head?, q.filled = false) ∧
    (queues.cur.storeQ 1).length < 16 ∧ 16 ≤ (queues.cur.storeQ 0).length := by decide +kernel

theorem test_vpop : next (exec (.vpop { f3 7 1 0 0 2 with mask := 3 }) queues) (fun t => (t.cur.loadQ 1).length = 1 &&
    t.cur.inflight.map (fun f => (f.dest, elem 64 f.value 0)) = [(.v 7, 0x77), (.m 3, 7)]) = true := by decide +kernel
theorem test_vpop_waits : next (exec (.vpop (f3 7 2 0)) queues) (fun t => t = queues) = true := by decide +kernel
theorem test_vpush : next (exec (.vpush { f3 1 2 0 with mask := 2 }) queues) (fun t =>
    (t.cur.storeQ 1).map (fun e => (elem 32 e.data 0, e.enable)) = [(1, 0xF)]) = true := by decide +kernel

/-- A result for the low 32 bits of v5 is due. -/
def landing (flags : FpFlags) (op : LandOp) (en : W64) : State :=
  with0 (fun c => { c with
    inflight := [⟨.v 5, 0xFFFFFFFF, 0xABCD, 0, op, flags, 0x48, false⟩], cont := { c.cont with fpstat := en } }) vecs

theorem witness_Results :
    (let c := (landing 1 .write 0).coreAt 0
     (c.inflight.filter fun g => g.remaining = 0) = c.inflight ∧ c.inflight.length = 1 ∧
     ¬ ((c.cont.fpstat ||| (1 : FpFlags).setWidth 64).extractLsb' 8 5 &&& (1 : FpFlags) ≠ 0)) ∧
    (let c := (landing 1 .write 0x100).coreAt 0
     (c.cont.fpstat ||| (1 : FpFlags).setWidth 64).extractLsb' 8 5 &&& (1 : FpFlags) ≠ 0) ∧
    ((landing 0 .check 0).coreAt 0).inflight.map (fun f => f.poison) = [false] := by decide +kernel

theorem test_result_lands : next (exec (.xResultLanding 0) (landing 1 .write 0)) (fun t => (t.coreAt 0).vec 5 = 0xABCD && (t.coreAt 0).cont.fpstat = 1) = true := by
  decide +kernel
theorem test_late_fault : next (exec (.xResultLanding 0) (landing 1 .write 0x100)) (fun t =>
    (t.coreAt 0).cont.cause = 0xA000000000000108 && (t.coreAt 0).cont.epc = 0x48 && (t.coreAt 0).vec 5 = 0xABCD) = true := by decide +kernel

/-- Two results of v5 and a poisoned one of v6 are due, the second with a flag that is enabled. -/
def landings (p : Bool) : State :=
  with0 (fun c => { c with
    inflight := [⟨.v 5, 0xFFFFFFFF, 0xABCD, 0, .write, 0, 0x40, false⟩, ⟨.v 5, 0xFFFF0000, 0x12340000, 0, .write, 1, 0x48, false⟩,
      ⟨.v 6, 0xFFFFFFFF, 7, 0, .write, 0, 0x50, p⟩, ⟨.ck 1, 0, 0, 0, .ckFsum 3 false false false 2, 0, 0x58, false⟩],
    cont := { c.cont with fpstat := 0x100 } }) vecs

theorem witness_Results_many :
    ((((landings true).coreAt 0).inflight.filter fun g => g.remaining = 0).map fun f => (f.poison, f.op == .check, f.dest.key)).take 3 =
      [(false, false, some (Dest.v 5).key.get!), (false, false, some (Dest.v 5).key.get!), (true, false, some (Dest.v 6).key.get!)] := by
  decide +kernel

theorem test_results_land_in_order :
    next (exec (.xResultLanding 0) (landings true)) (fun t => (t.coreAt 0).vec 5 = 0x1234ABCD && (t.coreAt 0).vec 6 = 7 &&
      (t.coreAt 0).regPoison = [(Dest.v 6).key.get!] && (t.coreAt 0).cont.epc = 0x48 && (t.coreAt 0).cont.cause = 0xA000000000000108) = true := by
  decide +kernel

/-! ### Witnesses: system forms -/

theorem witness_SystemRegisters :
    hc.str = .c ∧ hc.guardHolds gA = true ∧ hc.curCtx.sup = true ∧ (user hc).curCtx.sup = false ∧ hc.cur.sa.idle = true ∧ hc.cur.sx.idle = true ∧
    (with0 (fun c => { c with sa := { c.sa with started := true } }) hc).cur.sa.idle = false ∧
    hc.launchAt hc.cur.launchDie hc.cur.launch = some launch0 ∧ ((rx 1 (3072 * 2 ^ 24) hc).rd 1).toNat / 2 ^ 24 % 2 ^ 12 ≤ 3072 ∧
    3072 < ((rx 1 (3073 * 2 ^ 24) hc).rd 1).toNat / 2 ^ 24 % 2 ^ 12 := by decide +kernel

theorem test_csrr_cfg : next (exec (.csrr (fl 3 0)) hc) (fun t => t.cur.scalar .c 3 = 0x58081F2020604001) = true := by decide +kernel
theorem test_csrw_masks : next (exec (.csrw (fl 1 0x020)) (rx 1 (-1) hc)) (fun t => t.cur.cont.fpstat = 0x1F1F) = true := by decide +kernel
theorem test_csrw_user : next (exec (.csrw (fl 1 0x030)) (user hc)) (fun t => t.cur.cont.cause = 0 && t.cur.mode = .halted || t.cur.cont.cause % 256 = 2) = true := by
  decide +kernel

theorem witness_RoleChanges :
    let s := rx 1 2 hc
    s.str = .c ∧ s.guardHolds gA = true ∧ (s.rd 1).toNat < 2 ^ 32 ∧ (fi 0 1 4).imm.toNat % 8 ≤ 4 ∧ s.cur.jobs = [] ∧ s.cur.reqs = [] ∧
    (fi 0 1 4).imm.getLsbD 3 = false ∧ s.cur.lines = [] ∧ 2 ^ 32 ≤ ((rx 1 (2 ^ 32) hc).rd 1).toNat ∧ 4 < (fi 0 1 5).imm.toNat % 8 ∧
    bitOf 2 1 = true ∧ s.cur.bankRole 1 = 1 ∧ bitOf 1 0 = true ∧ s.cur.bankRole 0 = 0 := by decide +kernel

theorem test_roleset_zeroes :
    next (exec (.roleset (fi 0 1 4)) (rx 1 2 (with0 (fun c => c.bufWriteNat 1 8 4 0x55) hc))) (fun t => t.cur.localMem = [] && t.cur.bankRole 1 = 4) = true := by
  decide +kernel

/-- C is in its handler, after a trap of A. -/
def handling : State :=
  with0 (fun c => { c with
    sc := { c.sc with pc := 0x110 }
    cont := { c.cont with th := true, cause := causeWord 0 .a 0 1, epc := 0x88, cpc := 0x18, apc := 0x90, xpc := 0x98, res := true } }) hc

theorem witness_TrapForms :
    let s := handling
    let k := s.cur.cont
    s.str = .c ∧ s.guardHolds gA = true ∧ hc.cur.cont.th = false ∧ k.th = true ∧ s.cur.unresolved = none ∧ (∀ r ∈ s.cur.reqs, r.stop = none ∧ r.kept = false) ∧ s.cur.frozen = [] ∧
    s.cur.firstPending = none ∧ namesSlot k.cpc = true ∧ k.cause.toNat / 2 ^ 62 = 0 ∧ k.cause.toNat / 2 ^ 60 % 4 = streamCode .a ∧ s.curCtx.sup = true ∧
    ((with0 (fun c => { c with mode := .halted }) hc).coreAt 0).mode = .halted := by decide +kernel

theorem witness_TrapForms_returns :
    (let s := with0 (fun c => { c with cont := { c.cont with cpc := 0x40 } }) handling
     s.cur.cont.th = true ∧ s.cur.firstPending = none ∧ namesSlot s.cur.cont.cpc = false) ∧
    (let q : PendingTrap := ⟨causeWord 0 .x 0 3, 0x98, 0x98⟩
     let s := with0 (fun c => { c with pendX := some q }) handling
     s.cur.cont.th = true ∧ s.cur.firstPending = some (.x, q) ∧ s.residualOf s.core = none ∧
       [s.cur.sc, s.cur.sa, s.cur.sx].map (·.fell) = [false, false, false] ∧ (∀ f ∈ s.cur.inflight, f.remaining ≠ 0) ∧
       s.escalates s.core .x false (q.cause.toNat % 256) = false) := by decide +kernel

theorem test_tret_to_no_slot :
    next (exec (.tret (fi 0 0 0)) (with0 (fun c => { c with cont := { c.cont with cpc := 0x40 } }) handling)) (fun t =>
      t.cur.cont.cause = 1 && t.cur.cont.epc = 0x40 && t.cur.cont.th && t.cur.sc.pc = 0x108) = true := by decide +kernel
theorem test_tret_takes_pending :
    next (exec (.tret (fi 0 0 0)) (with0 (fun c => { c with pendX := some ⟨causeWord 0 .x 0 3, 0x98, 0x98⟩ }) handling)) (fun t =>
      t.cur.cont.cause = 0x2000000000000003 && t.cur.cont.cpc = 0x18 && t.cur.pendX = none && t.cur.sc.pc = 0x108) = true := by decide +kernel

theorem test_tret : next (exec (.tret (fi 0 0 0)) handling) (fun t => t.cur.sc.pc = 0x18 && t.cur.sa.pc = 0x88 && t.cur.sx.pc = 0x98 &&
    !t.cur.cont.th && t.cur.sc.residual) = true := by decide +kernel
theorem test_syscall : next (exec (.syscall (fi 0 0 0x12)) hc) (fun t => t.cur.cont.cause = 0x120D && t.cur.cont.epc = 16 && t.cur.sc.pc = 0x108) = true := by
  decide +kernel
theorem test_halt : next (exec (.halt (fi 0 0 0)) hc) (fun t => t.cur.mode = .halted && t.mgmt.posted = [⟨1, 0, 0⟩]) = true := by decide +kernel

/-- A trap of A waits. -/
def pending (th : Bool) : State := with0 (fun c => { c with pendA := some ⟨causeWord 0 .a 0 3, 0x88, 0x88⟩, cont := { c.cont with th := th } }) hc

theorem witness_PendingTraps :
    (handling.cur.cont.th = true ∧ (as .a handling).str ≠ .c ∧ (as .a handling).cur.pend .a = none ∧
      (as .a (pending true)).cur.pend .a = some ⟨causeWord 0 .a 0 3, 0x88, 0x88⟩) ∧
    (handling.str = .c ∧ handling.residualOf handling.core = none ∧ handling.curCtx.log = false ∧ handling.curCtx.sup = true ∧
      (let s := with1 (fun x => { x with sup := false, escal := 0x100000 }) handling
       s.curCtx.sup = false ∧ s.curCtx.escal ≠ 0)) ∧
    (let d := (pending false).coreAt 0
     d.firstPending = some (.a, ⟨causeWord 0 .a 0 3, 0x88, 0x88⟩) ∧ d.mode = .running ∧ d.saving = none ∧ d.cont.th = false ∧ d.cwait = .none ∧
     [d.sc, d.sa, d.sx].map (·.fell) = [false, false, false] ∧ (∀ f ∈ d.inflight, f.remaining ≠ 0) ∧
     (pending false).residualOf 0 = none ∧ (pending false).escalates 0 .a false (3 % 256) = false) ∧
    (with0 (fun c => { c with cwait := .request }) (pending false)).cur.cwait ≠ .none ∧
    (let c := handling.cur
     c.inside = none ∧ [c.sc, c.sa, c.sx].map (·.fell) = [false, false, false] ∧ (∀ f ∈ c.inflight, f.remaining ≠ 0) ∧ c.saving = none ∧ c.mode = .running) ∧
    ({ code := cPoison, before := true } : Trap).before = true ∧ ({ code := cPoison } : Trap).before = false ∧ cPoison ≠ cChainEnd := by decide +kernel

/-- C, which awaits an answer, freezes in its stall, and goes back to it. -/
theorem test_delivery_in_a_stall :
    next (exec (.trapDelivery 0) (with0 (fun c => { c with cwait := .request }) (pending false))) (fun t => t.cur.sc.pc = 0x108 && t.cur.cwait = .none &&
      t.cur.frozen.map (·.wait) = [.request] && t.cur.cont.cause = causeWord 0 .a 0 3 && t.cur.cont.th) = true := by decide +kernel
theorem test_nested_trap_halts : next (exec (.syscall (fi 0 0 1)) handling) (fun t => t.cur.mode = .halted) = true := by decide +kernel
theorem test_pending_delivery : next (exec (.trapDelivery 0) (pending false)) (fun t => t.cur.pendA = none && t.cur.sc.pc = 0x108 &&
    t.cur.cont.cause = causeWord 0 .a 0 3) = true := by decide +kernel

/-- Core 1 runs another continuation of context 1; x11 holds 1. -/
def two (m : CoreMode) (saving : Option SaveCmd) : State :=
  let s := hc.setCore 1 { core0 with mode := m, recSlot := 1, saving := saving }
  (rx 11 1 s).modDie 0 fun d => { d with recs := [(0, rec0), (1, rec0)] }
/-- A save of core 1 that core 0 waits for. -/
def saving1 : SaveCmd := ⟨some (1, 1), (entryOf (page 0)).areaAt 0 0x16410, false, none, some (0, 10), none⟩

/-- Stored bytes of core 1 are on their way to peer 16, which has a route. -/
def leaving (save : Option SaveCmd) : State :=
  (two .running save).modFab fun b => { b with routes := [(16, BitVec.ofNat 64 (2 ^ 63))], writing := [(1, cacheKey (some 16) 5)] }

theorem witness_Saves :
    (let s := two .running none
     let f := f3 0 11 1
     let len := 0x16400 + 1024 * ((s.coreAt 1).cont.ssave.toNat / 2 ^ 24 % 2 ^ 12) + 16
     (1 : Nat) < 128 ∧ s.str = .c ∧ s.guardHolds f.g = true ∧ s.curCtx.sup = true ∧ s.rd f.s1 = BitVec.ofNat 64 1 ∧ 1 ≠ s.core ∧
     (s.rd f.d).toNat % 64 = 0 ∧ s.checkToken s.cur.ctx (s.cur.tok f.s2.toNat) 0 len (needR ||| needW) = .ok (entryOf (page 0)) ∧
     (∀ g ∈ (entryOf (page 0)).elemSegs 0 0 len, plainPart s g) ∧ keepsEntries s.cur s.cur.ctx (tokIndex (s.cur.tok f.s2.toNat)) ∧ (s.coreAt 1).mode = .running ∧ (s.coreAt 1).saving = none ∧ s.residualOf 1 = none ∧
     (s.coreAt 1).sc.fell = false ∧ (s.coreAt 1).sa.fell = false ∧ (s.coreAt 1).sx.fell = false) ∧
    ((two .idle none).coreAt 1).mode ≠ .running ∧
    (let s := two .running (some saving1)
     let c := s.coreAt 1
     c.mode = .running ∧ c.saving = some saving1 ∧ s.recAt c.recDie c.recSlot = some rec0 ∧ s.areaHole saving1.area (areaLen (ssaveKib c.cont.ssave)) = none ∧
     s.parked 1 = true ∧ saving1.reply = some (0, 10) ∧ (s.coreAt 0).frozen = [] ∧ saving1.serial = none ∧ s.coreLeaving 1 = false ∧
     (c.lines.all fun p => p.1 < 2 ^ 33 || p.2.cls = 0 || p.2.dirty = 0) ∧
     ((saving1.area.parts 0 (areaLen (ssaveKib c.cont.ssave))).all fun g => !s.isRemote g.frame)) ∧
    (let s := leaving (some saving1)
     (s.coreAt 1).saving = some saving1 ∧ s.coreLeaving 1 = true ∧ s.parked 1 = true ∧
     s.areaHole saving1.area (areaLen (ssaveKib (s.coreAt 1).cont.ssave)) = none) ∧
    (let cmd := { saving1 with serial := some 4 }
     let s := two .running (some cmd)
     (s.coreAt 1).saving = some cmd ∧ s.coreLeaving 1 = false ∧ s.recAt (s.coreAt 1).recDie (s.coreAt 1).recSlot = some rec0 ∧
     s.areaHole cmd.area (areaLen (ssaveKib (s.coreAt 1).cont.ssave)) = none) ∧
    (let s := (two .running (some saving1)).modCore 1 fun c => { c with reqs := [{ (as .a hc).newReq (.vld (fm 0 1 1 0 2)) 0 0 0 0 .none .none with checked := true }] }
     s.parked 1 = false) :=
  ⟨⟨by decide, by decide, by decide +kernel, by decide +kernel, by decide +kernel, by decide, by decide +kernel, answer_eq (by decide +kernel),
      plain_all (by decide +kernel), keeps_of (by decide +kernel), by decide +kernel, by decide +kernel, by decide +kernel, by decide +kernel, by decide +kernel, by decide +kernel⟩,
    by decide +kernel, by decide +kernel, by decide +kernel, by decide +kernel, by decide +kernel⟩


/-- Core 1 is to be saved with a DONE job whose signal update is held while the fabric is being reconfigured (R368). -/
def heldDone (r : ReconfState) : State :=
  let s := (two .running (some saving1)).modCore 1 fun c => { c with jobs := [(3, { (default : Job) with state := .done })] }
  s.modFab fun b => { b with reconf := r, held := [⟨default, 0, [1, 1, 3]⟩] }

theorem test_held_update_parks : (heldDone .hold).parked 1 = true ∧ (two .running (some saving1)).parked 1 = true ∧
    (((heldDone .run).modFab fun b => { b with held := [] }).parked 1 = false) := by decide +kernel
theorem test_held_update_moves : ((heldDone .hold).heldToRec 1 0 1 7).fab.held.map (·.tag) = [[3, 0, 1, 7, 3]] ∧
    (((heldDone .hold).heldToRec 1 0 1 7).heldToCore 5 0 1 7).fab.held.map (·.tag) = [[1, 5, 3]] := by decide +kernel

/-- A of core 1 has run off its chain when core 0 saves it: its trap is pending in what is saved. -/
theorem test_save_of_a_fallen_stream :
    next (exec (.ctxsaveKeep (f3 0 11 1)) ((two .running none).modCore 1 fun c => { c with sa := { c.sa with started := true, fell := true } })) (fun u =>
      (u.coreAt 1).pendA.map (fun p => p.cause.toNat % 256) = some cChainEnd && u.events = [.preemption 1 0 false]) = true := by decide +kernel

theorem test_save_waits_for_writes :
    next (exec (.preemption 1 0 false) (leaving (some saving1))) (fun u => (u.coreAt 1).mode = .running && u.events.contains (.preemption 1 0 false)) = true ∧
    ((leaving none).written 1 (cacheKey (some 16) 5)).coreLeaving 1 = false ∧ (leaving none).writesQuiet = false := by decide +kernel

/-! ### Witnesses: loads, checkpoints, tests and pages -/

/-- A saved continuation: its area stands at byte 0x1000 of entry 1, and all but the header of it is zero. -/
def area1 : AreaAt := (entryOf (page 0)).areaAt 0x1000 0x16410
def header1 : List Byte := wordBytes [1, 1 + 2 ^ 32, 5, 0x1001, 0, 0x16410]
def saved1 (serial : Nat) : State :=
  let s := rx 10 0x1000 (rx 11 1 hc)
  let s := s.modDie 0 fun d => { d with recs := [(0, rec0), (1, { rec0 with state := .saved, serial := serial, area := area1 })] }
  { s with mem := [(0x1000, 1), (0x1008, 1), (0x100C, 1), (0x1010, 5), (0x1018, 1), (0x1019, 0x10), (0x1028, 0x10), (0x1029, 0x64), (0x102A, 1)] }

theorem area_passes {s : State} {area h : List Byte} {place : Nat} (hh : area.take 64 = h)
    (h0 : s.headerReason h place = 0) (hp : (s.ctxAt (natAt h 8 8 % 1024)).prot = false) : ∃ img, s.checkArea area place = .ok img := by
  refine ⟨h ++ (openArea (s.ctxAt (natAt h 8 8 % 1024)) (natAt h 8 8 % 1024) (natAt h 0x10 8) area).1, ?_⟩
  simp [State.checkArea, hh, h0, openArea, hp]

theorem area_serial {s : State} {area h : List Byte} {place k : Nat} (hh : area.take 64 = h)
    (h0 : s.headerReason h place = k + 1) : s.checkArea area place = .error (k + 1) := by
  simp [State.checkArea, hh, h0]

theorem area_take {s : State} {a : AreaAt} {n : Nat} {g : Seg} (hg : (a.ent.elemSegs 0 0 n).head? = some g)
    (hh : g.frame.hole = false) (hr : s.isRemote g.frame = false) (hl : g.len = 128) (hu : ∀ l, s.lineOwner l = none) :
    (s.areaBytes [] a 0 n).take 64 = (List.range 64).map fun i => Memory.read s.mem (g.addr + i) := by
  obtain ⟨r, hs⟩ := List.head?_eq_some_iff.mp hg
  rw [State.areaBytes, hs, List.flatMap_cons]
  simp only [hh, hr, hl, Bool.false_eq_true, if_false]
  rw [physBytes_of_unowned s _ _ hu, List.take_append_of_le_length (by simp), ← List.map_take, List.take_range]
  rfl

theorem unowned_saved1 (n l : Nat) : (saved1 n).lineOwner l = none := rfl

theorem area_header (n : Nat) (h : n = 5 ∨ n = 6) : ((saved1 n).areaBytes [] area1 0 0x16410).take 64 = padTo 64 header1 := by
  rw [area_take (g := ⟨0, 0, 128, page 0, 0x1000⟩) (by decide +kernel) rfl rfl rfl (unowned_saved1 n)]
  rcases h with rfl | rfl <;> decide +kernel

theorem witness_Loads :
    let f := f3 10 11 1
    let ok := fun s : State =>
      (s.str == .c && s.guardHolds f.g && s.curCtx.sup && s.rd f.s1 == 1 && s.core == 0 && (s.rd f.d).toNat == 0x1000 && (0x1000 % 64 == 0) &&
       (answer (s.checkToken s.cur.ctx (s.cur.tok f.s2.toNat) 0x1000 (areaLen 0) needR) == some (entryOf (page 0))) &&
       min 3072 (bitsOf (natAt (s.areaBytes [] ((entryOf (page 0)).areaAt 0x1000 64) 0 64) 0x20 8) 35 24) == 0 &&
       (((entryOf (page 0)).areaAt 0x1000 64).ent.elemSegs 0 0 64).all (plainB s) && (area1.ent.elemSegs 0 0 0x16410).all (plainB s))
    ok (saved1 5) = true ∧ ok (saved1 6) = true ∧ areaLen 0 = 0x16410 ∧
    ((saved1 5).coreAt 1).mode = .idle ∧ ((saved1 5).coreAt 1).jobs = [] ∧ ((saved1 5).coreAt 1).underTest = false ∧
    answer ((saved1 5).recAt 0 1 |>.elim (.error ()) fun r => if r.keep = none then (.ok true : Except Unit Bool) else .error ()) = some true ∧
    (∃ img, (saved1 5).checkArea ((saved1 5).areaBytes [] area1 0 0x16410) ((saved1 5).areaPlace area1) = .ok img) ∧
    (saved1 6).checkArea ((saved1 6).areaBytes [] area1 0 0x16410) ((saved1 6).areaPlace area1) = .error 3 ∧
    ((two .running none).coreAt 1).mode = .running ∧ keepsEntries (saved1 5).cur (saved1 5).cur.ctx (tokIndex ((saved1 5).cur.tok f.s2.toNat)) := by
  refine ⟨?_, ?_, ?_, ?_, ?_, ?_, ?_, area_passes (area_header 5 (.inl rfl)) ?_ ?_, area_serial (area_header 6 (.inr rfl)) ?_, ?_, keeps_of ?_⟩ <;> decide +kernel

/-- Context 2 has one logged line; x12 names it, x13 a page at 0 of this home and x14 one of peer 9. -/
def logged : State :=
  let s := rx 12 2 (rx 11 1 hc)
  let s := s.modCtx 2 fun x => { x with live := true, ckpt := 4, cabinet := [(3, { entryOf (page 0) with state := .retired })] }
  { s with homes := { s.homes with undo := [⟨2, 5, 4, 0x77, 0⟩] } }

theorem witness_CheckpointsAndTests :
    (tidy logged ∧ logged.str = .c ∧ logged.guardHolds gA = true ∧ logged.curCtx.sup = true ∧ logged.ctxRunning (logged.rd 11).toNat = true ∧
      (logged.rd 12).toNat = 2 ∧ logged.ctxRunning 2 = false ∧ (logged.ctxAt 2).overflow = false ∧ logged.memoryCores 2 = [] ∧
      (logged.homes.undo.filter fun x => x.ctx = 2 && x.interval = (logged.ctxAt 2).ckpt) = [⟨2, 5, 4, 0x77, 0⟩]) ∧
    (0 < unitCount 0 ∧ 5 < unitCount 0 ∧ hc.unitBusy 0 0 = true ∧ hc.unitBusy 0 5 = false ∧
      ((with0 (fun c => { c with cwait := .management 3 (2 + 5) }) hc).coreAt 0).cwait = .management 3 (2 + 0 * 4096 + 5) ∧
      (hc.testAsked 0 0 = false ∧ (hc.coreAt (unitCore 0 0)).preemptible = true ∧ hc.events = [] ∧ (hc.coreAt 0).frozen = []) ∧
      hc.mgmt.noSpares = false ∧ SMap.get 0 hc.mgmt.sparesUsed (5 / 32) < 2 ∧
      (let s := { hc with mgmt := { hc.mgmt with sparesUsed := [(0, 2)] } }
       s.unitBusy 0 5 = false ∧ 2 ≤ SMap.get 0 s.mgmt.sparesUsed (5 / 32))) :=
  ⟨⟨tidy_of (by decide +kernel), by decide +kernel⟩, by decide +kernel⟩

theorem test_ckpt : next (exec (.ckpt (fi 3 12 0)) logged) (fun t => t.cur.scalar .c 3 = 5 && t.homes.undo = []) = true := by decide +kernel
theorem test_ckroll : next (exec (.ckroll (fi 3 12 0)) logged) (fun t => t.mem = [(5 * 128, 0x77)] && t.cur.scalar .c 3 = 0) = true := by decide +kernel
theorem test_own_test_drains : next (exec (.selfTest 0 0 1) hc) (fun t => (t.coreAt 0).testing = some 0 && t.events.map (fun e => match e with
      | .preemption n _ r => (n, r)
      | .selfTest k i _ => (k + i, false)
      | _ => (9, false)) = [(0, true), (0, false)]) = true := by decide +kernel
theorem test_stest_busy : next (exec (.stest (fi 3 0 0)) hc) (fun t => t.cur.scalar .c 3 = 3) = true := by decide +kernel

/-- x10 is the offset 0x4000 of a record of launch 1, which x11 names; the image is entry 3, two lines of zeros. -/
def record1 : State :=
  let s := rx 10 0x4000 (rx 11 1 logged)
  let s := s.modDie 0 fun d => { d with launches := [(1, { launch0 with image := tokOf 3 })] }
  let s := with1 (fun x => { x with cabinet := [(1, entryOf (page 0)), (3, { entryOf (page 0) with length := 128 })] }) s
  { s with mem := [(0x4000, 8), (0x4005, 25), (0x4006, 0x40), (0x4020, 7)] }
/-- The same, x14 naming a page's new size and class at peer 9 and x15 at this chip. -/
def classes : State := rx 16 0 (rx 15 0 (rx 14 (9 * 2 ^ 52) { record1 with fab := { record1.fab with routes := [(9, 0x8000000000000001)] } }))

theorem witness_PagesRecordsMigrations :
    (let s := classes
     tidy s ∧ s.str = .c ∧ s.guardHolds gA = true ∧ s.curCtx.sup = true ∧ coherent s ∧
     ((s.rd 16).toNat = 0 ∧ (s.rd 15).toNat / 2 ^ 52 = s.ownPeer ∧ (s.rd 15).toNat % 4 ≠ 3 ∧ isMapped 0 = true ∧ isMapped 0xFFFF = true ∧
       (s.rd 14).toNat / 2 ^ 52 = 9 ∧ 9 ≠ s.ownPeer ∧ s.hasRoute 9 = true ∧ s.fab.reconf = .run) ∧
     ((s.rd 12).toNat = 2 ∧ s.ctxRunning 2 = false ∧ s.savedRecs 2 = [])) ∧
    (let s := record1
     let at_ := (entryOf (page 0)).areaAt 0x4000 64
     let image := s.cab 1 3
     let m := imageLines (s.areaBytes [] (image.areaAt 0 image.length.toNat) 0 (image.length.toNat / 64 * 64))
     s.areaNeeds [] (image.areaAt 0 image.length.toNat) 0 (image.length.toNat / 64 * 64) = [] ∧
     ((image.areaAt 0 image.length.toNat).parts 0 (image.length.toNat / 64 * 64)).any s.movedPart = false ∧ keepsEntries s.cur s.cur.ctx (tokIndex (s.cur.tok 1)) ∧
     (s.rd 10).toNat = 0x4000 ∧ (s.rd 11).toNat = 1 ∧ s.checkToken 1 (s.cur.tok 1) 0x4000 64 needR = .ok (entryOf (page 0)) ∧
     (∀ g ∈ at_.ent.elemSegs 0 0 64, plainPart s g) ∧ s.launchAt 0 1 = some { launch0 with image := tokOf 3 } ∧
     tokIndex (tokOf 3) = 3 ∧ launch0.residual = none ∧ launch0.ended = false ∧
     (s.readRec 1 0 1 (Image.headAt m .c) (fun g => (SMap.find launch0.groups g).isSome) (s.areaBytes [] at_ 0 64)).map (fun r => (r.pc, r.prio, r.args)) =
       some (8, 3, [7, 0, 0, 0]) ∧
     (s.ctxAt 1).poolUsed < (s.ctxAt 1).poolQuota ∧ s.findSlot 0 = some (0, 1)) ∧
    (hc.homes.moving.find? (fun q => q.base = 0) = none ∧ inRange hc.homes.moved 0 = none ∧ isMapped (lineNo 0 * 128) = true ∧
      coherent hc ∧ tidy hc ∧ hc.fab.reconf = .run ∧ hc.homes.reductions = [] ∧ classes.hasRoute 9 = true ∧ classes.hasRoute 8 = false) := by
  refine ⟨⟨tidy_of ?_, ?_, ?_, ?_, coherent_of ?_, ?_, ?_⟩, ⟨?_, ?_, keeps_of ?_, ?_, ?_, answer_eq ?_, plain_all ?_, ?_, ?_, ?_, ?_, ?_, ?_, ?_⟩,
    ?_, ?_, ?_, coherent_of ?_, tidy_of ?_, ?_, ?_, ?_, ?_⟩ <;> decide +kernel

theorem test_shelfput : next (exec (.shelfput (f3 10 11 1)) record1) (fun t => (t.recAt 0 1).map (fun r => (r.state, r.pc)) = some (.ready, 8) &&
    t.cur.scalar .c 10 = 0) = true := by decide +kernel
theorem test_tsweep : next (exec (.tsweep (f3 3 12 0)) classes) (fun t => (t.cab 2 3).state = .free && (t.cab 2 3).gen = 0) = true := by decide +kernel
theorem test_pgclass_remote : next (exec (.pgclass (f3 14 16 0 0 1)) classes) (fun t => t.cur.cwait = .management 0 1) = true := by
  decide +kernel

/-! ### Witnesses: launches -/

/-- A page of C code of zeros at 0 is line 0 of the image, entry 3. A launch record stands at 0 in host memory, its group table and its
record at 0x1000 and 0x4000; a feed-append record stands at 0x200, its queue of 2 elements at 0x900. -/
def front : State :=
  { record1 with
    mem := [(0x910, 1), (0x1000, 1), (0x1010, 2), (0x1017, 0x80), (0x4000, 8), (0x4005, 25), (0x4006, 0x40), (0x4020, 7)]
    hostMem := [(2, 1), (7, 1), (0xb, 0x1f), (0xe, 0x30), (0x13, 0x1f), (0x16, 0x10), (0x19, 4), (0x20, 4), (0x2b, 0x1f), (0x2e, 0x10), (0x31, 0x10),
      (0x3b, 0x1f), (0x3e, 0x10), (0x41, 0x40), (0x4b, 0x1f), (0x4e, 0x10), (0x51, 8), (0x60, 8), (0x65, 1), (0x207, 2), (0x20b, 0x1f),
      (0x20e, 0x10), (0x211, 9), (0x21b, 0x1f), (0x21e, 0x10), (0x221, 0x40), (0x228, 1)] }

/-- No byte of a part on this chip is listed. -/
def clear (s : State) (g : Seg) : Bool :=
  !g.frame.hole && !s.isRemote g.frame && s.mem.all fun p => decide (p.1 < g.addr ∨ g.addr + g.len ≤ p.1)

theorem read_unlisted : ∀ (m : Memory) (a : Nat), (∀ p ∈ m, p.1 ≠ a) → Memory.read m a = 0
  | [], _, _ => rfl
  | p :: m, a, h => by
    simp only [Memory.read, SMap.get, h p List.mem_cons_self, if_false]
    exact read_unlisted m a fun q hq => h q (List.mem_cons_of_mem _ hq)

theorem clear_bytes {s : State} {f : Seg → List Byte} (l : List Seg)
    (hf : ∀ g ∈ l, f g = (List.range g.len).map fun i => Memory.read s.mem (g.addr + i)) (h : l.all (clear s) = true) :
    l.flatMap f = List.replicate (l.map (·.len)).sum 0 := by
  induction l with
  | nil => rfl
  | cons g l ih =>
    simp only [List.all_cons, Bool.and_eq_true] at h
    rw [List.flatMap_cons, ih (fun q hq => hf q (List.mem_cons_of_mem _ hq)) h.2, hf g List.mem_cons_self, List.map_cons, List.sum_cons,
      ← List.replicate_append_replicate]
    congr 1
    have hm := h.1
    simp only [clear, Bool.and_eq_true, List.all_eq_true, decide_eq_true_eq] at hm
    refine List.eq_replicate_iff.mpr ⟨by simp, fun b hb => ?_⟩
    obtain ⟨i, hi, rfl⟩ := List.mem_map.mp hb
    exact read_unlisted _ _ fun p hp => by have := hm.2 p hp; have := List.mem_range.mp hi; omega

/-- The bytes of an area of which all but the first part is clear. -/
theorem first_bytes {s : State} {a : AreaAt} {n k : Nat} {g : Seg} (hu : ∀ l, s.lineOwner l = none) (hg : (a.ent.elemSegs 0 0 n).head? = some g)
    (hh : g.frame.hole = false) (hr : s.isRemote g.frame = false) (hc : (a.ent.elemSegs 0 0 n).tail.all (clear s) = true)
    (hk : ((a.ent.elemSegs 0 0 n).tail.map (·.len)).sum = k) :
    s.areaBytes [] a 0 n = ((List.range g.len).map fun i => Memory.read s.mem (g.addr + i)) ++ List.replicate k 0 := by
  obtain ⟨r, hs⟩ := List.head?_eq_some_iff.mp hg
  rw [hs, List.tail_cons] at hc hk
  rw [State.areaBytes, hs, List.flatMap_cons, clear_bytes r (fun q hq => ?_) hc, hk]
  · simp only [hh, hr, Bool.false_eq_true, if_false, physBytes_of_unowned s _ _ hu]
  · have h := List.all_eq_true.mp hc q hq
    simp only [clear, Bool.and_eq_true, Bool.not_eq_true'] at h
    simp only [h.1.1, h.1.2, Bool.false_eq_true, if_false, physBytes_of_unowned s _ _ hu]

theorem natAt_zeros (k i n : Nat) : natAt (List.replicate k 0) i n = 0 := by
  have h : ∀ m, natOfBytes (List.replicate m (0 : Byte)) = 0 := by
    intro m
    induction m with
    | zero => rfl
    | succ m ih => rw [List.replicate_succ, natOfBytes, ih]; rfl
  rw [natAt, List.drop_replicate, List.take_replicate, h]

def src0 : LaunchSrc := .entry ⟨true, 0⟩
def rec1 : LRecord := readLaunch (front.recordBytes src0)
def bytes1 (i : Nat) : List Byte :=
  let e := (front.launchExtents 1 rec1).getD i (⟨0, []⟩, 0)
  front.areaBytes [] e.1 0 e.2

/-- A group table whose first row alone is valid. -/
theorem one_group {x : Ctx} {row : List Byte} {k : Nat} {g : Group} (hl : row.length = 32)
    (h0 : bitOf (natAt row 16 8) 63 = true) (h1 : natAt row 24 8 = 0) (h2 : bitsOf (natAt row 16 8) 62 4 = 0)
    (hg : (⟨BitVec.ofNat 128 (natAt row 0 16) &&& (x.callow1 ++ x.callow0), natAt row 16 8 % 16⟩ : Group) = g) (hm : g.members ≠ 0) :
    readGroups x (row ++ List.replicate k 0) = some [(0, g)] := by
  have hz : ∀ i o n, natAt (row ++ List.replicate k 0) (32 * (i + 1) + o) n = 0 := fun i o n => by
    have h : row.drop (32 * (i + 1) + o) = [] := List.drop_eq_nil_of_le (by omega)
    rw [natAt, List.drop_append, h, List.nil_append]
    exact natAt_zeros k _ n
  have hr : ∀ o n, o + n ≤ 32 → natAt (row ++ List.replicate k 0) o n = natAt row o n := fun o n h => by
    rw [natAt, natAt, List.drop_append_of_le_length (by omega), List.take_append_of_le_length (by simp; omega)]
  generalize row ++ List.replicate k 0 = z at hz hr ⊢
  unfold readGroups
  simp only []
  rw [show (List.map _ (List.range 256) : List (Option (Option (Nat × Group)))) = some (some (0, g)) :: List.replicate 255 (some none) from ?_]
  · have e : (some (some (0, g)) :: List.replicate 255 (some none) : List (Option (Option (Nat × Group)))).any (·.isNone) = false := by
      simp only [List.any_cons, List.any_replicate]; rfl
    have e' : (some (some (0, g)) :: List.replicate 255 (some none) : List (Option (Option (Nat × Group)))).filterMap (fun r => r.bind id) = [(0, g)] := by
      rw [List.filterMap_cons, List.filterMap_replicate_of_none rfl]; rfl
    have e'' : ((List.range 128).any fun c => decide (4 < ([(0, g)].filter fun g => g.2.members.getLsbD c).length)) = false :=
      List.any_eq_false.mpr fun c _ => by
        have := List.length_filter_le (fun g : Nat × Group => g.2.members.getLsbD c) [(0, g)]
        simp only [List.length_singleton] at this
        simp only [decide_eq_true_eq]; omega
    rw [e, e', e'']; rfl
  · rw [List.range_succ_eq_map, List.map_cons, List.map_map]
    congr 1
    · subst hg
      rw [hr _ _ (by decide), hr _ _ (by decide), hr _ _ (by decide), Nat.mul_zero, Nat.zero_add, Nat.zero_add, h0, h1, h2]
      simp only [ne_eq, not_true_eq_false, false_or, if_true]
      exact if_neg hm
    · refine List.eq_replicate_iff.mpr ⟨by simp, fun b hb => ?_⟩
      obtain ⟨i, -, rfl⟩ := List.mem_map.mp hb
      have h3 := hz i 0 16
      simp only [Nat.add_zero] at h3
      simp only [Function.comp_apply, Nat.succ_eq_add_one, hz, h3]
      rfl

theorem front_unowned (l : Nat) : front.lineOwner l = none := rfl

theorem front_groups : readGroups (front.ctxAt 1) (bytes1 2) = some [(0, ⟨1, 2⟩)] := by
  have h : bytes1 2 = ((List.range 128).map fun i => Memory.read front.mem (0x1000 + i)) ++ List.replicate 8064 0 :=
    first_bytes (g := ⟨0, 0, 128, page 0, 0x1000⟩) front_unowned (by decide +kernel) rfl rfl (by decide +kernel) (by decide +kernel)
  rw [h, show ((List.range 128).map fun i => Memory.read front.mem (0x1000 + i)) = ((List.range 32).map fun i => Memory.read front.mem (0x1000 + i)) ++ List.replicate 96 0 by decide +kernel,
    List.append_assoc, List.replicate_append_replicate]
  exact one_group (by decide +kernel) (by decide +kernel) (by decide +kernel) (by decide +kernel) (by decide +kernel) (by decide +kernel)

theorem launch_passes {s : State} {die ctx : Nat} {src : LaunchSrc} {r : LRecord} {im un gr rs : List Byte} {gs : SMap Group}
    (h1 : Image.refused (imageLines im) = false) (h2 : uniformOk (r.ulen % 2 ^ 11) ((un.drop 1024).take 128) = true)
    (h3 : readGroups (s.ctxAt ctx) gr = some gs)
    (h4 : ((List.range r.count).map fun i => s.readRec ctx die 0 (fun pc => Image.headAt (imageLines im) .c pc)
      (fun g => (SMap.find gs g).isSome) ((rs.drop (64 * i)).take 64)).any (·.isNone) = false)
    (h5 : r.count ≤ (s.ctxAt ctx).poolQuota)
    (h6 : ((r.variants.filter fun v => v / 2 ^ 40 ≠ 0).any fun v => !Image.headAt (imageLines im) .c (v % 2 ^ 40)) = false)
    (h7 : r.shares ≤ (s.dieAt die).shareSize) (h8 : ((s.dieAt die).launches.filter fun p => !p.2.ended).length < 4096) (h9 : r.count ≤ (s.dieAt die).freeSlots) :
    ∃ l, s.checkLaunch die ctx src r im un gr rs = .ok l ∧ l.policy = r.policy ∧ l.recs.length ≤ (s.dieAt die).freeSlots := by
  unfold State.checkLaunch
  simp only [h1, h2, h3, h4, h6, Bool.false_eq_true, false_or, Nat.not_lt.mpr h5, Nat.not_lt.mpr h7, Nat.not_le.mpr h8, if_false, Bool.not_true]
  refine ⟨_, rfl, rfl, Nat.le_trans (List.length_filterMap_le _ _) (by simpa using h9)⟩

theorem front_uniform : uniformOk (rec1.ulen % 2 ^ 11) (((bytes1 1).drop 1024).take 128) = true := by
  have h : bytes1 1 = ((List.range 128).map fun i => Memory.read front.mem (0x400 + i)) ++ List.replicate 1024 0 :=
    first_bytes (g := ⟨0, 0, 128, page 0, 0x400⟩) front_unowned (by decide +kernel) rfl rfl (by decide +kernel) (by decide +kernel)
  rw [h, show ((List.range 128).map fun i => Memory.read front.mem (0x400 + i)) = List.replicate 128 0 by decide +kernel,
    List.replicate_append_replicate, List.drop_replicate, List.take_replicate]
  decide +kernel

theorem front_passes : ∃ l, front.checkLaunch 0 1 src0 rec1 (bytes1 0) (bytes1 1) (bytes1 2) (bytes1 3) = .ok l ∧ l.policy = 0 ∧
    l.recs.length ≤ (front.dieAt 0).freeSlots :=
  launch_passes (by decide +kernel) front_uniform front_groups (by decide +kernel) (by decide +kernel) (by decide +kernel) (by decide +kernel)
    (by decide +kernel) (by decide +kernel)

/-- The same record in a packet of peer 9. -/
def viaPacket : Packet := { (default : Packet) with src := 9, body := 1 :: (List.range 32).map fun i => BitVec.ofNat 64 (natAt (front.recordBytes src0) (8 * i) 8) }

theorem witness_Launches_records :
    (front.dieAt 0).reads = [] ∧ rec1.step1 = 0 ∧ front.launchTokens 1 rec1 = true ∧
    (front.launchExtents 1 rec1).all (fun e => (front.areaHole e.1 e.2).isNone && (front.areaNeeds [] e.1 0 e.2).isEmpty && !(e.1.parts 0 e.2).any front.movedPart) = true ∧
    (front.dieAt 0).waitingLaunches = [] ∧ SMap.sorted (front.dieAt 0).recs = true ∧
    (let r := readLaunch (front.recordBytes (.entry ⟨true, 0x300⟩))
     r.step1 = cBadKind ∧ recKind r.control ≠ 2 ∧ front.serving ⟨true, 0x300⟩ = none) ∧
    front.recordBytes (.packet viaPacket) = front.recordBytes src0 ∧ (viaPacket.body.getD 0 0).toNat % 1024 = 1 ∧
    9 ∈ ((front.modDie 0 fun d => { d with schedulers := [9] }).dieAt (packetDie viaPacket)).schedulers ∧
    (9 : Nat) ∉ (front.dieAt (packetDie viaPacket)).schedulers := by
  refine ⟨?_, ?_, ?_, ?_, ?_, ?_, ?_, ?_, ?_, ?_, ?_⟩ <;> decide +kernel

/-- A launch that waits, of one record, with an image of one line. -/
def waiting1 (lines : List (BitVec 512)) : PendingLaunch :=
  { (default : PendingLaunch) with src := src0, ctx := 1, policy := 1, lines := lines, recs := [rec0], status := 3 }
/-- The front end of die 0 with a Bench run, or with waiting launches. -/
def benching (runs : List BenchRun) (w : List PendingLaunch) : State := front.modDie 0 fun d => { d with runs := runs, waitingLaunches := w }

/-- A line of X with a static mark, which no X line may carry. -/
def badLine : BitVec 512 := 0xFFFFFFFF40000000

/-- The same launch record under policy `p`. -/
def fronting (p : Nat) : State := { front with hostMem := Memory.writeBytes front.hostMem 6 [BitVec.ofNat 8 p] }
def recOf (p : Nat) : LRecord := readLaunch ((fronting p).recordBytes src0)

theorem fronting_groups (p : Nat) : readGroups ((fronting p).ctxAt 1) (bytes1 2) = some [(0, ⟨1, 2⟩)] := front_groups

theorem fronting_uniform (p : Nat) (h : (recOf p).ulen = rec1.ulen) : uniformOk ((recOf p).ulen % 2 ^ 11) (((bytes1 1).drop 1024).take 128) = true := by
  rw [h]; exact front_uniform

theorem fronting_passes (p : Nat) (h : p = 1 ∨ p = 2 ∨ p = 3) :
    ∃ l, (fronting p).checkLaunch 0 1 src0 (recOf p) (bytes1 0) (bytes1 1) (bytes1 2) (bytes1 3) = .ok l ∧ l.policy = p ∧
      l.recs.length ≤ ((fronting p).dieAt 0).freeSlots := by
  have key : ∃ l, (fronting p).checkLaunch 0 1 src0 (recOf p) (bytes1 0) (bytes1 1) (bytes1 2) (bytes1 3) = .ok l ∧ l.policy = (recOf p).policy ∧
      l.recs.length ≤ ((fronting p).dieAt 0).freeSlots :=
    launch_passes (by decide +kernel) (fronting_uniform p (by rcases h with rfl | rfl | rfl <;> decide +kernel)) (fronting_groups p)
      (by rcases h with rfl | rfl | rfl <;> decide +kernel) (by rcases h with rfl | rfl | rfl <;> decide +kernel)
      (by rcases h with rfl | rfl | rfl <;> decide +kernel) (by rcases h with rfl | rfl | rfl <;> decide +kernel)
      (by rcases h with rfl | rfl | rfl <;> decide +kernel) (by rcases h with rfl | rfl | rfl <;> decide +kernel)
  have hp : (recOf p).policy = p := by rcases h with rfl | rfl | rfl <;> decide +kernel
  rw [hp] at key
  exact key

theorem witness_Launches_policies :
    (∀ p ∈ [1, 2, 3], (recOf p).step1 = 0 ∧ (fronting p).launchTokens 1 (recOf p) = true ∧ ((fronting p).dieAt 0).reads = [] ∧
      (fronting p).launchExtents 1 (recOf p) = front.launchExtents 1 rec1 ∧ ((fronting p).dieAt 0).bench = [] ∧ ((fronting p).dieAt 0).runs = [] ∧
      ((fronting p).dieAt 0).waitingLaunches = []) ∧
    (∀ (l : PendingLaunch) (r : Residual), let s := front.modDie 0 fun d => { d with bench := [⟨l.key, front.cacheDomain 1, r, 1, 0, 0⟩], runs := [⟨l.key, front.cacheDomain 1, [], false, 0⟩] }
      (s.dieAt 0).cached l.key (s.cacheDomain 1) = some ⟨l.key, front.cacheDomain 1, r, 1, 0, 0⟩ ∧
      (s.dieAt 0).runs.map (fun x => x.key = l.key && x.domain = s.cacheDomain 1 && !x.ended) = [true]) := by
  refine ⟨by decide +kernel, fun l r => ⟨?_, ?_⟩⟩
  · show List.find? _ [_] = _
    simp only [List.find?_cons]
    have h : (decide (l.key = l.key) && decide (front.cacheDomain 1 = front.cacheDomain 1)) = true := by simp
    rfl
  · show List.map _ [_] = _
    simp [State.cacheDomain]
    rfl

/-- The record at 0x300 is the entry that queue 3 serves. -/
def served : State :=
  { front with mgmt := { front.mgmt with queues := [(3, { (front.queue 3) with state := .mapped, kind := 1, base := ⟨true, 0x2C0⟩, n := 2, busy := true })] } }

theorem witness_Launches_served : served.serving ⟨true, 0x300⟩ = some 3 ∧ (served.queue 3).base.host = true := by decide +kernel
theorem test_served_entry_ends :
    next (exec (.launchRecord 0 1 ⟨true, 0x300⟩) served) (fun t => Memory.read t.hostMem 0x358 = 0x10 && Memory.read t.hostMem 0x2C8 = 1 &&
      (t.queue 3).head = 1 && !(t.queue 3).busy && t.events.contains (.threadWake 3)) = true := by decide +kernel

/-- A cache whose every chunk belongs to one pinned entry. -/
def fullBench : List BenchEntry := [⟨5, 0, default, 8192, 1, 0⟩]

theorem witness_Launches_full :
    (∃ q, BenchIn.specialise ⟨[0], [], [], 0⟩ = .ok q ∧ makeRoom q.chunks 4096 fullBench = none) ∧
    ({ waiting1 [0] with policy := 2 } : PendingLaunch).src = .entry ⟨true, 0⟩ :=
  ⟨⟨(answer (BenchIn.specialise ⟨[0], [], [], 0⟩)).getD default, answer_getD (by decide +kernel), by decide +kernel⟩, by decide⟩

theorem test_declined_under_policy_2 :
    next (exec (.benchWaitEnd 0) (benching [⟨7, 0, [{ waiting1 [badLine] with policy := 2 }], false, 0⟩] [])) (fun t =>
      Memory.readNat t.hostMem 0x58 2 = 0x117 && (t.dieAt 0).launches.length = (front.dieAt 0).launches.length) = true := by decide +kernel

theorem witness_Launches_waits :
    (∀ l ∈ [waiting1 [badLine], waiting1 [0]],
      let s := benching [⟨7, 0, [l], false, 0⟩] []
      (s.dieAt 0).runs = [⟨7, 0, [l], false, 0⟩] ∧ (s.dieAt 0).waitingLaunches = [] ∧ l.recs.length ≤ (s.dieAt 0).freeSlots ∧ l.policy ≠ 2 ∧
        l.residual = none ∧ (s.dieAt 0).cached l.key 0 = none) ∧
    BenchIn.specialise ⟨[badLine], [], [], 0⟩ = .error 1 ∧
    (∃ q, BenchIn.specialise ⟨[0], [], [], 0⟩ = .ok q ∧ makeRoom q.chunks 4096 ((benching [] []).dieAt 0).bench = some []) ∧
    (let s := benching [] [waiting1 [0]]
     (s.dieAt 0).waitingLaunches = [waiting1 [0]] ∧ (waiting1 [0]).recs.length ≤ (s.dieAt 0).freeSlots) := by
  refine ⟨by decide +kernel, refusal_eq (by decide +kernel), ?_, by decide +kernel⟩
  exact ⟨(answer (BenchIn.specialise ⟨[0], [], [], 0⟩)).getD default, answer_getD (by decide +kernel), by decide +kernel⟩

theorem witness_Launches_appends :
    let a : QAddr := ⟨true, 0x200⟩
    let e := entryOf (page 0)
    let b := front.recordBytes (.entry a)
    let q : Nat → Nat := fun o => natAt b o 8
    q 0 = 2 * 2 ^ 56 ∧ q 8 = (tokOf 1).toNat ∧ q 0x18 = (tokOf 1).toNat ∧ q 0x28 = 1 ∧ q 0x10 = 0x900 ∧ q 0x20 = 0x4000 ∧
    ((b.drop 0x30).take 0x28 ++ b.drop 0x60).all (· = 0) = true ∧ front.serving a = none ∧ (front.dieAt 0).reads = [] ∧
    natAt (front.areaBytes [] (e.areaAt 0x900 64) 16 1) 0 1 % 32 = 1 ∧ natAt (front.areaBytes [] (e.areaAt 0x900 64) 0 8) 0 8 = 0 ∧
    natAt (front.areaBytes [] (e.areaAt 0x900 64) 8 8) 0 8 = 0 ∧
    front.checkCab 1 (tokOf 1) 0x900 64 (needR ||| needW) = .ok e ∧ front.checkCab 1 (tokOf 1) 0x4000 64 needR = .ok e ∧
    front.checkCab 1 (tokOf 1) 0x900 192 (needR ||| needW) = .ok e ∧
    (∀ x ∈ e.elemSegs 0 0x900 8, plainPart front x) ∧ (e.elemSegs 0 0x900 8).map (fun x => homeDie x.addr) = [0] ∧
    (∀ x ∈ (e.areaAt 0x900 192).ent.elemSegs 0 0 192, plainPart front x) ∧ (∀ x ∈ (e.areaAt 0x4000 64).ent.elemSegs 0 0 64, plainPart front x) ∧
    front.areaNeeds [] (e.areaAt 0x4000 64) 0 64 = [] ∧ ((e.areaAt 0x900 192).ent.elemSegs 0 8 8).length = 1 ∧
    (∀ x ∈ (e.areaAt 0x900 192).ent.elemSegs 0 8 8, plainPart front x) ∧ tidy front ∧
    (9 : Nat) ∉ (front.dieAt 0).schedulers := by
  refine ⟨?_, ?_, ?_, ?_, ?_, ?_, ?_, ?_, ?_, ?_, ?_, ?_, answer_eq ?_, answer_eq ?_, answer_eq ?_, plain_all ?_, ?_, plain_all ?_, plain_all ?_,
    ?_, ?_, plain_all ?_, tidy_of ?_, ?_⟩ <;> decide +kernel

theorem test_feed_append : next (exec (.feedAppend 0 1 ⟨true, 0x200⟩) front) (fun t => Memory.read t.mem 0x908 = 1 && Memory.read t.mem 0x940 = 8) = true := by
  decide +kernel
theorem test_launch_bad_kind : next (exec (.launchRecord 0 1 ⟨true, 0x300⟩) front) (fun t => Memory.read t.hostMem 0x358 = 0x10) = true := by
  decide +kernel

/-- A at the first slot of a line that it does not hold yet. -/
def unfetched (fell : Bool) (s : State) : State :=
  with0 (fun c => { c with sc := { c.sc with line := none, fell := fell }, sa := { c.sa with started := true, pc := 8, line := none } }) s

theorem witness_LineFetches :
    let s := unfetched false front
    let c := s.coreAt 0
    (∀ st ∈ [Stream.c, .a], c.mode = .running ∧ (c.stream st).awaiting = none ∧ (c.stream st).line = none ∧ (c.stream st).fell = false ∧
      (c.stream st).residual = false ∧ (c.stream st).pc.toNat / 64 * 64 = 0) ∧
    ((unfetched true front).coreAt 0).sc.fell = true ∧ ((unfetched true front).coreAt 0).sc.awaiting = none ∧
    s.launchAt c.launchDie c.launch = some { launch0 with image := tokOf 3 } ∧
    s.checkOn 0 c.ctx (tokOf 3) 0 64 needX = .ok { entryOf (page 0) with length := 128 } ∧ keepsEntries c c.ctx (tokIndex (tokOf 3)) ∧
    (∀ g ∈ ({ entryOf (page 0) with length := 128 } : CabEntry).elemSegs 0 0 64, plainPart s g) ∧
    (List.range 64).all (fun i => Memory.read s.mem i = 0) = true ∧ ((0 : BitVec 512).extractLsb' 29 3).toNat = streamCode .c ∧
    ((0 : BitVec 512).extractLsb' 29 3).toNat ≠ streamCode .a := by
  refine ⟨?_, ?_, ?_, ?_, answer_eq ?_, keeps_of ?_, plain_all ?_, ?_, ?_, ?_⟩ <;> decide +kernel

theorem test_line_fetch : next (exec (.lineFetch 0 .c) (unfetched false front)) (fun t => (t.coreAt 0).sc.line = some 0) = true := by decide +kernel
theorem test_line_fetch_stream : next (exec (.lineFetch 0 .a) (unfetched false front)) (fun t => t.cur.cont.cause = 0x1000000000000201 &&
    t.cur.cont.epc = 8) = true := by decide +kernel

/-! ### Witnesses: packets -/

/-- A state whose peer 9 is reached over link 5, which is up. -/
def linked : State :=
  { front with fab := { front.fab with routes := [(9, 0x8000000000000005)], links := [(5, { (front.link 5) with up := true, far := 9 })] } }

/-- Peer 9 reads line 32, or writes the bytes of a mask in it. -/
def readP : Packet := { (default : Packet) with kind := 0, src := 9, line := 32, sect := 3 }
def writeP : Packet := { (default : Packet) with kind := 1, src := 9, line := 32, sect := 1, mask := 0xF0, data := 0x0102030405060708 }
/-- Peer 9 asks for an atomic addition of 3 to the eight bytes at line 32, byte 32. -/
def amoP (id : Nat) : Packet := { (default : Packet) with kind := 2, src := 9, line := 32, op := 16 * 8, id := id, body := [32, 3, 0, 1] }
/-- The home has newest accepted `n` of that source, and the reply to its request 4. -/
def replied (n : Nat) : State :=
  { linked with fab := { linked.fab with accepted := [(9 * 4, n)], replies := [⟨9, 0, 4, { (default : Packet) with kind := 4, dst := 9 }⟩] } }

theorem witness_HomePackets :
    tidy linked ∧ isMapped (32 * 128) = true ∧ linked.gate 32 = .here ∧ bodyFrom readP = 0 ∧ bodyFrom writeP = 0 ∧ linked.homes.migThreshold = 0 ∧
    wordBundle (bodyWord readP 2) = false ∧ wordBundle (bodyWord writeP 2) = false ∧
    (let p : Packet := { readP with body := [BitVec.allOnes 64, 7, 2 ^ 16] }
     let s : State := { linked with homes := { linked.homes with complete := 7, bLines := [(32, ⟨5, 9, 0x55, 0, 0, 0, false, none, 0, 0⟩)] } }
     wordBundle (bodyWord p 2) = true ∧ (s.settle p.line).viewWaits p.line (packetView p) (bodyBundle p) = false ∧
       ((s.settle p.line).bLine p.line).visible (bodyBundle p) (packetView p) = some (0x55, 0)) ∧ bodyWord readP 4 = 0 ∧ bodyWord writeP 4 = 0 := by
  refine ⟨tidy_of ?_, ?_, ?_, ?_, ?_, ?_, ?_, ?_, ?_, ?_⟩ <;> decide +kernel

theorem witness_NumberedRequests :
    let p := amoP 4
    packetReduce p = false ∧ tidy (replied 4) ∧ bodyFrom p = 0 ∧ 64 ≤ distance ((replied 68).fab.newest 9 0) 4 ∧
    distance ((replied 4).fab.newest 9 0) 4 < 64 ∧ ((replied 4).fab.cached 9 0 4).isSome = true ∧
    distance (linked.fab.newest 9 0) 4 < 64 ∧ linked.fab.cached 9 0 4 = none ∧ isMapped (32 * 128) = true ∧ linked.gate 32 = .here ∧
    linked.homes.migThreshold = 0 ∧ numberedCode p < 12 ∧ bodyWord p 0 + numberedSize p ≤ 128 ∧ 0 < numberedSize p ∧ bodyWord p 0 < 128 ∧
    poisonHit (linked.homePoison p.line) (numberedAddr p % 128) (numberedSize p) = false := by
  refine ⟨?_, tidy_of ?_, ?_, ?_, ?_, ?_, ?_, ?_, ?_, ?_, ?_, ?_, ?_, ?_, ?_, ?_⟩ <;> decide +kernel

theorem test_write_packet : next (exec (.writePacket writeP) linked) (fun t => Memory.read t.mem 0x1004 = 4 && Memory.read t.mem 0x1000 = 1) = true := by
  decide +kernel
theorem test_atomic_packet : next (exec (.atomicPacket (amoP 4)) linked) (fun t => Memory.read t.mem 0x1020 = 3) = true := by decide +kernel
theorem test_atomic_packet_old : next (exec (.atomicPacket (amoP 4)) (replied 68)) (fun t => t.mem = linked.mem) = true := by decide +kernel

/-- The fetch of the line at 0 of an image whose first page lies at peer 9. -/
def fetch9 : Fetch := ⟨0, 1, [⟨0, 0, 64, { page 0 with peer := 9, mode := 1 }, 32 * 128⟩], [(9, 32)], []⟩

/-- C awaits the line of its PC from peer 9; a record waits for a word there; and request 6 of die 0 is a signal update of entry 1 of
context 1. -/
def awaits : State :=
  let s := linked.modDie 0 fun d => { d with recs := [(0, rec0), (1, { rec0 with state := .waiting, wait := .signal 1 1 25 (32 * 128 + 8) 5 0 3 8 })] }
  let s := with0 (fun c => { c with sc := { c.sc with line := none, awaiting := some fetch9 } }) s
  { s with fab := { s.fab with outstanding := [⟨{ (amoP 6) with dst := 9, src := 0 }, 0, [2, 1, 1]⟩] } }
/-- Replies of peer 9. -/
def replyP (op id : Nat) (body : List W64) : Packet := { (default : Packet) with kind := 4, src := 9, line := 32, op := op, id := id, body := body }
/-- Management packets of peer 9. -/
def mgmtP (op id : Nat) : Packet := { (default : Packet) with kind := 7, src := 9, op := op, id := id }
/-- The management side has taken packets up to 4 and answered that one; its own packet 2 to peer 9 waits. -/
def managed (n : Nat) : State :=
  { linked with fab := { linked.fab with
    mgmtAccepted := [(9, n)], mgmtReplies := [⟨9, 0, 4, { (default : Packet) with kind := 7, dst := 9 }⟩],
    mgmtOut := [⟨{ (default : Packet) with kind := 7, dst := 9, id := 2 }, 0, []⟩] } }

theorem witness_RepliesAndManagement :
    (let s := awaits
     let p := replyP 0 0 [0, 2]
     let v := (s.coreAt (packetCore p)).stream .c
     let w : BitVec 512 := BitVec.ofNat 512 (natOfBytes (s.fetchBytes { fetch9 with await := [], got := [gotOf p] }))
     bodyWord p 8 = 0 ∧ p.sstr ≠ 2 ∧ fetchStream (bodyWord p 1) = some .c ∧ v.awaiting = some fetch9 ∧ fetch9.await = [(p.src, p.line)] ∧
     lineOf v.pc = fetch9.pc ∧ s.isRemote { page 0 with peer := 9, mode := 1 } = true ∧ (w.extractLsb' 29 3).toNat = streamCode .c ∧
     w.extractLsb' 24 4 = 0 ∧ w.getLsbD 28 = v.residual) ∧
    (awaits.recAt 0 1).map (fun r => (r.state, r.wait)) = some (.waiting, .signal 1 1 25 (32 * 128 + 8) 5 0 3 8) ∧ lineNo (32 * 128 + 8) = 32 ∧ bodyWord (replyP 3 0 [7, 0, 1]) 1 = 0 ∧ bodyWord (replyP 3 0 [7, 0, 1]) 1 ≠ 4 ∧ bodyWord (replyP 3 0 [7, 0, 1]) 2 = 1 ∧
    (awaits.fab.numbered 9 0 6).map (·.tag) = some [2, 1, 1] ∧ awaits.fab.held = [] ∧
    (distance 4 5 < 64 ∧ ((managed 4).fab.mgmtReplies.find? fun q => q.peer = 9 && q.id = 5) = none ∧ (managed 4).fab.reconf = .run) ∧
    (distance 4 4 < 64 ∧ ((managed 4).fab.mgmtReplies.find? fun q => q.peer = 9 && q.id = 4).map (·.reply.kind) = some 7) ∧
    64 ≤ distance 68 4 ∧ ((managed 4).fab.management 9 2).isSome = true ∧ (∀ x ∈ (managed 4).fab.mgmtOut, some x = (managed 4).fab.management 9 2) ∧ (∀ d, ((managed 4).dieAt d).forwards = []) := by
  refine ⟨?_, ?_, ?_, ?_, ?_, ?_, ?_, ?_, ?_, ?_, ?_, ?_, ?_, fun d => ?_⟩
  case refine_14 =>
    match d with
    | 0 => rfl
    | n + 1 => rfl
  all_goals decide +kernel

/-- C has asked peer 9 for an atomic under number 6. -/
def asked (tries : Nat) : State :=
  let r := { hc.newReq (.aadd (fx 5 1 1 0 0 3)) 0 0 0 0 .none .none with checked := true, sent := true, id := some 6, peer := 9, await := [(9, 32)] }
  let s := with0 (fun c => { c with reqs := [r], cwait := .request }) linked
  { s with fab := { s.fab with budget := 3, outstanding := [⟨{ (amoP 6) with dst := 9, src := 0 }, tries, []⟩] } }

theorem witness_ForwardingAndResends :
    packetIllegal readP = false ∧ readP.dst = linked.ownPeer ∧ readP.src ≠ linked.ownPeer ∧
    (let q := { readP with dst := 9, src := 3 }
     q.dst ≠ linked.ownPeer ∧ linked.fab.lit = true ∧ (linked.linkOf q).isSome = true ∧ q.hops + 1 ≤ 15 ∧ mergeable linked.fab.out q = none ∧ packetSender q ≠ linked.ownPeer ∧
     packetIllegal q = false ∧ 15 < ({ q with hops := 15 } : Packet).hops + 1 ∧ (linked.linkOf { q with dst := 8 }).isNone = true ∧ q.kind ≠ 4) ∧
    packetSender { readP with dst := 9, src := 0 } = linked.ownPeer ∧ packetSender readP ≠ linked.ownPeer ∧
    (let q : Packet := { writeP with dst := 9, src := 3 }
     let e : Packet := { q with hops := 1, mask := 0xF }
     mergeable [e] { q with hops := q.hops + 1 } = some e ∧ packetIllegal q = false) ∧
    ((asked 0).fab.numbered 9 0 6).map (·.tries) = some 0 ∧ (0 : Nat) < (asked 0).fab.budget ∧ (asked 0).hasRoute 9 = true ∧
    ((asked 3).fab.numbered 9 0 6).map (·.tries) = some (asked 3).fab.budget ∧
    (({ (asked 0) with fab := { (asked 0).fab with routes := [] } } : State).hasRoute 9 = false) ∧
    (let s := asked 3
     let c := s.coreAt 0
     packetStream { (amoP 6) with dst := 9, src := 0 } = .c ∧ packetCore { (amoP 6) with dst := 9, src := 0 } = 0 ∧ (c.firstReq .c).isSome = true ∧
     (s.waiterOf .c 9 0 6).map (·.1) = some 0 ∧ c.frozen = [] ∧ c.inside = none ∧ (s.fab.numbered 9 0 6).map (·.tag) = some [] ∧ c.cont.th = false ∧ c.saving = none ∧ c.mode = .running ∧ c.cont.tvec.getLsbD 63 = true ∧
     s.residualOf 0 = none ∧ c.pendC = none) := by
  refine ⟨?_, ?_, ?_, ?_, ?_, ?_, ?_, ?_, ?_, ?_, ?_, ?_, ?_⟩ <;> decide +kernel

theorem test_unresolved : next (exec (.requestUnresolved 9 0 6) (asked 3)) (fun t => t.cur.cont.aretry = 0x8000000000090006 &&
    t.cur.cont.cause % 256 = 6) = true := by decide +kernel

/-! ### Witnesses: links and reconfiguration -/

/-- Link 5 of die 0 changed. -/
def wire (f : Link → Link) : State := { linked with fab := { linked.fab with links := [(5, f { (front.link 5) with up := true, far := 9 })] } }
/-- A data flit of number `seq`, with its check. -/
def flitOf (seq : Nat) : BitVec 512 := BitVec.ofNat 512 (seq * 2 ^ 448 + crc32 (bytesOf 60 (seq * 2 ^ 448)) * 2 ^ 480)
/-- Two flits wait for their acknowledgement. -/
def replays : List (Nat × BitVec 512 × List W64) := [(3, 1, []), (4, 2, [])]

/-- The flit of a read to peer 9 waits on link 5 for its acknowledgement; link 6 goes there too. -/
def parting : State :=
  let s := wire fun l => { l with replay := [(3, dataFlitOf (bytesOf 16 (packetHeader { readP with dst := 9, src := 0 })) 3 0, [])] }
  { s with fab := { s.fab with routes := [(9, 0x8000001000000C05)], links := s.fab.links ++ [(6, { (front.link 5) with up := true, far := 9 })] } }

theorem witness_Flits :
    linkKey 0 5 = 5 ∧ linked.fab.lit = true ∧ flitGood (flitOf 7) = true ∧ (flitOf 7).getLsbD 479 = false ∧ ((flitOf 7).extractLsb' 448 15).toNat = 7 ∧
    ((wire fun l => { l with recvSeq := 7 }).link 5).recvSeq % 2 ^ 15 = 7 ∧ (wire id).fab.out = [] ∧
    256 < (307 + 2 ^ 15 - 7) % 2 ^ 15 ∧ ((wire fun l => { l with recvSeq := 307 }).link 5).recvSeq = 307 ∧
    flitGood 1 = false ∧
    ((wire fun l => { l with replay := replays }).link 5).replay = [] ++ (3, 1, []) :: [(4, 2, [])] ∧ ((wire id).link 5).replays < 16 ∧
    ((wire fun l => { l with replay := replays }).link 5).replay = [(3, 1, [])] ++ (4, 2, []) :: [] ∧
    diff16 1 (SMap.get 0 linked.fab.freed (pairOf 9 0)) ≤ diff16 (SMap.get 0 [(pairOf 9 0, 2)] (pairOf 9 0)) (SMap.get 0 linked.fab.freed (pairOf 9 0)) ∧
    SMap.get 0 [(pairOf 9 0, 2)] (pairOf 9 0) ≠ SMap.get 0 linked.fab.emptied (pairOf 9 0) ∧ ((wire id).link 5).up = true ∧
    (∀ p ∈ (wire id).fab.links, p.2.up = true) ∧ (parting.link 5).up = true ∧ (∀ p ∈ parting.fab.links, p.2.up = true) ∧
    parting.nextLink 5 = some 6 ∧ parting.fab.out = [] ∧ parting.fab.marking = [] := by
  decide +kernel

theorem witness_Duplicates :
    let l := (wire fun l => { l with recvSeq := 8 }).link 5
    0 < (l.recvSeq + 2 ^ 15 - 7) % 2 ^ 15 ∧ (l.recvSeq + 2 ^ 15 - 7) % 2 ^ 15 ≤ 256 ∧ l.recvSeq < 2 ^ 15 ∧
    diff16 3 (SMap.get 0 [(pairOf 9 0, 2)] (pairOf 9 0)) < 2 ^ 15 ∧ 0 < diff16 3 (SMap.get 0 [(pairOf 9 0, 2)] (pairOf 9 0)) ∧
    (5, (wire id).link 5) ∈ (wire id).fab.links ∧ ((wire id).link 5).far = 9 := by decide +kernel

theorem test_duplicate : next (exec (.dataFlit 0 5 (flitOf 7) []) (wire fun l => { l with recvSeq := 8 })) (fun t => (t.link 5).recvSeq = 8 &&
    (t.link 5).asked = none && t.fab.tx.length = 1) = true := by decide +kernel

theorem test_flit : next (exec (.dataFlit 0 5 (flitOf 7) []) (wire fun l => { l with recvSeq := 7 })) (fun t => (t.link 5).recvSeq = 8) = true := by
  decide +kernel
theorem test_flit_bad : next (exec (.dataFlit 0 5 1 []) (wire id)) (fun t => (t.link 5).asked = some 0 && t.fab.tx.length = 1) = true := by decide +kernel

/-- The control flits that acknowledge flit 3, and that return a slot to this chip or to peer 3. -/
theorem witness_ControlFlits :
    (∀ src ∈ [0, 3], let c := controlFlitOf ⟨[(src, 9, 0, 1)], [], 3, none⟩
     flitGood c = true ∧ c.getLsbD 479 = true ∧ controlOf c = ⟨[(src, 9, 0, 1)], [], 3, none⟩) ∧
    (let c := controlFlitOf ⟨[], [], 3, none⟩
     flitGood c = true ∧ c.getLsbD 479 = true ∧ controlOf c = ⟨[], [], 3, none⟩) ∧
    (wire id).ownPeer = 0 ∧ (wire id).fab.marking = [] ∧
    ({ (wire id) with fab := { (wire id).fab with routes := [(3, 0x8000000000000005), (9, 0x8000000000000005)] } } : State).linkToward 3 = some 5 := by
  decide +kernel

theorem test_control_flit_frees :
    next (exec (.controlFlit 0 5 (controlFlitOf ⟨[(0, 9, 0, 1)], [], 3, none⟩)) (let s := wire fun l => { l with replay := replays }
      { s with fab := { s.fab with sent := [(pairOf 9 0, 2)] } })) (fun t =>
      SMap.get 0 t.fab.freed (pairOf 9 0) = 1 && (t.link 5).replay = [(4, 2, [])]) = true := by decide +kernel

/-- Wavelength 2 of link 5 in a state. -/
def waves (st : WaveState) (attempts : Nat) (due : Bool) (away : Bool := false) : State :=
  wire fun l => { l with waves := [(2, ⟨st, due, attempts, 0⟩)] ++ if away then [(3, ⟨.retrain, false, 0, 0⟩)] else [] }

theorem witness_Wavelengths :
    (∀ st a d, ((waves st a d).link 5).wave 2 = ⟨st, d, a, 0⟩) ∧ (2 : Nat) < 16 ∧ (3 : Nat) ≤ 3 ∧ linked.fab.errLimit < linked.fab.errLimit + 1 ∧
    ((waves .active 0 false true).link 5).away = true ∧ ((waves .active 0 false).link 5).away = false ∧
    ((waves .active 0 false true).link 5).wave 2 = ⟨.active, false, 0, 0⟩ ∧ (waves .retrain 1 false).fab.reconf ≠ .relock :=
  ⟨fun _ _ _ => rfl, by decide +kernel⟩

theorem test_wave_leaves : next (exec (.errorWindowEnd 0 5 2 (linked.fab.errLimit + 1)) (waves .active 0 false)) (fun t =>
    ((t.link 5).wave 2).state = .leaving) = true := by decide +kernel
theorem test_third_failure_is_tested : next (exec (.trainingAttemptFail 0 5 2) (waves .retrain 2 false)) (fun t =>
    t.events.any fun e => match e with
      | .selfTest 3 5 _ => true
      | _ => false) = true := by decide +kernel
theorem test_wave_retires : next (exec (.trainingAttemptFail 0 5 2) (waves .retrain 2 false)) (fun t => ((t.link 5).wave 2).state = .retired) = true := by
  decide +kernel

/-- A plan of one group, of chips 0 and 9, at 0x20000: group 1, manager 0, sequencer 9, allowance 4. -/
def planned : State :=
  { linked with
    mem := [(0x20000, 1), (0x20003, 0x90), (0x20005, 4), (0x20008, 1), (0x20009, 2)]
    fab := { linked.fab with members := [0, 9], manager := 0 } }

theorem planned_plan : planned.readPlan 0x20000 1 = [⟨0x40090000001, [0, 9]⟩] := by
  have hu : ∀ l, planned.lineOwner l = none := fun _ => rfl
  have hg : ∀ k, k < 512 → (planned.physBytes (0x20000 + 520 * 0 + 8) 512).getD k 0 = Memory.read planned.mem (0x20008 + k) := fun k hk => by
    rw [physBytes_of_unowned _ _ _ hu, List.getD_eq_getElem?_getD, List.getElem?_map, List.getElem?_range hk]; rfl
  have hz : ∀ k, 2 ≤ k → Memory.read planned.mem (0x20008 + k) = 0 := fun k hk => read_unlisted _ _ fun p hp => by
    simp only [planned, List.mem_cons, List.not_mem_nil, or_false] at hp
    rcases hp with rfl | rfl | rfl | rfl | rfl <;> simp only [ne_eq] <;> omega
  have hf : (List.range 4096).filter (fun p => bitOf ((planned.physBytes (0x20000 + 520 * 0 + 8) 512).getD (p / 8) 0).toNat (p % 8)) =
      (List.range 16).filter fun p => bitOf (Memory.read planned.mem (0x20008 + p / 8)).toNat (p % 8) := by
    rw [show (4096 : Nat) = 16 + 4080 from rfl, List.range_add, List.filter_append,
      List.filter_eq_nil_iff (l := (List.range 4080).map _) |>.mpr, List.append_nil]
    · exact List.filter_congr fun p hp => by rw [hg _ (by have := List.mem_range.mp hp; omega)]
    · intro p hp
      obtain ⟨q, hq, rfl⟩ := List.mem_map.mp hp
      have := List.mem_range.mp hq
      rw [hg _ (by omega), hz _ (by omega)]
      simp [bitOf]
  refine (congrArg (fun m => [NewGroup.mk (planned.physNat (0x20000 + 520 * 0) 8) m]) hf).trans ?_
  decide +kernel

/-- A command with its quads. -/
def cmdOf (q : List W64) : Cmd := ⟨0x0 :: q, ⟨true, 0x400⟩⟩
/-- The fabric in a state of a reconfiguration. -/
def fab (f : Fabric → Fabric) : State := { linked with fab := f linked.fab }
/-- This chip's part of that plan. -/
def plan9 : RoutesPlan := ⟨1, [0, 9], 0, 9, 1, 4, []⟩

theorem witness_Reconfiguration :
    (let c := cmdOf [1, 0x20000]
     cmdZero c [1, 2] = true ∧ cmdQuad c 1 = 1 ∧ cmdQuad c 2 = 0x20000 ∧ isMapped 0x20000 = true ∧ isMapped (0x20000 + 520 * 1 - 1) = true ∧
       planned.fab.reconf = .run) ∧
    planned.planRefused (planned.cmdPlan (cmdOf [1, 0x20000])) = false ∧
    linked.fab.reconf = .run ∧ (fab fun b => { b with reconf := .hold }).answered = true ∧
    (fab fun b => { b with reconf := .hold, outstanding := [⟨readP, 0, []⟩] }).answered = false ∧
    (let s := fab fun b => { b with reconf := .drain, links := [] }
     s.drainedLinks = true ∧ s.slotsBack = true ∧ (fab fun b => { b with reconf := .drain, sent := [(pairOf 9 0, 1)] }).slotsBack = false) ∧ (fab fun b => { b with reconf := .drain }).drainedLinks = false ∧
    (fab fun b => { b with reconf := .dark }).mgmt.linkFallback = 0 ∧ (fab fun b => { b with reconf := .relock }).fab.timedOut = false ∧
    (∀ k ∈ (fab fun b => { b with reconf := .relock }).fab.expected plan9.members, ((fab fun b => { b with reconf := .relock }).link k).up = true) ∧
    (let s := fab fun b => { b with reconf := .routes }
     s.mgmt.noticeWords = [] ∧ s.fab.out = [] ∧ s.fab.held = [] ∧ s.fab.reconfCmd = none ∧ s.fab.plan = none ∧ s.fab.undelivered = [] ∧ s.fab.mgmtOut = [] ∧ s.fab.marking = []) := by
  refine ⟨by decide +kernel, ?_, by decide +kernel⟩
  rw [State.cmdPlan, show cmdQuad (cmdOf [1, 0x20000]) 2 = 0x20000 from rfl, show cmdQuad (cmdOf [1, 0x20000]) 1 = 1 from rfl, planned_plan]
  decide +kernel

theorem test_reconfig_drain : next (exec .reconfigDrain (fab fun b => { b with reconf := .hold, links := [] })) (fun t => t.fab.reconf = .drain) = true := by decide +kernel
theorem test_reconfig_routes : next (exec (.reconfigRoutes plan9) (fab fun b => { b with reconf := .relock })) (fun t => t.fab.reconf = .routes &&
    t.homes.sequencer = some 9) = true := by decide +kernel

/-! ### Witnesses: the host -/

/-- Queue 3, of kind `kind` at 0x1000 of the host's memory, with `tail` entries published. -/
def queue3 (kind tail : Nat) (f : Queue → Queue := id) : State :=
  { linked with
    hostMem := (if tail = 0 then [] else [(0x1000, BitVec.ofNat 8 tail)]) ++ [(0x1040, 2)] ++ (if kind = 1 then [(0x1047, 2)] else [(0x1048, 1)])
    mgmt := { linked.mgmt with queues := [(3, f { (linked.queue 3) with state := .mapped, kind := kind, die := 0, ctx := 1, base := ⟨true, 0x1000⟩, n := 2, pending := true })] } }
/-- The command that maps queue 3 for launches of context 1 on die 0, and the one that parks it. -/
def mapCmd : Cmd := cmdOf [3 + 1 * 2 ^ 8 + 1 * 2 ^ 16, 0x2000, 2]
def parkCmd : Cmd := cmdOf [3]

theorem witness_QueuesAndHostPort :
    (3 : Nat) < 32 ∧
    (let s := queue3 1 0
     (s.queue 3).state = .mapped ∧ (s.queue 3).busy = false ∧ (s.queue 3).pending = true ∧ s.qNat (s.queue 3).base 8 = (s.queue 3).head) ∧
    (let s := queue3 1 1
     s.qNat (s.queue 3).base 8 ≠ (s.queue 3).head ∧ (s.queue 3).kind = 1 ∧ recKind (s.qNat ((s.queue 3).entryAt 0) 8) = 2) ∧
    (let s := queue3 0 1
     let c := s.readCmd ((s.queue 3).entryAt 0)
     s.qNat (s.queue 3).base 8 ≠ (s.queue 3).head ∧ (s.queue 3).kind = 0 ∧ cmdOp c ≠ 0x0B ∧ cmdEvent c (s.messageKey c) = some (.destroyContext c)) ∧
    ((queue3 1 0 fun v => { v with state := .parked }).queue 3).state = .parked ∧
    (queue3 0 1 fun v => { v with busy := true }).serving ⟨true, 0x1040⟩ = some 3 ∧
    (let c := mapCmd
     cmdQuad c 1 % 32 = 3 ∧ cmdZero c [1, 2, 3] = true ∧ cmdQuad c 1 / 2 ^ 5 % 8 = 0 ∧ cmdQuad c 1 / 2 ^ 8 % 4 ≤ 1 ∧ cmdQuad c 1 / 2 ^ 10 % 4 = 0 ∧
       cmdQuad c 1 / 2 ^ 14 % 4 = 0 ∧ cmdQuad c 1 / 2 ^ 26 = 0 ∧ cmdQuad c 2 % 64 = 0 ∧ cmdQuad c 3 / 2 ^ 4 % 2 ^ 59 = 0 ∧ cmdQuad c 3 % 16 = 2 ∧
       linked.ctxLive (cmdQuad c 1 / 2 ^ 16 % 2 ^ 10) = true ∧ (linked.queue 3).state = .unmapped ∧ qUnmapped ⟨true, 0x2000⟩ (64 + 256 * 2 ^ 2) = false) ∧
    cmdZero parkCmd [1] = true ∧ cmdQuad parkCmd 1 = 3 ∧
    linked.tdi 4 = .configUnlocked ∧ (linked.queue 3).saved = none ∧
    (let s := queue3 1 0 fun v => { v with awake := true, pending := true }
     (s.queue 3).awake = true ∧ (s.queue 3).pending = true) ∧
    (let s := { linked with mgmt := { linked.mgmt with queues := [(3, { (linked.queue 3) with saved := some (1, 2) })] } }
     (s.queue 3).saved = some (1, 2) ∧ (s.queue 3).state = .unmapped) ∧
    (∀ st, ({ linked with mgmt := { linked.mgmt with tdis := [(4, st)] } } : State).tdi 4 = st) := by
  refine ⟨?_, ?_, ?_, ?_, ?_, ?_, ?_, ?_, ?_, ?_, ?_, ?_, ?_, fun st => rfl⟩ <;> decide +kernel

/-- TDI 4, to which context 1 and queue 3 belong, is in RUN on stream 2. -/
def secured : State :=
  let s := with1 (fun x => { x with tdi := 4 }) (queue3 1 0)
  { s with mgmt := { s.mgmt with tdis := [(4, .run)], tdiStreams := [(4, 2)] } }
/-- A write of eight bytes through the host port. -/
def portWrite (tdi : Nat) (tbit : Bool) (stream : Option Nat) (host : Bool) (a : Nat) : HostRequest := ⟨tdi, tbit, stream, host, a, some (bytesOf 8 5), 8⟩

theorem witness_HostPort :
    secured.tdi 4 = .run ∧ SMap.find secured.mgmt.tdiStreams 4 = some 2 ∧ secured.tdi 5 ≠ .run ∧ (secured.queue 3).state ≠ .unmapped ∧
    (secured.ctxAt (secured.queue 3).ctx).tdi = 4 ∧ 0xFF00001000 + 8 * 3 = 0xFF00001018 ∧
    (∃ p ∈ secured.ctxs, p.2.live = true ∧ secured.ctxHolds p.1 0x40 = true ∧ p.2.tdi = 4) := by decide +kernel

/-- A request to TDI 4 without the T bit, one to its queue, one on another stream to its memory; and one that it takes. -/
theorem test_port_drops :
    [portWrite 4 false (some 2) true 0x40, portWrite 5 true (some 2) false 0xFF00001018, portWrite 5 true (some 3) false 0x40,
      portWrite 4 true (some 2) false 0x40].map (fun r => next (exec (.hostPortRequest r) secured) fun t => SMap.get 0 t.mgmt.tdiDropped 4 = 1) =
      [true, false, true, false] := by decide +kernel
theorem test_late_wake : next (exec (.threadWake 3) (queue3 1 0 fun v => { v with awake := true, pending := true })) (fun t => (t.queue 3).pending &&
    !(t.queue 3).awake && t.events = [.threadWake 3]) = true := by decide +kernel
theorem test_remapped_head : next (exec (.mapQueue mapCmd) { linked with mgmt := { linked.mgmt with queues := [(3, { (linked.queue 3) with saved := some (1, 2) })] } })
    (fun t => (t.queue 3).head = 1 && (t.queue 3).saved = none && Memory.read t.hostMem 0x2008 = 1) = true := by decide +kernel
theorem test_lock_names_stream : next (exec (.tdispRequest 4 (.lock 2)) linked) (fun t => t.tdi 4 = .configLocked && SMap.find t.mgmt.tdiStreams 4 = some 2) = true := by
  decide +kernel

theorem test_thread_wake : next (exec (.threadWake 3) (queue3 1 1)) (fun t => (t.queue 3).busy && !(t.queue 3).pending) = true := by decide +kernel
theorem test_map_queue : next (exec (.mapQueue mapCmd) linked) (fun t => (t.queue 3).state = .mapped && (t.queue 3).base = ⟨true, 0x2000⟩ &&
    Memory.read t.hostMem 0x438 = 0) = true := by decide +kernel
theorem test_tdisp_start : next (exec (.tdispRequest 4 .start) { linked with mgmt := { linked.mgmt with tdis := [(4, .configLocked)] } }) (fun t =>
    t.tdi 4 = .run) = true := by decide +kernel

/-- The descriptor of context 5 at 0x20000, a table of two code lengths at 0x30000, and context 1 without entries. -/
def commanded : State :=
  let s := with1 (fun x => { x with cabinet := [] }) (linked.modDie 0 fun d => { d with recs := [] })
  { s with mem := [(0x20000, 5), (0x20007, 0x80), (0x20010, 4), (0x30000, 1), (0x30001, 1)] }

/-- Context 1's page lies at peer 9; the command binds queue 3 to a word of it. -/
def remoteWord : State := { linked with ctxs := [(1, ctx1 { page 0 with peer := 9, mode := 1 })] }
def mgmtBind : Cmd := cmdOf [3, 1, tokOf 1, 0x800]

theorem test_bind_remote_word : next (exec (.bindSignalWord mgmtBind) remoteWord) (fun t => (t.queue 3).bound = some (10 * 2 ^ 40 + 0x800)) = true := by
  decide +kernel
theorem test_key_needs_session : linked.messageKey (cmdOf [1]) = none := by decide +kernel

theorem witness_CommandsAndReports :
    (let c := cmdOf [5, 0x20000, 0x500]
     let q : Nat → Nat := fun i => commanded.physNat (0x20000 + 8 * i) 8
     cmdZero c [1, 2, 3] = true ∧ cmdQuad c 1 = 5 ∧ commanded.ctxLive 5 = false ∧ isMapped 0x20000 = true ∧ isMapped (0x20000 + 127) = true ∧
       descriptorOk q 5 = true ∧ bitOf (q 0) 63 = true ∧ ({ commanded with ctxs := [] } : State).anyContext = false ∧
       (commanded.anyContext = true ∧ cmdQuad (cmdOf [5, 0x20000, 0]) 3 = 0)) ∧
    (cmdZero (cmdOf [1]) [1] = true ∧ commanded.ctxLive 1 = true ∧ commanded.ctxRecs 1 = [] ∧ commanded.entriesIn 1 .live = [] ∧
      commanded.entriesIn 1 .draining = []) ∧
    (let c := cmdOf [1 + 2 * 2 ^ 16]
     cmdQuad c 1 / 2 ^ 10 % 2 ^ 6 = 0 ∧ cmdQuad c 1 / 2 ^ 20 = 0 ∧ cmdQuad c 1 % 1024 = 1 ∧ cmdZero c [1] = true ∧ cmdZero c [1, 2] = true) ∧
    (let c := cmdOf [1, 0x030, 0x8000000000010000]
     cmdZero c [1, 2, 3] = true ∧ cmdQuad c 2 = 0x030 ∧ BitVec.ofNat 64 (cmdQuad c 3) &&& ~~~(0x800000FFFFFF8000 : W64) = 0) ∧
    (let c := cmdOf [1, 0x30000]
     cmdZero c [1, 2] = true ∧ cmdQuad c 1 / 4 % 4 = 0 ∧ cmdQuad c 1 / 64 = 0 ∧ isMapped 0x30000 = true ∧ isMapped (0x30000 + 255) = true) ∧
    validTable ((commanded.physBytes 0x30000 256).map (·.toNat)) = true ∧
    (let c := cmdOf [9 + 2 ^ 63, 0x8000000000000005]
     cmdZero c [1, 2] = true ∧ cmdQuad c 1 / 2 ^ 12 % 2 ^ 51 = 0 ∧ cmdQuad c 2 / 2 ^ 38 % 2 ^ 25 = 0 ∧ cmdQuad c 1 / 2 ^ 63 % 2 = 1 ∧
       cmdQuad (cmdOf [9, 0x8000000000000005]) 1 / 2 ^ 63 % 2 = 0 ∧ commanded.fab.out = [] ∧ commanded.fab.held = []) ∧
    (let c := cmdOf [3, 1, tokOf 1, 0x800]
     cmdZero c [1, 2, 3, 4] = true ∧ cmdQuad c 1 < 32 ∧ cmdQuad c 4 % 8 = 0 ∧ linked.ctxLive (cmdQuad c 2) = true ∧
       linked.checkCab 1 (tokOf 1) 0x800 8 needR = .ok (entryOf (page 0)) ∧ ((entryOf (page 0)).elemSegs 0 0x800 8).length = 1 ∧
       (∀ g ∈ (entryOf (page 0)).elemSegs 0 0x800 8, plainPart linked g)) ∧
    (linked.ctxAt (cmdQuad (cmdOf [1]) 1 % 1024)).tdi ∉ linked.mgmt.sessions ∧
    (let c := mgmtBind
     cmdZero c [1, 2, 3, 4] = true ∧ cmdQuad c 3 ≠ 0 ∧ remoteWord.ctxLive (cmdQuad c 2) = true ∧ cmdQuad c 4 % 8 = 0 ∧
       remoteWord.checkCab 1 (tokOf 1) 0x800 8 needR = .ok (entryOf { page 0 with peer := 9, mode := 1 }) ∧
       ((entryOf { page 0 with peer := 9, mode := 1 }).elemSegs 0 0x800 8).map (fun g => (g.frame.hole, remoteWord.isRemote g.frame, g.addr)) = [(false, true, 0x800)]) ∧
    (let c := cmdOf [1 + 2 * 2 ^ 16, tokOf 1, 0x800]
     cmdZero c [1, 2, 3] = true ∧ cmdQuad c 3 % 8 = 0 ∧ cmdQuad c 1 % 1024 = 1 ∧ cmdQuad c 1 / 2 ^ 20 = 0 ∧
       linked.checkCab 1 (tokOf 1) 0x800 8 needA = .ok (entryOf (page 0))) ∧
    (cmdZero (cmdOf [1, 2, 3, 4, 0x500]) [1, 2, 3, 4, 5] = true ∧ linked.mgmt.lmsIndex < 2 ^ 20 ∧
      2 ^ 20 ≤ ({ linked with mgmt := { linked.mgmt with lmsIndex := 2 ^ 20 } } : State).mgmt.lmsIndex) := by
  refine ⟨?_, ?_, ?_, ?_, ?_, ?_, ?_, ⟨?_, ?_, ?_, ?_, answer_eq ?_, ?_, plain_all ?_⟩, ?_, ⟨?_, ?_, ?_, ?_, answer_eq ?_, ?_⟩, ⟨?_, ?_, ?_, ?_, answer_eq ?_⟩, ?_⟩ <;> decide +kernel

theorem test_create_context : next (exec (.createContext (cmdOf [5, 0x20000, 0])) commanded) (fun t => t.ctxLive 5 && (t.ctxAt 5).sup &&
    (t.ctxAt 5).poolQuota = 4) = true := by decide +kernel
theorem test_set_register : next (exec (.setContextRegister (cmdOf [1, 0x023, 7])) linked) (fun t => (t.ctxAt 1).vsel = 7) = true := by decide +kernel

/-- Start-up step 18 has begun. -/
def starting : State := { linked with mgmt := { linked.mgmt with journal := [(journalWord 18 0 1, 0)], booting := [18] } }
/-- C is bound to a bundle whose record is at peer 9. -/
def bound9 : State := with0 (fun c => { c with binds := [(5, 9 * 2 ^ 20 + 5)] }) linked

theorem witness_LadderAndFirmware :
    tidy linked ∧ ((queue3 1 1 fun v => { v with busy := true }).queue 3).busy = true ∧ tidy (queue3 1 1 fun v => { v with busy := true }) ∧
    ((queue3 1 1).queue 3).base.host = true ∧ (0 : Nat) < 4 ∧
    ((linked.ctxAt 1).cabinet.all fun p => p.2.state != .busy && p.2.later.isEmpty) = true ∧ (linked.cab 1 1).state = .live ∧
    (let m := fun w : W64 => ({ linked.mgmt with journal := [(w, 0)] } : Management)
     linked.mgmt.lastEntry 18 = none ∧ (m (journalWord 18 0 3)).lastEntry 18 = some (3, 0) ∧ (m (journalWord 18 2 3)).lastEntry 18 = some (3, 2) ∧
       (m (journalWord 18 1 2)).lastEntry 18 = some (2, 1) ∧ (18 : Nat) ∉ linked.mgmt.booting) ∧
    (starting.mgmt.booting.contains 18 = true ∧ starting.mgmt.journal = [] ++ (journalWord 18 0 1, 0) :: [] ∧ (journalWord 18 0 1).toNat % 2 ^ 16 = 18 % 2 ^ 16) ∧
    (∃ c ∈ bound9.cores, c.2.mode ≠ .idle ∧ ∃ b ∈ c.2.binds, namePeer b.2 ≠ bound9.ownPeer) ∧
    ({ linked with mgmt := { linked.mgmt with heartbeatAt := some ⟨true, 0x500⟩ } } : State).mgmt.heartbeatAt = some ⟨true, 0x500⟩ := by
  refine ⟨tidy_of ?_, ?_, tidy_of ?_, ?_, ?_, ?_, ?_, ?_, ?_, ?_, ?_⟩ <;> decide +kernel

theorem test_boot_step_phases :
    next (exec (.bootStep 18 true 0) linked) (fun t => t.mgmt.journal = [(journalWord 18 0 1, 0)] && t.mgmt.booting = [18] &&
      next (exec (.bootStep 18 true 0) t) fun u => u.mgmt.journal = [(journalWord 18 0 2, 0)] && (u.dieAt 1).inService && u.mgmt.booting = []) = true := by
  decide +kernel
theorem test_boot_step_fails : next (exec (.bootStep 18 false 0) starting) (fun t => t.mgmt.journal = [(journalWord 18 0 3, 0)] && !(t.dieAt 1).inService) = true := by
  decide +kernel
theorem test_rung_4_tells : next (exec .resetRungModule bound9) (fun t => t.fab.undelivered.map (fun p => (p.dst, p.body)) = [(9, [BitVec.ofNat 64 (9 * 2 ^ 20 + 5)])]) = true := by
  decide +kernel

theorem test_reset_queue : next (exec (.resetRungQueue 3) (queue3 1 1 fun v => { v with busy := true })) (fun t => (t.queue 3).head = 1 &&
    !(t.queue 3).busy) = true := by decide +kernel
theorem test_heartbeat : next (exec .heartbeat { linked with mgmt := { linked.mgmt with heartbeatAt := some ⟨true, 0x500⟩ } }) (fun t =>
    Memory.read t.hostMem 0x500 = 1) = true := by decide +kernel
theorem test_boot_step_third_failure : next (exec (.bootStep 18 false 0) { linked with mgmt := { linked.mgmt with journal := [(journalWord 18 2 3, 0)] } }) (fun t =>
    t.mgmt.degraded = [18]) = true := by decide +kernel

end Sys2Proof.Tests
end

section
/-! The guard and the level of an instruction (R117, R118 check 5): every instruction with an encoding runs as `issue`
does, with the guard, the level and the literal slot that its word names. -/

namespace Sys2Proof

open Machine

/-- The meaning of `i`, where `i` is legal, is `issue` of some body with the guard, the level and the literal slot that
the word of `i` names. -/
def IssuesAsEncoded (i : Instr) : Prop :=
  ∃ body, ∀ s : State, i.legalIn s.str = true →
    exec i s = issue (Guard.unpack (encode i)) (supervisorForm (encode i)) (takesLiteral (encode i)) body s

/-- The guard and the opcode of the word decide how the instruction issues. -/
theorem issuesAsEncoded_of_word {i : Instr} {g : Guard} {op : Nat} {sup lit : Bool} {body : Act Flow}
    (hguard : Guard.unpack (encode i) = g) (hop : opcodeOf (encode i) = op)
    (hexec : ∀ s : State, i.legalIn s.str = true → exec i s = issue g sup lit body s)
    (hsup : ((0xD0 ≤ op && op ≤ 0xD6) || (0xDC ≤ op && op ≤ 0xE0)) = sup) (hlit : (op == 0x2E || op == 0xCF) = lit) :
    IssuesAsEncoded i := by
  refine ⟨body, fun s hlegal => ?_⟩
  rw [hexec s hlegal, hguard, supervisorForm, takesLiteral, hop, hsup, hlit]

/-- `lds` issues with one guard whether it reads a buffer or goes by a token (R206, R207). -/
theorem exec_lds_issues (f : FM) : ∃ body, ∀ s, exec (.lds f) s = issue f.g false false body s := by
  by_cases hbuf : f.hint = 3
  · exact ⟨_, fun s => by rw [exec_lds, execLds, if_pos hbuf]⟩
  · exact ⟨_, fun s => by rw [exec_lds, execLds, if_neg hbuf, tokenForm]⟩

/-- `sts` issues with one guard whether it writes a buffer or goes by a token (R206, R207). -/
theorem exec_sts_issues (f : FM) : ∃ body, ∀ s, exec (.sts f) s = issue f.g false false body s := by
  by_cases hbuf : f.hint = 3
  · exact ⟨_, fun s => by rw [exec_sts, execSts, if_pos hbuf]⟩
  · exact ⟨_, fun s => by rw [exec_sts, execSts, if_neg hbuf, tokenForm]⟩

/-- A `wait` that is legal in its stream is not one with `fin` in C (R288). -/
theorem not_fin_of_wait_legalIn {f : FL} {st : Stream} (hlegal : (Instr.wait f).legalIn st = true) :
    ¬(st = .c ∧ f.imm.getLsbD 25 = true) := by
  simpa only [Instr.legalIn, Bool.not_eq_true', Bool.and_eq_false_iff, decide_eq_false_iff_not, Bool.not_eq_true,
    not_and_or] using hlegal

/-- A `wait` that is legal in its stream issues. -/
theorem exec_wait_issues (f : FL) : ∃ body, ∀ s : State, (Instr.wait f).legalIn s.str = true →
    exec (.wait f) s = issue f.g false false body s :=
  ⟨_, fun s hlegal => by rw [exec_wait, execWait, if_neg (not_fin_of_wait_legalIn hlegal)]⟩

/-- Every instruction with an encoding issues as its word says: its format gives the guard field, and its opcode the
level and the literal slot. An event has no encoding. -/
theorem exec_issuesAsEncoded (i : Instr) (hwf : i.wf = true) : IssuesAsEncoded i := by
  cases i with
  | lds f =>
    obtain ⟨body, hexec⟩ := exec_lds_issues f
    exact issuesAsEncoded_of_word (FM.guard_pack _ f) (FM.opcode_pack _ f) (fun s _ => hexec s) rfl rfl
  | sts f =>
    obtain ⟨body, hexec⟩ := exec_sts_issues f
    exact issuesAsEncoded_of_word (FM.guard_pack _ f) (FM.opcode_pack _ f) (fun s _ => hexec s) rfl rfl
  | wait f =>
    obtain ⟨body, hexec⟩ := exec_wait_issues f
    exact issuesAsEncoded_of_word (FL.guard_pack _ f) (FL.opcode_pack _ f) hexec rfl rfl
  | add f | sub f | mul f | mulh f | mulhn f | div f | divn f | rem f | remn f | and f | or f | xor f | andn f | shl f
  | shr f | sra f | rol f | ror f | min f | max f | minn f | maxn f | cmpeq f | cmpne f | cmplt f | cmpltn f | cmple f
  | cmplen f | clz f | ctz f | popc f | xlat f | refresh f | tdrop f | tqueryCtl f | tqueryVbase f | tqueryLen f
  | tqueryCur f | tqueryGet f | tquerySet f | lqput f | sqget f | tchk f | sqdrop f | vadd f | vsub f | vmul f
  | vdiv f | vsqrt f | vfma f | vfms f | vfnma f | vfnms f | vmin f | vmax f | vabs f | vneg f | vabd f | vrcp f
  | vrsq f | vexp2 f | vlog2 f | vsin f | vcos f | vtanh f | vsigm f | vscale f | vround f | vclamp f | vsgnj f
  | vclass f | vcvt f | vdot f | vcmp f | vpadd f | vpack f | vunpack f | vredsum f | vredmax f | vredmin f
  | vredadd f | vredand f | vredor f | vredxor f | viadd f | visub f | vimul f | vimulh f | vimac f | vand f | vor f
  | vxor f | vandn f | vshl f | vshr f | vsra f | vimin f | vimax f | viminn f | vimaxn f | vicmp f | viabs f
  | vineg f | vpopc f | vclz f | vsel f | vperm f | vshuf f | vbcast f | vmov f | vzip f | vunzip f | vcompress f
  | vexpand f | vidx f | vpop f | vpush f | mand f | mor f | mxor f | mandn f | mnot f | mmov f | mset f | mget f
  | mcnt f | ckacc f | ckchk f | ckclr f | ckget f | mfirst f | revoke f | grant f | tsweep f | tcflush f | pgclass f
  | ctxsaveKeep f | ctxsaveDrop f | ctxload f | ctxloadEvict f | shelfput f =>
    exact issuesAsEncoded_of_word (F3.guard_pack _ f) (F3.opcode_pack _ f) (fun _ _ => rfl) rfl rfl
  | addi f | muli f | andi f | ori f | xori f | shli f | shri f | srai f | cmpeqi f | cmpnei f | cmplti f | cmpltni f
  | extr f | extrs f | uld f | yield f | exit f | gbar f | phase f | fence f | bnew f | bseal f | babort f
  | bviewNow f | bviewSet f | bviewClr f | bcheck f | bcheckCls f | viaddi f | vshli f | vshri f | vsrai f | vext f
  | vins f | vslide f | vimm f | ckpt f | ckroll f | roleset f | syscall f | tret f | halt f | stest f =>
    exact issuesAsEncoded_of_word (FI.guard_pack _ f) (FI.opcode_pack _ f) (fun _ _ => rfl) rfl rfl
  | limm f _ | vlimm f _ | csrr f | csrw f =>
    exact issuesAsEncoded_of_word (FL.guard_pack _ f) (FL.opcode_pack _ f) (fun _ _ => rfl) rfl rfl
  | br f | call f | ret f | loop f | start f | spawn f =>
    exact issuesAsEncoded_of_word (FB.guard_pack _ f) (FB.opcode_pack _ f) (fun _ _ => rfl) rfl rfl
  | await f | feed f | sigwait f | reqpg f | sigadd f | sigset f | ldacq f | strel f | wback f | inval f | discard f
  | pref f | bjoin f | vld f | ldb f | vst f | lld f | lst f | vlld f | vlst f | rprobe f =>
    exact issuesAsEncoded_of_word (FM.guard_pack _ f) (FM.opcode_pack _ f) (fun _ _ => rfl) rfl rfl
  | jpost f | remq f =>
    exact issuesAsEncoded_of_word (FJ.guard_pack _ f) (FJ.opcode_pack _ f) (fun _ _ => rfl) rfl rfl
  | aadd f | amin f | amax f | aminn f | amaxn f | aand f | aor f | axor f | aswap f | acas f | vlds f | vldx f
  | vsts f | vstx f =>
    exact issuesAsEncoded_of_word (FX.guard_pack _ f) (FX.opcode_pack _ f) (fun _ _ => rfl) rfl rfl
  | _ => exact absurd hwf Bool.false_ne_true

/-- Settles O9: `issue` makes the check of the level before it looks at the guard, and looks at the guard before it runs
the body. -/
theorem guardSkips : Obligations.GuardSkips := by
  intro i s hwf hlegal
  obtain ⟨body, hexec⟩ := exec_issuesAsEncoded i hwf
  refine ⟨fun hsup huser => ?_, fun hlevel hguard => ?_⟩
  · rw [hexec s hlegal, hsup]
    exact issue_priv _ _ body s huser
  · rw [hexec s hlegal]
    exact issue_skip _ _ _ body s hlevel hguard

end Sys2Proof
end

section
/-! The scalar integer forms (R133 to R140): how a form completes in each stream, what value each operation has, and
from these the two statements about the forms. -/

namespace Sys2Proof

open Machine

/-! ### How an integer form completes -/

/-- A scalar result completes an integer form in every stream: at once in C and A, in flight in X (R133, R134). -/
theorem integerResult_writeScalar (s : State) (lit : Bool) (lat d : Nat) (v : W64) :
    integerResult (.next ((s.writeScalar lat d v).advance lit)) s lit lat d v := by
  refine ⟨fun hx => ?_, fun hx => ?_⟩
  · rw [writeScalar_of_not_x s lat d v hx]
    exact writesScalar_wr s lit d v hx
  · rw [writeScalar_of_x s lat d v hx]
    exact entersFlight_launchX s lit _ hx

/-- An instruction that is a register form, its guard satisfied, writes the form's value on its two sources (R135). -/
theorem integerResult_intForm {f : F3} {s : State} {i : Instr} {lat : Nat} {op : W64 → W64 → W64} {v : W64}
    (hguard : s.guardHolds f.g = true) (hexec : exec i s = intForm f lat op s) (hv : op (s.rd f.s1) (s.rd f.s2) = v) :
    integerResult (exec i s) s false lat f.d.toNat v := by
  rw [hexec, intForm, issueSet_run f.g _ s hguard, hv]
  exact integerResult_writeScalar s false lat f.d.toNat v

/-- An instruction that is an immediate form, its guard satisfied, writes the form's value on its source and `b`
(R138). -/
theorem integerResult_immForm {f : FI} {s : State} {i : Instr} {lat : Nat} {b : W64} {op : W64 → W64 → W64} {v : W64}
    (hguard : s.guardHolds f.g = true) (hexec : exec i s = immForm f lat b op s) (hv : op (s.rd f.s1) b = v) :
    integerResult (exec i s) s false lat f.d.toNat v := by
  rw [hexec, immForm, issueSet_run f.g _ s hguard, hv]
  exact integerResult_writeScalar s false lat f.d.toNat v

/-- `limm` whose guard is satisfied writes its literal, and goes on past it (R140). -/
theorem integerResult_limm {f : FL} {s : State} (hguard : s.guardHolds f.g = true) (lit : W64) :
    integerResult (exec (.limm f lit) s) s true 1 f.d.toNat lit := by
  rw [exec_limm, execLimm, issue_run f.g true _ s hguard]
  exact integerResult_writeScalar s true 1 f.d.toNat lit

/-! ### The operations: sums, products and shifts (R136) -/

theorem addOp_eq (sat : Bool) (a b : W64) : addOp sat a b =
    if sat then clamp64 (a.toInt + b.toInt) else BitVec.ofNat 64 (a.toNat + b.toNat) := by
  rw [addOp, BitVec.ofNat_add, BitVec.ofNat_toNat, BitVec.ofNat_toNat, BitVec.setWidth_eq, BitVec.setWidth_eq]

theorem subOp_eq (sat : Bool) (a b : W64) : subOp sat a b =
    if sat then clamp64 (a.toInt - b.toInt) else BitVec.ofInt 64 (a.toNat - b.toNat) := by
  have hdiff : a - b = BitVec.ofInt 64 (a.toNat - b.toNat) := by
    apply BitVec.eq_of_toNat_eq
    rw [BitVec.toNat_sub, BitVec.toNat_ofInt]
    omega
  rw [subOp, hdiff]

theorem mulOp_eq (sat : Bool) (a b : W64) : mulOp sat a b =
    if sat then clamp64 (a.toInt * b.toInt) else BitVec.ofNat 64 (a.toNat * b.toNat) := by
  rw [mulOp, BitVec.ofNat_mul, BitVec.ofNat_toNat, BitVec.ofNat_toNat, BitVec.setWidth_eq, BitVec.setWidth_eq]

theorem mulhOp_eq (a b : W64) : mulhOp a b = (BitVec.ofInt 128 (a.toInt * b.toInt)).extractLsb' 64 64 := by
  rw [mulhOp]
  generalize a.toInt * b.toInt = p
  apply BitVec.eq_of_toNat_eq
  rw [toNat_extract, BitVec.toNat_ofInt, BitVec.toNat_ofInt]
  omega

theorem mulhnOp_eq (a b : W64) : mulhnOp a b = (BitVec.ofNat 128 (a.toNat * b.toNat)).extractLsb' 64 64 := by
  rw [mulhnOp]
  generalize a.toNat * b.toNat = p
  apply BitVec.eq_of_toNat_eq
  rw [toNat_extract, BitVec.toNat_ofNat, BitVec.toNat_ofNat]
  omega

theorem shlOp_eq (a b : W64) : shlOp a b = BitVec.ofNat 64 (a.toNat * 2 ^ (b.toNat % 64)) := by
  apply BitVec.eq_of_toNat_eq
  rw [shlOp, BitVec.toNat_shiftLeft, BitVec.toNat_ofNat, Nat.shiftLeft_eq]

theorem shrOp_eq (a b : W64) : shrOp a b = BitVec.ofNat 64 (a.toNat / 2 ^ (b.toNat % 64)) := by
  rw [shrOp, ← Nat.shiftRight_eq_div_pow, ← BitVec.toNat_ushiftRight, BitVec.ofNat_toNat, BitVec.setWidth_eq]

theorem sraOp_eq (a b : W64) : sraOp a b = BitVec.ofInt 64 (a.toInt / 2 ^ (b.toNat % 64)) := by
  rw [sraOp, BitVec.sshiftRight, Int.shiftRight_eq_div_pow]
  norm_cast

/-- A left rotation takes bit `i` to bit `i + k` modulo 64. -/
theorem rolOp_getLsbD (a b : W64) (i : Nat) (hi : i < 64) :
    (rolOp a b).getLsbD ((i + b.toNat % 64) % 64) = a.getLsbD i := by
  have hk : b.toNat % 64 < 64 := Nat.mod_lt _ (by decide)
  rw [rolOp, BitVec.getLsbD_rotateLeft_of_le hk]
  by_cases hwrap : i + b.toNat % 64 < 64
  · rw [Nat.mod_eq_of_lt hwrap]
    simp [hwrap]
  · have hmod : (i + b.toNat % 64) % 64 = i + b.toNat % 64 - 64 := by omega
    rw [hmod, show decide (i + b.toNat % 64 - 64 < b.toNat % 64) = true by simp; omega]
    exact congrArg a.getLsbD (by omega)

/-- A right rotation takes bit `i + k` modulo 64 to bit `i`. -/
theorem rorOp_getLsbD (a b : W64) (i : Nat) (hi : i < 64) :
    (rorOp a b).getLsbD i = a.getLsbD ((i + b.toNat % 64) % 64) := by
  have hk : b.toNat % 64 < 64 := Nat.mod_lt _ (by decide)
  rw [rorOp, BitVec.getLsbD_rotateRight_of_lt hk]
  by_cases hwrap : i < 64 - b.toNat % 64
  · rw [show decide (i < 64 - b.toNat % 64) = true by simpa using hwrap]
    exact congrArg a.getLsbD (by omega)
  · rw [show decide (i < 64 - b.toNat % 64) = false by simpa using hwrap]
    simp only [cond_false, hi, decide_true, Bool.true_and]
    exact congrArg a.getLsbD (by omega)

/-! ### Lesser, greater and compares (R136) -/

theorem minOp_toInt (a b : W64) : (minOp a b).toInt = min a.toInt b.toInt := by
  rw [minOp, apply_ite BitVec.toInt, min_def]

theorem maxOp_toInt (a b : W64) : (maxOp a b).toInt = max a.toInt b.toInt := by
  rw [maxOp, apply_ite BitVec.toInt, max_def]

theorem minnOp_toNat (a b : W64) : (minnOp a b).toNat = min a.toNat b.toNat := by
  rw [minnOp, apply_ite BitVec.toNat, min_def]

theorem maxnOp_toNat (a b : W64) : (maxnOp a b).toNat = max a.toNat b.toNat := by
  rw [maxnOp, apply_ite BitVec.toNat, max_def]

/-- A compare's value is 1 where its condition holds and 0 otherwise. -/
theorem flag_of_iff {c : Bool} {p : Prop} (h : c = true ↔ p) : (p → flag c = 1) ∧ (¬ p → flag c = 0) :=
  ⟨fun hp => if_pos (h.2 hp), fun hp => if_neg (mt h.1 hp)⟩

/-! ### Counts (R136) -/

theorem bitOf_toNat (a : W64) (i : Nat) : bitOf a.toNat i = a.getLsbD i := by
  rw [bitOf, BitVec.getLsbD, Nat.testBit_eq_decide_div_mod_eq, beq_eq_decide]

theorem clzNat_le (w n : Nat) : clzNat w n ≤ w := by
  unfold clzNat
  split <;> omega

/-- The leading zero bits end below the highest set bit. -/
theorem sub_clzNat_of_ne_zero {w n : Nat} (hne : n ≠ 0) (hlt : n < 2 ^ w) : w - clzNat w n = n.log2 + 1 := by
  have hlog : n.log2 < w := (Nat.log2_lt hne).2 hlt
  rw [clzNat, if_neg hne]
  omega

/-- The leading bits that `clz` counts are zero. -/
theorem clzNat_testBit_high {w n i : Nat} (hlt : n < 2 ^ w) (hi : w - clzNat w n ≤ i) : n.testBit i = false := by
  by_cases hzero : n = 0
  · rw [hzero, Nat.zero_testBit]
  · rw [sub_clzNat_of_ne_zero hzero hlt] at hi
    exact Nat.testBit_lt_two_pow (Nat.lt_of_lt_of_le Nat.lt_log2_self (Nat.pow_le_pow_right (by decide) hi))

/-- The bit below those that `clz` counts is set. -/
theorem clzNat_testBit_next {w n : Nat} (hlt : n < 2 ^ w) (hclz : clzNat w n < w) :
    n.testBit (w - 1 - clzNat w n) = true := by
  have hne : n ≠ 0 := fun hzero => by
    rw [clzNat, if_pos hzero] at hclz
    exact Nat.lt_irrefl w hclz
  have htop : w - 1 - clzNat w n = n.log2 := by
    have := sub_clzNat_of_ne_zero hne hlt
    omega
  rw [htop]
  exact Nat.testBit_log2 hne

/-- `ctz` counts the zero bits below the first set bit, or all bits where none is set. -/
theorem ctzNat_spec (w n : Nat) : ctzNat w n ≤ w ∧ (∀ i, i < ctzNat w n → bitOf n i = false) ∧
    (ctzNat w n < w → bitOf n (ctzNat w n) = true) := by
  unfold ctzNat
  cases hfind : (List.range w).find? fun i => bitOf n i with
  | none =>
    refine ⟨Nat.le_refl w, fun i hi => ?_, fun hlt => absurd hlt (Nat.lt_irrefl w)⟩
    simpa using List.find?_eq_none.1 hfind i (List.mem_range.2 hi)
  | some k =>
    obtain ⟨hset, hmem, hbelow⟩ := List.find?_range_eq_some.1 hfind
    exact ⟨Nat.le_of_lt (List.mem_range.1 hmem), fun i hi => by simpa using hbelow i hi, fun _ => hset⟩

theorem popcOp_eq (a : W64) :
    popcOp a = BitVec.ofNat 64 ((List.range 64).filter fun i => a.getLsbD i).length := by
  simp only [popcOp, popNat, bitOf_toNat]

/-! ### Division (R137) -/

/-- Division by 0 gives all ones, and leaves the dividend as the remainder. -/
theorem div_forms_of_zero (a : W64) {b : W64} (hb : b = 0) : divOp a b = 0xFFFFFFFFFFFFFFFF ∧ remOp a b = a ∧
    divnOp a b = 0xFFFFFFFFFFFFFFFF ∧ remnOp a b = a :=
  ⟨if_pos hb, if_pos hb, if_pos hb, if_pos hb⟩

theorem divOp_of_ne_zero {a b : W64} (hb : b ≠ 0) : divOp a b = a.sdiv b := by
  rw [divOp, if_neg hb]
  apply BitVec.eq_of_toInt_eq
  rw [BitVec.toInt_ofInt, BitVec.toInt_sdiv]

theorem remOp_of_ne_zero {a b : W64} (hb : b ≠ 0) : remOp a b = a.srem b := by
  rw [remOp, if_neg hb, ← BitVec.toInt_srem, BitVec.ofInt_toInt]

theorem divnOp_of_ne_zero {a b : W64} (hb : b ≠ 0) : divnOp a b = a / b := by
  rw [divnOp, if_neg hb, ← BitVec.toNat_udiv, BitVec.ofNat_toNat, BitVec.setWidth_eq]

theorem remnOp_of_ne_zero {a b : W64} (hb : b ≠ 0) : remnOp a b = a % b := by
  rw [remnOp, if_neg hb, ← BitVec.toNat_umod, BitVec.ofNat_toNat, BitVec.setWidth_eq]

/-- The least number divided by -1 overflows to itself, with remainder 0. -/
theorem div_forms_of_least {a b : W64} (ha : a.toInt = -(2 ^ 63)) (hb : b.toInt = -1) :
    divOp a b = 0x8000000000000000 ∧ remOp a b = 0 := by
  have hleast : a = 0x8000000000000000 := BitVec.eq_of_toInt_eq ha
  have hminus : b = 0xFFFFFFFFFFFFFFFF := BitVec.eq_of_toInt_eq hb
  subst hleast hminus
  decide

/-- Unsigned quotient and remainder: the remainder is below the divisor. -/
theorem divn_remn_spec {a b : W64} (hb : b ≠ 0) :
    a.toNat = (divnOp a b).toNat * b.toNat + (remnOp a b).toNat ∧ (remnOp a b).toNat < b.toNat := by
  rw [divnOp_of_ne_zero hb, remnOp_of_ne_zero hb, BitVec.toNat_udiv, BitVec.toNat_umod]
  have hpos : 0 < b.toNat := Nat.pos_of_ne_zero fun h => hb (BitVec.eq_of_toNat_eq h)
  exact ⟨(Nat.div_add_mod' _ _).symm, Nat.mod_lt _ hpos⟩

/-- A truncating remainder is 0 or has the sign of the dividend. -/
theorem tmod_zero_or_sign (a b : Int) : a.tmod b = 0 ∨ (a.tmod b < 0 ↔ a < 0) := by
  have hsign := Int.sign_tmod a b
  split at hsign
  · exact .inl (Int.sign_eq_zero_iff_zero.1 hsign)
  · exact .inr (by rw [← Int.sign_eq_neg_one_iff_neg, hsign, Int.sign_eq_neg_one_iff_neg])

/-- Signed quotient and remainder, where the quotient does not overflow. -/
theorem div_rem_spec {a b : W64} (hb : b ≠ 0) (hfits : ¬ (a.toInt = -(2 ^ 63) ∧ b.toInt = -1)) :
    a.toInt = (divOp a b).toInt * b.toInt + (remOp a b).toInt ∧
      (remOp a b).toInt.natAbs < b.toInt.natAbs ∧ ((remOp a b).toInt = 0 ∨ ((remOp a b).toInt < 0 ↔ a.toInt < 0)) := by
  have hquot : (divOp a b).toInt = a.toInt.tdiv b.toInt := by
    rw [divOp_of_ne_zero hb]
    refine BitVec.toInt_sdiv_of_ne_or_ne a b (not_and_or.1 fun ⟨ha, hm⟩ => hfits ?_)
    rw [ha, hm]
    decide
  have hrem : (remOp a b).toInt = a.toInt.tmod b.toInt := by rw [remOp_of_ne_zero hb, BitVec.toInt_srem]
  have hpos : 0 < b.toInt.natAbs := Int.natAbs_pos.2 fun h => hb (BitVec.eq_of_toInt_eq h)
  rw [hquot, hrem, Int.natAbs_tmod]
  exact ⟨(Int.tdiv_mul_add_tmod _ _).symm, Nat.mod_lt _ hpos, tmod_zero_or_sign _ _⟩

/-! ### Fields of the immediate (R138, R139) -/

theorem immSx_toNat_mod (f : FI) : (immSx f).toNat % 2 ^ 30 = f.imm.toNat := by
  have hlt := f.imm.isLt
  rw [immSx, BitVec.toNat_signExtend, BitVec.toNat_setWidth]
  split <;> omega

theorem imm6_toNat (f : FI) : (imm6 f).toNat % 64 = f.imm.toNat % 64 := by
  rw [imm6, BitVec.toNat_ofNat]
  omega

/-- The field that `extr` and `extrs` extract: `imm` packs its place and its length less 1 (R139). -/
def immField (f : FI) (a : W64) : Nat :=
  a.toNat / 2 ^ (f.imm.toNat % 64) % 2 ^ (f.imm.toNat / 64 % 64 + 1)

theorem extractOp_immSx (signed : Bool) (f : FI) (a : W64) : extractOp signed a (immSx f) =
    if signed && bitOf (immField f a) (f.imm.toNat / 64 % 64) then
      BitVec.ofInt 64 (immField f a - 2 ^ (f.imm.toNat / 64 % 64 + 1))
    else BitVec.ofNat 64 (immField f a) := by
  have hfield := immSx_toNat_mod f
  have hpos : (immSx f).toNat % 64 = f.imm.toNat % 64 := by omega
  have hlen : (immSx f).toNat / 64 % 64 = f.imm.toNat / 64 % 64 := by omega
  simp only [extractOp, immField, hpos, hlen, Nat.add_sub_cancel]
  norm_cast

theorem extractOp_unsigned (f : FI) (a : W64) : extractOp false a (immSx f) = BitVec.ofNat 64 (immField f a) :=
  extractOp_immSx false f a

theorem extractOp_signed (f : FI) (a : W64) : extractOp true a (immSx f) =
    if immField f a / 2 ^ (f.imm.toNat / 64 % 64) % 2 = 1 then
      BitVec.ofInt 64 (immField f a - 2 ^ (f.imm.toNat / 64 % 64 + 1))
    else BitVec.ofNat 64 (immField f a) := by
  rw [extractOp_immSx, Bool.true_and, bitOf]
  simp only [beq_iff_eq]

theorem shlOp_imm6 (f : FI) (a : W64) : shlOp a (imm6 f) = BitVec.ofNat 64 (a.toNat * 2 ^ (f.imm.toNat % 64)) := by
  rw [shlOp_eq, imm6_toNat]

theorem shrOp_imm6 (f : FI) (a : W64) : shrOp a (imm6 f) = BitVec.ofNat 64 (a.toNat / 2 ^ (f.imm.toNat % 64)) := by
  rw [shrOp_eq, imm6_toNat]

theorem sraOp_imm6 (f : FI) (a : W64) : sraOp a (imm6 f) = BitVec.ofInt 64 (a.toInt / 2 ^ (f.imm.toNat % 64)) := by
  rw [sraOp_eq, imm6_toNat]

/-! ### The obligations -/

/-- Settles O12: each register form writes its operation's value (`integerResult_intForm`), which the rules of the
operations above give. -/
theorem integerForms : Obligations.IntegerForms := by
  refine ⟨fun f s hguard => ?_, fun f s hguard => ?_⟩
  · extract_lets a b k r clamped one
    refine ⟨?add, ?sub, ?mul, ?mulh, ?mulhn, ?and, ?or, ?xor, ?andn, ?shl, ?shr, ?sra, ?rol, ?ror, ?min, ?max, ?minn,
      ?maxn, ?cmpeq, ?cmpne, ?cmplt, ?cmpltn, ?cmple, ?cmplen, ?clz, ?ctz, ?popc⟩
    case add => exact integerResult_intForm hguard (exec_add f s) (addOp_eq f.sat a b)
    case sub => exact integerResult_intForm hguard (exec_sub f s) (subOp_eq f.sat a b)
    case mul => exact integerResult_intForm hguard (exec_mul f s) (mulOp_eq f.sat a b)
    case mulh => exact integerResult_intForm hguard (exec_mulh f s) (mulhOp_eq a b)
    case mulhn => exact integerResult_intForm hguard (exec_mulhn f s) (mulhnOp_eq a b)
    case and => exact integerResult_intForm hguard (exec_and f s) rfl
    case or => exact integerResult_intForm hguard (exec_or f s) rfl
    case xor => exact integerResult_intForm hguard (exec_xor f s) rfl
    case andn => exact integerResult_intForm hguard (exec_andn f s) rfl
    case shl => exact integerResult_intForm hguard (exec_shl f s) (shlOp_eq a b)
    case shr => exact integerResult_intForm hguard (exec_shr f s) (shrOp_eq a b)
    case sra => exact integerResult_intForm hguard (exec_sra f s) (sraOp_eq a b)
    case rol => exact ⟨_, integerResult_intForm hguard (exec_rol f s) rfl, rolOp_getLsbD a b⟩
    case ror => exact ⟨_, integerResult_intForm hguard (exec_ror f s) rfl, rorOp_getLsbD a b⟩
    case min => exact ⟨_, integerResult_intForm hguard (exec_min f s) rfl, minOp_toInt a b⟩
    case max => exact ⟨_, integerResult_intForm hguard (exec_max f s) rfl, maxOp_toInt a b⟩
    case minn => exact ⟨_, integerResult_intForm hguard (exec_minn f s) rfl, minnOp_toNat a b⟩
    case maxn => exact ⟨_, integerResult_intForm hguard (exec_maxn f s) rfl, maxnOp_toNat a b⟩
    case cmpeq => exact ⟨_, integerResult_intForm hguard (exec_cmpeq f s) rfl, flag_of_iff beq_iff_eq⟩
    case cmpne => exact ⟨_, integerResult_intForm hguard (exec_cmpne f s) rfl, flag_of_iff bne_iff_ne⟩
    case cmplt => exact ⟨_, integerResult_intForm hguard (exec_cmplt f s) rfl, flag_of_iff decide_eq_true_iff⟩
    case cmpltn => exact ⟨_, integerResult_intForm hguard (exec_cmpltn f s) rfl, flag_of_iff decide_eq_true_iff⟩
    case cmple => exact ⟨_, integerResult_intForm hguard (exec_cmple f s) rfl, flag_of_iff decide_eq_true_iff⟩
    case cmplen => exact ⟨_, integerResult_intForm hguard (exec_cmplen f s) rfl, flag_of_iff decide_eq_true_iff⟩
    case clz =>
      exact ⟨clzNat 64 a.toNat, clzNat_le 64 a.toNat, integerResult_intForm hguard (exec_clz f s) rfl,
        fun i => clzNat_testBit_high a.isLt, clzNat_testBit_next a.isLt⟩
    case ctz =>
      obtain ⟨hle, hlow, hset⟩ := ctzNat_spec 64 a.toNat
      simp only [bitOf_toNat] at hlow hset
      exact ⟨ctzNat 64 a.toNat, hle, integerResult_intForm hguard (exec_ctz f s) rfl, hlow, hset⟩
    case popc => exact integerResult_intForm hguard (exec_popc f s) (popcOp_eq a)
  · extract_lets a b r
    have hdiv {v : W64} (hv : divOp a b = v) : r (.div f) v := integerResult_intForm hguard (exec_div f s) hv
    have hrem {v : W64} (hv : remOp a b = v) : r (.rem f) v := integerResult_intForm hguard (exec_rem f s) hv
    have hdivn {v : W64} (hv : divnOp a b = v) : r (.divn f) v := integerResult_intForm hguard (exec_divn f s) hv
    have hremn {v : W64} (hv : remnOp a b = v) : r (.remn f) v := integerResult_intForm hguard (exec_remn f s) hv
    refine ⟨fun hzero => ?_, fun ha hb => ?_, fun hb => ?_, fun hb hfits => ?_⟩
    · obtain ⟨hq, hm, hqn, hmn⟩ := div_forms_of_zero a hzero
      exact ⟨hdiv hq, hrem hm, hdivn hqn, hremn hmn⟩
    · obtain ⟨hq, hm⟩ := div_forms_of_least ha hb
      exact ⟨hdiv hq, hrem hm⟩
    · exact ⟨_, _, hdivn rfl, hremn rfl, divn_remn_spec hb⟩
    · exact ⟨_, _, hdiv rfl, hrem rfl, div_rem_spec hb hfits⟩

/-- Settles O13: each immediate form writes its operation's value on its source and the immediate
(`integerResult_immForm`), the extracts the field that the immediate packs, and `limm` its literal. -/
theorem immediateForms : Obligations.ImmediateForms := by
  intro f l lit s hguard hguardL
  extract_lets a b k len field r one
  refine ⟨?addi, ?muli, ?andi, ?ori, ?xori, ?shli, ?shri, ?srai, ?cmpeqi, ?cmpnei, ?cmplti, ?cmpltni, ?extr, ?extrs,
    ?limm⟩
  case addi => exact integerResult_immForm hguard (exec_addi f s) rfl
  case muli => exact integerResult_immForm hguard (exec_muli f s) rfl
  case andi => exact integerResult_immForm hguard (exec_andi f s) rfl
  case ori => exact integerResult_immForm hguard (exec_ori f s) rfl
  case xori => exact integerResult_immForm hguard (exec_xori f s) rfl
  case shli => exact integerResult_immForm hguard (exec_shli f s) (shlOp_imm6 f a)
  case shri => exact integerResult_immForm hguard (exec_shri f s) (shrOp_imm6 f a)
  case srai => exact integerResult_immForm hguard (exec_srai f s) (sraOp_imm6 f a)
  case cmpeqi => exact ⟨_, integerResult_immForm hguard (exec_cmpeqi f s) rfl, flag_of_iff beq_iff_eq⟩
  case cmpnei => exact ⟨_, integerResult_immForm hguard (exec_cmpnei f s) rfl, flag_of_iff bne_iff_ne⟩
  case cmplti => exact ⟨_, integerResult_immForm hguard (exec_cmplti f s) rfl, flag_of_iff decide_eq_true_iff⟩
  case cmpltni => exact ⟨_, integerResult_immForm hguard (exec_cmpltni f s) rfl, flag_of_iff decide_eq_true_iff⟩
  case extr => exact fun _ => integerResult_immForm hguard (exec_extr f s) (extractOp_unsigned f a)
  case extrs => exact fun _ => integerResult_immForm hguard (exec_extrs f s) (extractOp_signed f a)
  case limm => exact integerResult_limm hguardL lit

end Sys2Proof
end
